-- ==== Sys2Proof/Word.lean ====
section
/-!
DEFINITION. The octet, a text of octets, and rounding division: the plainest words the rest is written in
(spec/00_scope.md section 4.5, spec/11_the_console_link.md section 11.5).
-/
namespace Sys2Proof

/-- An octet of a console or air frame, or one character of a text. -/
abbrev Octet := BitVec 8

/-- A text field: its characters in order. -/
abbrev Text := List Octet

/-- Division rounded up to a whole number (spec/00_scope.md section 4.5). -/
def ceilDiv (a b : Nat) : Nat := (a + b - 1) / b

end Sys2Proof
end

