-- ==== Sys2Proof/Syntax.lean ====
section
/-!
DEFINITION. The commands: one constructor of `Instr` for each row of spec/opcode_table.json. A console request's
operands are its tag and the fields of its rule; a code that may name no value of its enumeration is a plain number
(the request is then refused with BAD_FIELD by its meaning).
-/
namespace Sys2Proof

/-- A settings set as a request gives it (R41): codes 0 INTERVAL, 1 STILLNESS, 2 TASK and 0 LATCHED, 1 SELF_CLEAR,
2 REPORT_ONLY, then I, W, task duration and stillness limit. -/
structure SettingsIn where
  timer : Nat
  alarm : Nat
  interval : Nat
  lead : Nat
  task : Nat
  still : Nat
  deriving DecidableEq, Repr

/-- A watch profile as a request gives it (spec/02 section 2.1). -/
structure ProfileIn where
  seat : Nat
  set : SettingsIn
  deriving DecidableEq, Repr

/-- A step as LOAD_PERMIT gives it (spec/04 section 4.1): action code 0 OPEN, 1 CLOSE, 2 GROUND, 3 UNGROUND, 4 VERIFY;
required position code 0 OPEN, 1 CLOSED, 2 GROUNDED, 3 UNKNOWN, or none. -/
structure StepIn where
  point : Nat
  action : Nat
  required : Option Nat
  hold : Bool
  confirm : Bool
  deriving DecidableEq, Repr

/-- A step's name: its list (0 isolate, 1 restore; an air item may carry another code, which names no step) and its
number in the list, from 1 (R65). -/
structure StepId where
  list : Nat
  num : Nat
  deriving DecidableEq, Repr

/-- An item of an uplink frame (spec/11 section 11.5, R145). `other` is an item whose code names none, with the
length of its fields. -/
inductive Item where
  | register
  | checkIn (seat : Nat)
  | motion (seat value : Nat)
  | taskDone (seat : Nat)
  | emergency (seat : Nat)
  | orderReply (order code : Nat)
  | permitAccept (permit : Nat)
  | workDone (permit : Nat)
  | stepAsk (permit : Nat) (step : StepId) (point action : Nat)
  | stepDone (permit : Nat) (step : StepId) (position : Nat)
  | other (code length : Nat)
  deriving DecidableEq, Repr

/-- The header of a REPLY or BURST with its uplink number, and the route of the relayed form it arrived in (empty
for the direct form) (R131, R154). -/
structure Header where
  relay : List Nat
  truck : Nat
  zone : Nat
  uplink : Nat
  deriving DecidableEq, Repr

/-- The check a console frame fails (R177). -/
inductive FrameFault where
  | length
  | crc
  | body
  deriving DecidableEq, Repr

/-- The commands of spec/opcode_table.json, one constructor per row, in the table's order. -/
inductive Instr where
  | enrollTruck (tag truck : Nat)
  | removeTruck (tag truck : Nat)
  | queryTruck (tag truck : Nat)
  | postOrder (tag order prio : Nat) (loc desc : Text) (cands : List Nat) (profile : Option ProfileIn)
  | assignOrder (tag order truck : Nat)
  | changeOrder (tag order : Nat) (prio : Option Nat) (loc desc : Option Text) (cands : Option (List Nat))
      (profile : Option ProfileIn) (remove : Bool)
  | cancelOrder (tag order : Nat)
  | retireOrder (tag order : Nat)
  | queryOrder (tag order : Nat)
  | setOfferTimeout (tag secs : Nat)
  | setWatch (tag truck seat : Nat) (set : SettingsIn)
  | startWatch (tag truck seat : Nat)
  | stopWatch (tag truck seat : Nat)
  | closeAlarm (tag truck seat : Nat)
  | queryWatch (tag truck seat : Nat)
  | loadPermit (tag permit holder : Nat) (linked : Option Nat) (iso rest : List StepIn)
  | issuePermit (tag permit : Nat)
  | haltPermit (tag permit : Nat)
  | resumePermit (tag permit : Nat)
  | cancelPermit (tag permit : Nat)
  | retirePermit (tag permit : Nat)
  | queryPermit (tag permit : Nat)
  | decideStep (tag permit : Nat) (step : StepId) (decision : Nat)
  | queryPending (tag : Nat)
  | setDecisionTimeout (tag secs : Nat)
  | setPoint (tag point position : Nat)
  | queryPoint (tag point : Nat)
  | sendText (tag truck : Nat) (text : Text)
  | setAnswerDiscard (tag secs : Nat)
  | queryQueue (tag truck : Nat)
  | setAir (tag rate window slots budget : Nat)
  | queryAir (tag : Nat)
  | setSite (tag site parent lo hi hop timeout : Nat)
  | clearSite (tag site : Nat)
  | setSitePolicy (tag policy : Nat)
  | setZoneGrace (tag first last grace : Nat)
  | querySites (tag : Nat)
  | queryZone (tag zone : Nat)
  | setLoadBands (tag t1 t2 t3 h : Nat)
  | setBandEntry (tag band interval allowance : Nat)
  | queryLoad (tag : Nat)
  | setSupervision (tag mode window : Nat)
  | querySupervision (tag : Nat)
  | resume (tag : Nat)
  | status (tag : Nat)
  | identify (tag : Nat)
  | setTime (tag value : Nat)
  | setLink (tag rate : Nat)
  | keepalive (tag : Nat)
  | restart (tag : Nat)
  | unknownRequest (kind tag : Nat)
  | failedFrame (why : FrameFault)
  | octetGap
  | replySent (receiving : Bool)
  | noticeSent
  | warmReset
  | coldReset
  | carrierOn
  | carrierOff
  | reply (hdr : Header) (acks : List Nat) (items : List Item)
  | burst (hdr : Header) (item : Item)
  | beacon (relay : List Nat) (site : Nat)
  | rejectedFrame
  | offerTimeout (order : Nat)
  | warning (truck seat : Nat)
  | deadline (truck seat : Nat)
  | decisionTimeout (permit : Nat)
  | discardTime (truck permit : Nat)
  | lapse
  | beaconTimeout (site : Nat)
  | cycleStart
  | openWindowEnd
  | windowClosing
  | periodEnd
  | resetLineAssertion
  deriving DecidableEq, Repr

end Sys2Proof
end

