-- ==== Sys2Proof/WellFormed.lean ====
section
/-!
DEFINITION. Which commands an octet frame can spell: every operand fits the field its rule gives it
(spec/11_the_console_link.md section 11.5). The meanings do not need this; a sender that keeps to the octet layouts
sends nothing else.
-/
namespace Sys2Proof

/-- A count field: one octet. -/
def fitsOctet (n : Nat) : Bool := n < 256

/-- A number field: two octets. -/
def fitsNumber (n : Nat) : Bool := n < 65536

/-- A time field: four octets. -/
def fitsTime (n : Nat) : Bool := n < 4294967296

/-- An identifier that may be none travels as 0 for none, so a present one is not 0. -/
def fitsOptNumber : Option Nat → Bool
  | none => true
  | some n => 0 < n && fitsNumber n

/-- A text travels behind one length octet. -/
def fitsText (t : Text) : Bool := t.length < 256

/-- A list of numbers travels behind one count octet. -/
def fitsNumbers (l : List Nat) : Bool := l.length < 256 && l.all fitsNumber

def SettingsIn.wf (x : SettingsIn) : Bool :=
  fitsOctet x.timer && fitsOctet x.alarm && fitsNumber x.interval && fitsNumber x.lead && fitsNumber x.task
    && fitsNumber x.still

def ProfileIn.wf (p : ProfileIn) : Bool := fitsOctet p.seat && p.set.wf

def fitsProfile : Option ProfileIn → Bool
  | none => true
  | some p => p.wf

def StepIn.wf (x : StepIn) : Bool :=
  fitsNumber x.point && fitsOctet x.action &&
    (match x.required with
     | none => true
     | some r => r < 255)

def StepId.wf (x : StepId) : Bool := fitsOctet x.list && fitsOctet x.num

def Item.wf : Item → Bool
  | .register => true
  | .checkIn seat => fitsOctet seat
  | .motion seat value => fitsOctet seat && fitsOctet value
  | .taskDone seat => fitsOctet seat
  | .emergency seat => fitsOctet seat
  | .orderReply order code => fitsNumber order && fitsOctet code
  | .permitAccept permit => fitsNumber permit
  | .workDone permit => fitsNumber permit
  | .stepAsk permit step point action => fitsNumber permit && step.wf && fitsNumber point && fitsOctet action
  | .stepDone permit step position => fitsNumber permit && step.wf && fitsOctet position
  | .other code length => fitsOctet code && fitsOctet length

/-- A relayed form names one or two sites (R131, R154). -/
def fitsRelay (l : List Nat) : Bool := l.length ≤ 2 && l.all fitsOctet

def Header.wf (h : Header) : Bool :=
  fitsRelay h.relay && fitsNumber h.truck && fitsOctet h.zone && fitsOctet h.uplink

/-- The kind codes that name a request (spec/11 section 11.5). -/
def isRequestKind (kind : Nat) : Bool := 0x01 ≤ kind && kind ≤ 0x32

/-- Every operand fits its field. -/
def Instr.wf : Instr → Bool
  | .enrollTruck tag truck => fitsOctet tag && fitsNumber truck
  | .removeTruck tag truck => fitsOctet tag && fitsNumber truck
  | .queryTruck tag truck => fitsOctet tag && fitsNumber truck
  | .postOrder tag order prio loc desc cands profile =>
      fitsOctet tag && fitsNumber order && fitsOctet prio && fitsText loc && fitsText desc && fitsNumbers cands
        && fitsProfile profile
  | .assignOrder tag order truck => fitsOctet tag && fitsNumber order && fitsNumber truck
  | .changeOrder tag order prio loc desc cands profile _ =>
      fitsOctet tag && fitsNumber order && (prio.all fitsOctet) && (loc.all fitsText) && (desc.all fitsText)
        && (cands.all fitsNumbers) && fitsProfile profile
  | .cancelOrder tag order => fitsOctet tag && fitsNumber order
  | .retireOrder tag order => fitsOctet tag && fitsNumber order
  | .queryOrder tag order => fitsOctet tag && fitsNumber order
  | .setOfferTimeout tag secs => fitsOctet tag && fitsNumber secs
  | .setWatch tag truck seat set => fitsOctet tag && fitsNumber truck && fitsOctet seat && set.wf
  | .startWatch tag truck seat => fitsOctet tag && fitsNumber truck && fitsOctet seat
  | .stopWatch tag truck seat => fitsOctet tag && fitsNumber truck && fitsOctet seat
  | .closeAlarm tag truck seat => fitsOctet tag && fitsNumber truck && fitsOctet seat
  | .queryWatch tag truck seat => fitsOctet tag && fitsNumber truck && fitsOctet seat
  | .loadPermit tag permit holder linked iso rest =>
      fitsOctet tag && fitsNumber permit && fitsNumber holder && fitsOptNumber linked && iso.length < 256
        && iso.all StepIn.wf && rest.length < 256 && rest.all StepIn.wf
  | .issuePermit tag permit => fitsOctet tag && fitsNumber permit
  | .haltPermit tag permit => fitsOctet tag && fitsNumber permit
  | .resumePermit tag permit => fitsOctet tag && fitsNumber permit
  | .cancelPermit tag permit => fitsOctet tag && fitsNumber permit
  | .retirePermit tag permit => fitsOctet tag && fitsNumber permit
  | .queryPermit tag permit => fitsOctet tag && fitsNumber permit
  | .decideStep tag permit step decision => fitsOctet tag && fitsNumber permit && step.wf && fitsOctet decision
  | .queryPending tag => fitsOctet tag
  | .setDecisionTimeout tag secs => fitsOctet tag && fitsNumber secs
  | .setPoint tag point position => fitsOctet tag && fitsNumber point && fitsOctet position
  | .queryPoint tag point => fitsOctet tag && fitsNumber point
  | .sendText tag truck text => fitsOctet tag && fitsNumber truck && fitsText text
  | .setAnswerDiscard tag secs => fitsOctet tag && fitsNumber secs
  | .queryQueue tag truck => fitsOctet tag && fitsNumber truck
  | .setAir tag rate window slots budget =>
      fitsOctet tag && fitsOctet rate && fitsNumber window && fitsOctet slots && fitsOctet budget
  | .queryAir tag => fitsOctet tag
  | .setSite tag site parent lo hi hop timeout =>
      fitsOctet tag && fitsOctet site && fitsOctet parent && fitsOctet lo && fitsOctet hi && fitsNumber hop
        && fitsNumber timeout
  | .clearSite tag site => fitsOctet tag && fitsOctet site
  | .setSitePolicy tag policy => fitsOctet tag && fitsOctet policy
  | .setZoneGrace tag first last grace => fitsOctet tag && fitsOctet first && fitsOctet last && fitsNumber grace
  | .querySites tag => fitsOctet tag
  | .queryZone tag zone => fitsOctet tag && fitsOctet zone
  | .setLoadBands tag t1 t2 t3 h => fitsOctet tag && fitsNumber t1 && fitsNumber t2 && fitsNumber t3 && fitsOctet h
  | .setBandEntry tag band interval allowance =>
      fitsOctet tag && fitsOctet band && fitsNumber interval && fitsNumber allowance
  | .queryLoad tag => fitsOctet tag
  | .setSupervision tag mode window => fitsOctet tag && fitsOctet mode && fitsNumber window
  | .querySupervision tag => fitsOctet tag
  | .resume tag => fitsOctet tag
  | .status tag => fitsOctet tag
  | .identify tag => fitsOctet tag
  | .setTime tag value => fitsOctet tag && fitsTime value
  | .setLink tag rate => fitsOctet tag && fitsOctet rate
  | .keepalive tag => fitsOctet tag
  | .restart tag => fitsOctet tag
  | .unknownRequest kind tag => fitsOctet kind && !isRequestKind kind && fitsOctet tag
  | .failedFrame _ => true
  | .octetGap => true
  | .replySent _ => true
  | .noticeSent => true
  | .warmReset => true
  | .coldReset => true
  | .carrierOn => true
  | .carrierOff => true
  | .reply hdr acks items => hdr.wf && acks.length < 256 && acks.all fitsOctet && items.length < 256 && items.all Item.wf
  | .burst hdr item => hdr.wf && item.wf
  | .beacon relay site => fitsRelay relay && fitsOctet site
  | .rejectedFrame => true
  | .offerTimeout order => 0 < order && fitsNumber order
  | .warning truck seat => 1 ≤ truck && truck ≤ 999 && (seat == 1 || seat == 2)
  | .deadline truck seat => 1 ≤ truck && truck ≤ 999 && (seat == 1 || seat == 2)
  | .decisionTimeout permit => 0 < permit && fitsNumber permit
  | .discardTime truck permit => 1 ≤ truck && truck ≤ 999 && 0 < permit && fitsNumber permit
  | .lapse => true
  | .beaconTimeout site => 1 ≤ site && site ≤ 7
  | .cycleStart => true
  | .openWindowEnd => true
  | .windowClosing => true
  | .periodEnd => true
  | .resetLineAssertion => true

end Sys2Proof
end

