-- ==== Sys2Proof/Decode.lean ====
section
/-!
DEFINITION. The table's own bits: spec/opcode_table.json gives none of its rows any bits ("fields" is empty and no row
has "fixed"), so no word spells a command by the table. The octet layouts of spec/11_the_console_link.md section 11.5,
which do spell requests, replies, notices and air frames, are in Sys2Proof/Machine/Wire.lean.
-/
namespace Sys2Proof

/-- The command a word spells by the table's bits: no row has any, so none. -/
def decodeTableWord (_nbits _w : Nat) : Option Instr := none

end Sys2Proof
end

