-- ==== Sys2Proof/Config.lean ====
section
/-!
DEFINITION. What the spec leaves to the implementation or leaves open: constants without a body, so that no proof
can see what they are. What is stated of the model holds for every value of them.
-/
namespace Sys2Proof

/-- IDENTIFY's vendor code (R182 names the field and gives no value). Free value; notes/assumptions/13.md. -/
opaque Config.vendorCode : Nat

/-- IDENTIFY's silicon revision (R182 names the field and gives no value). Free value; notes/assumptions/13.md. -/
opaque Config.siliconRevision : Nat

/-- Which of several timers reached at one moment is taken first, as a function of how many such choices were made
before (spec/00_scope.md section 4.2: either order). Free value; notes/assumptions/2.md. -/
opaque Config.dueChoice : Nat → Nat

/-- Whether a downlink frame whose end falls at the very moment `t` (ms) of another event is counted before that
event (spec/00_scope.md section 4.2: either order). Free value; notes/assumptions/14.md. -/
opaque Config.frameEndFirst : Nat → Bool

/-- The second after 4294967294 (R182: the clock counts to 4294967294 and runs on without pause; what it shows next
is not stated). Free value, used modulo 4294967295; notes/assumptions/4.md. -/
opaque Config.secondsAfterLast : Nat

end Sys2Proof
end

