-- ==== Sys2Proof/Machine/State.lean ====
section
/-!
DEFINITION. All the state the spec gives the part, block by block, as plain data, and the state right after a cold
reset. Times of the supervision and permit timers are mission seconds; air times are milliseconds of the mission clock
(spec/00_scope.md section 4.1). Tables are kept in ascending order of their key (notes/assumptions/27.md).
-/
namespace Sys2Proof.Machine

/-! ## Enumerations -/

/-- Reachability of a truck (spec/01 section 1.3). -/
inductive Reach where
  | absent | reachable | missed | lost
  deriving DecidableEq, Repr

/-- Position of a point (R66, R88). A hold names one of the first three. -/
inductive Position where
  | open | closed | grounded | unknown
  deriving DecidableEq, Repr

/-- Action of a step (R66). -/
inductive Action where
  | open | close | ground | unground | verify
  deriving DecidableEq, Repr

/-- State of a step (spec/04 section 4.1). -/
inductive StepState where
  | pending | asked | answered | executing | done
  deriving DecidableEq, Repr

/-- Result of a DONE step (spec/04 section 4.1). -/
inductive StepResult where
  | normal | abnormal
  deriving DecidableEq, Repr

/-- Step refusal reasons (spec/00_scope.md section 4.7), in its order. -/
inductive Reason where
  | mismatch | notActive | halted | outOfOrder | crewAlarm | unattended | heldByOther | pointBusy | holdLimit
  | unknownPosition | position | denied | timeout | busy
  deriving DecidableEq, Repr

/-- State of a permit (spec/04 section 4.1). -/
inductive PermitState where
  | loaded | issued | isolating | cleared | restoring | closed | cancelled
  deriving DecidableEq, Repr

/-- A halt cause (R78). -/
inductive Cause where
  | host | alarm | mismatch | conflict | site
  deriving DecidableEq, Repr

/-- State of an order (spec/02 section 2.1). -/
inductive OrderState where
  | queued | offered | accepted | enRoute | onSite | complete | cancelled
  deriving DecidableEq, Repr

/-- Disposition of an ORDER record (R24). -/
inductive Disposition where
  | offer | held | withdrawn | cancelled
  deriving DecidableEq, Repr

/-- Timer mode of a watch context (spec/03 section 3.1). -/
inductive TimerMode where
  | interval | stillness | task
  deriving DecidableEq, Repr

/-- Alarm mode of a watch context (spec/03 section 3.1). -/
inductive AlarmMode where
  | latched | selfClear | reportOnly
  deriving DecidableEq, Repr

/-- State of a watch context (spec/03 section 3.1). -/
inductive WatchState where
  | idle | watch | warn | alarm
  deriving DecidableEq, Repr

/-- Cause of an alarm (spec/03 section 3.1). -/
inductive AlarmCause where
  | deadline | taskOverrun | stillness | emergency
  deriving DecidableEq, Repr

/-- Kind of a PROMPT record (R53). -/
inductive PromptKind where
  | due | alarmed
  deriving DecidableEq, Repr

/-- Answer an ANSWER record gives (R91). -/
inductive AnswerKind where
  | grant | held | refuse
  deriving DecidableEq, Repr

/-- State of a repeater site (R149). -/
inductive SiteState where
  | unused | up | down
  deriving DecidableEq, Repr

/-- Site-down policy (R158). -/
inductive Policy where
  | global | affected
  deriving DecidableEq, Repr

/-- Supervision mode (spec/10 section 10.1). -/
inductive SupMode where
  | off | report | act
  deriving DecidableEq, Repr

/-- Console state (spec/10 section 10.1). -/
inductive ConsoleState where
  | attended | unattended
  deriving DecidableEq, Repr

/-- Phase of a cycle (spec/07 section 7.3). -/
inductive Phase where
  | list | window | gap
  deriving DecidableEq, Repr

/-- Kind of a turn (R137). -/
inductive TurnKind where
  | rollCall | urgent
  deriving DecidableEq, Repr

/-- Originator of a record (R112). -/
inductive Originator where
  | console | part
  deriving DecidableEq, Repr

/-- How far a RESTART has come (R178, R184). -/
inductive RestartStage where
  | running | served | replied
  deriving DecidableEq, Repr

/-- Reply result codes (spec/00_scope.md section 4.6), in its order. -/
inductive Result where
  | ok | clamped | unknownRequest | badField | notFound | duplicate | tableFull | wrongState | limit | queueFull
  | inUse | badOrder | rangeOverlap | tooLate | permitOpen | orderMismatch | crewAlarm | stillAlarm | stillConflict
  deriving DecidableEq, Repr

/-! ## Lone-Worker Watch -/

/-- A settings set (spec/03 section 3.1). -/
structure Settings where
  timer : TimerMode
  alarm : AlarmMode
  interval : Nat
  lead : Nat
  task : Nat
  still : Nat
  deriving DecidableEq, Repr

/-- A watch profile of an order (spec/02 section 2.1). -/
structure Profile where
  seat : Nat
  set : Settings
  deriving DecidableEq, Repr

/-- The event flags of a watch context (spec/03 section 3.1). -/
structure EventFlags where
  warned : Bool
  alarmed : Bool
  contactAfterAlarm : Bool
  stagedApplied : Bool
  deriving DecidableEq, Repr

/-- An open alarm: its cause and the mission second it was raised (spec/03 section 3.1). -/
structure Alarm where
  cause : AlarmCause
  raised : Nat
  deriving DecidableEq, Repr

/-- One watch context (spec/03 section 3.1, R39). The warning time is an integer: D minus W can lie before 0
(notes/assumptions/18.md). -/
structure Watch where
  state : WatchState
  set : Settings
  staged : Option Settings
  lastContact : Option Nat
  startTime : Option Nat
  deadline : Option Nat
  warnTime : Option Int
  grace : Nat
  allowance : Nat
  stillAcc : Nat
  stillSince : Option Nat
  startedBy : Option Nat
  warnCount : Nat
  flags : EventFlags
  alarm : Option Alarm
  deriving DecidableEq, Repr

/-! ## Permits, points, pending requests -/

/-- The halt-cause set of a permit: each cause at most once (R65, R78). -/
structure Causes where
  host : Bool
  alarm : Bool
  mismatch : Bool
  conflict : Bool
  site : Bool
  deriving DecidableEq, Repr

/-- A step of a permit (spec/04 section 4.1). -/
structure StepRec where
  point : Nat
  action : Action
  required : Option Position
  hold : Bool
  confirm : Bool
  state : StepState
  result : Option StepResult
  sent : Bool
  reason : Option Reason
  deriving DecidableEq, Repr

/-- A permit record (spec/04 section 4.1, R65). -/
structure Permit where
  num : Nat
  holder : Nat
  linked : Option Nat
  state : PermitState
  causes : Causes
  iso : List StepRec
  rest : List StepRec
  issueTime : Option Nat
  deriving DecidableEq, Repr

/-- A hold of a permit on a point (R89). -/
structure Hold where
  permit : Nat
  position : Position
  deriving DecidableEq, Repr

/-- The busy mark of a point (R90). -/
structure BusyMark where
  permit : Nat
  step : StepId
  deriving DecidableEq, Repr

/-- A point record (spec/05 section 5.1, R88). -/
structure Point where
  num : Nat
  position : Position
  holds : List Hold
  busy : Option BusyMark
  refCount : Nat
  deriving DecidableEq, Repr

/-- An entry of the pending-request list (spec/05 section 5.4, R98). -/
structure Ask where
  permit : Nat
  step : StepId
  holder : Nat
  askTime : Nat
  expiry : Nat
  deriving DecidableEq, Repr

/-! ## Orders -/

/-- An order record (spec/02 section 2.1, R17), with the expiry of its offer timer (R22). -/
structure Order where
  num : Nat
  prio : Nat
  loc : Text
  desc : Text
  state : OrderState
  assigned : Option Nat
  cands : List Nat
  tried : List Nat
  profile : Option Profile
  linked : Option Nat
  offerTime : Option Nat
  offerExpiry : Option Nat
  deriving DecidableEq, Repr

/-! ## Outbound queues -/

/-- The subject of a record (R113). -/
inductive Subject where
  | order (n : Nat)
  | permit (n : Nat)
  | answer (n : Nat)
  | prompt (seat : Nat)
  | assist
  | text
  deriving DecidableEq, Repr

/-- Content of an ORDER record (R24). -/
structure OrderContent where
  num : Nat
  disp : Disposition
  state : Option OrderState
  prio : Nat
  loc : Text
  desc : Text
  linked : Option Nat
  permitOpen : Bool
  deriving DecidableEq, Repr

/-- One step in the content of a PERMIT record (R72). -/
structure StepContent where
  step : StepId
  point : Nat
  action : Action
  required : Option Position
  hold : Bool
  confirm : Bool
  done : Bool
  deriving DecidableEq, Repr

/-- Content of a PERMIT record (R72). It is HALTED while the causes are not empty. -/
structure PermitContent where
  num : Nat
  state : PermitState
  causes : Causes
  linked : Option Nat
  steps : List StepContent
  deriving DecidableEq, Repr

/-- Content of an ANSWER record (R91): the reason for REFUSE, the point, action and required position for GRANT. -/
structure AnswerContent where
  permit : Nat
  step : StepId
  kind : AnswerKind
  reason : Option Reason
  point : Option Nat
  action : Option Action
  required : Option Position
  deriving DecidableEq, Repr

/-- Content of a PROMPT record (R53). -/
structure PromptContent where
  seat : Nat
  kind : PromptKind
  deadline : Option Nat
  cause : Option AlarmCause
  deriving DecidableEq, Repr

/-- An entry of an assist list (R60). -/
structure AssistEntry where
  truck : Nat
  seat : Nat
  zone : Nat
  lastContact : Option Nat
  deriving DecidableEq, Repr

/-- The full current content of a record's subject, by kind (R113). -/
inductive Content where
  | order (c : OrderContent)
  | permit (c : PermitContent)
  | answer (c : AnswerContent)
  | prompt (c : PromptContent)
  | assist (l : List AssistEntry)
  | text (t : Text)
  deriving DecidableEq, Repr

/-- A record of an outbound queue (spec/06 section 6.1). Kind, subject, class and size follow the content (R113). -/
structure Rec where
  content : Content
  seq : Nat
  attempts : Nat
  inFlight : Bool
  entry : Nat
  discard : Option Nat
  origin : Originator
  deriving DecidableEq, Repr

/-! ## Trucks -/

/-- A truck record (spec/01 section 1.1), with its uplink acknowledgement list (R132). -/
structure Truck where
  num : Nat
  reach : Reach
  miss : Nat
  zone : Option Nat
  lastHeard : Option Nat
  w1 : Watch
  w2 : Watch
  orderSlots : List Nat
  permitSlots : List Nat
  queue : List Rec
  seqCtr : Nat
  upAcks : List Nat
  deriving DecidableEq, Repr

/-! ## Sites -/

/-- A site record for sites 1 to 7 (spec/08 section 8.1, R149). Site 0 is fixed and is not stored. -/
structure Site where
  num : Nat
  state : SiteState
  parent : Nat
  range : Option (Nat × Nat)
  hop : Nat
  timeout : Nat
  lastBeacon : Option Nat
  deriving DecidableEq, Repr

/-! ## The air channel -/

/-- A downlink frame as handed to the transceiver link (R131). -/
inductive DownFrame where
  | poll (route : List Nat) (truck : Nat) (acks : List Nat) (recs : List (Nat × Content))
  | open (slots : Nat)
  deriving DecidableEq, Repr

/-- The turn record (R137). Times in ms. -/
structure Turn where
  truck : Nat
  kind : TurnKind
  route : List Nat
  pollEnd : Nat
  winOpen : Nat
  winClose : Nat
  abandoned : Bool
  deriving DecidableEq, Repr

/-- An entry of the cycle list still to be taken: its truck number, and whether the number still names the record it
named when the list was formed (R136). -/
structure ListEntry where
  truck : Nat
  live : Bool
  deriving DecidableEq, Repr

/-- The Roll-Call Scheduler (R133, R134, R142, R143, R148). Times in ms. `urgentRun` counts the urgent turns of the LIST phase
since the last roll-call turn; its value at a reset, at a cycle start and in GAP is the model's (DESIGN CHOICE:
notes/assumptions/51.md). -/
structure Air where
  rate : Nat
  rateWaiting : Option Nat
  replyWindow : Nat
  slots : Nat
  budget : Nat
  phase : Phase
  cycle : Nat
  startTime : Nat
  nextStart : Nat
  list : List ListEntry
  turn : Option Turn
  urgentRun : Nat
  winSlots : Nat
  winEnd : Nat
  startReached : Bool
  overruns : Nat
  missedTurns : Nat
  rejected : Nat
  skipped : Nat
  ttx : Option DownFrame
  deriving DecidableEq, Repr

/-! ## The Load Meter -/

/-- Load thresholds and hysteresis (spec/09 section 9.1). -/
structure Thresholds where
  t1 : Nat
  t2 : Nat
  t3 : Nat
  h : Nat
  deriving DecidableEq, Repr

/-- A band-table entry: roll-call interval and check-in allowance, in s (R168). -/
structure BandEntry where
  interval : Nat
  allowance : Nat
  deriving DecidableEq, Repr

/-- An interval of the channel's time, in ms: from `lo` up to `hi` (R163). -/
structure Span where
  lo : Nat
  hi : Nat
  deriving DecidableEq, Repr

/-- The Load Meter (spec/09 section 9.1). `carrier` is the time of the last carrier-on while ON, none while OFF.
`sent` holds the downlink frames not yet counted (they count at their end, R163), `covers` the frames counted since
the open carrier interval began (R164). -/
structure Load where
  periodStart : Nat
  busy : Nat
  carrier : Option Nat
  sample : Option Nat
  level : Nat
  band : Nat
  thr : Thresholds
  thrStaged : Option Thresholds
  table : List BandEntry
  staged : List (Option BandEntry)
  sent : List Span
  covers : List Span
  deriving DecidableEq, Repr

/-! ## Notices -/

/-- Reasons of a WATCH_STATE notice (R64). -/
inductive WatchReason where
  | start | orderStart | stop | orderStop | close | checkIn | motion
  deriving DecidableEq, Repr

/-- The kind of an item a notice names. -/
inductive ItemKind where
  | checkIn | motion | taskDone | emergency | permitAccept | workDone | stepAsk | stepDone
  deriving DecidableEq, Repr

/-- Reply codes of an ORDER_REPLY (spec/02 section 2.6). -/
inductive ReplyCode where
  | accept | decline | enRoute | onSite | complete
  deriving DecidableEq, Repr

/-- Reasons of a PERMIT_IGNORED notice (R74, R76). -/
inductive PermitIgnored where
  | state | notHolder | unknownPermit | halted
  deriving DecidableEq, Repr

/-- Reasons of a STEP_IGNORED notice (R95, R97, R105). -/
inductive StepIgnored where
  | queueFull | answerStanding | unknownPermit | notHolder | noStep | notGranted
  deriving DecidableEq, Repr

/-- Reasons of an abnormal end (R107). -/
inductive AbnormalReason where
  | position | holdRefused
  deriving DecidableEq, Repr

/-- Source of a HOLD_CONFLICT (spec/05 section 5.8). -/
inductive ConflictSource where
  | telemetry
  | stepDone (permit : Nat) (step : StepId)
  deriving DecidableEq, Repr

/-- Reasons of an UNDELIVERABLE notice (R123). -/
inductive LossReason where
  | attempts | discarded
  deriving DecidableEq, Repr

/-- The content summary of a record (R123, R130). -/
inductive Summary where
  | order (d : Disposition)
  | permit (st : PermitState)
  | answer (k : AnswerKind) (step : StepId)
  | prompt (k : PromptKind)
  | assist (entries : Nat)
  | text (length : Nat)
  deriving DecidableEq, Repr

/-- The notices with their fields (kinds in the order of spec/11 section 11.5). Times are stamps. -/
inductive NoticeBody where
  | alarm (truck seat : Nat) (cause : AlarmCause) (mode : AlarmMode) (zone : Option Nat) (lastContact : Option Nat)
      (placed : Bool)
  | contact (truck seat : Nat) (item : ItemKind) (lastContact : Option Nat)
  | holdConflict (point : Nat) (position hold : Position) (permits : List Nat) (source : ConflictSource)
  | consoleLapsed (lastValid : Option Nat) (window answered superseded alarms : Nat)
  | truckState (truck : Nat) (reach : Reach) (miss : Nat) (zone : Option Nat)
  | zoneChange (truck : Nat) (old : Option Nat) (new : Nat)
  | unknownTruck (truck zone : Nat)
  | orderState (order : Nat) (state : OrderState) (assigned : Option Nat)
  | noTaker (order prio : Nat)
  | orderIgnored (order truck : Nat) (code : ReplyCode)
  | lateAccept (order truck : Nat) (state : OrderState) (assigned : Option Nat)
  | completeBlocked (order truck permit : Nat) (state : PermitState)
  | watchState (truck seat : Nat) (state : WatchState) (reason : WatchReason) (deadline : Option Nat)
      (startedBy : Option Nat)
  | warn (truck seat : Nat) (mode : TimerMode) (deadline : Option Nat) (count : Nat) (placed : Bool)
  | recovered (truck seat : Nat) (item : ItemKind) (deadline : Option Nat)
  | taskEnded (truck seat : Nat) (startTime : Option Nat)
  | permitState (permit : Nat) (state : PermitState) (holder : Nat) (linked : Option Nat) (causes : Causes)
  | permitHalt (permit holder : Nat) (cause : Cause) (added : Bool) (causes : Causes)
  | permitIgnored (permit truck : Nat) (item : ItemKind) (reason : PermitIgnored) (state : Option PermitState)
  | stepPending (permit : Nat) (step : StepId) (point : Nat) (action : Action) (holder expiry : Nat)
  | decisionTimeout (permit : Nat) (step : StepId) (holder : Nat) (placed : Bool)
  | stepResult (permit : Nat) (step : StepId) (point : Nat) (position : Position) (result : StepResult)
      (reason : Option AbnormalReason)
  | doneAfterRevoke (permit : Nat) (step : StepId) (point : Nat) (position : Position) (state : PermitState)
  | stepIgnored (truck : Nat) (item : ItemKind) (permit : Nat) (step : StepId) (reason : StepIgnored)
      (refusal : Option Reason)
  | undeliverable (truck : Nat) (subject : Subject) (summary : Summary) (origin : Originator) (reason : LossReason)
      (attempts entry : Nat)
  | textDelivered (truck seq length : Nat)
  | siteState (site : Nat) (old new : SiteState) (lastBeacon : Option Nat)
  | loadBand (old new level sample : Nat) (thr : Thresholds)
  deriving DecidableEq, Repr

/-- A notice: its stamp and its kind with its fields; its tag is 0 (R180). -/
structure Notice where
  stamp : Nat
  body : NoticeBody
  deriving DecidableEq, Repr

/-! ## Replies -/

/-- QUERY_TRUCK's report (R3). Each context gives its state, timer mode and alarm mode. -/
structure TruckReport where
  num : Nat
  reach : Reach
  miss : Nat
  zone : Option Nat
  lastHeard : Option Nat
  orderSlots : List Nat
  permitSlots : List Nat
  ctx1 : WatchState × TimerMode × AlarmMode
  ctx2 : WatchState × TimerMode × AlarmMode
  queued : Nat
  deriving DecidableEq, Repr

/-- QUERY_ORDER's report (R36). -/
structure OrderReport where
  num : Nat
  prio : Nat
  loc : Text
  desc : Text
  state : OrderState
  assigned : Option Nat
  cands : List Nat
  tried : List Nat
  profile : Option Profile
  linked : Option Nat
  offerTime : Option Nat
  remaining : Option Nat
  deriving DecidableEq, Repr

/-- QUERY_WATCH's report (R59). -/
structure WatchReport where
  seat : Nat
  state : WatchState
  set : Settings
  staged : Option Settings
  lastContact : Option Nat
  startTime : Option Nat
  deadline : Option Nat
  warnTime : Option Nat
  grace : Nat
  allowance : Nat
  stillAcc : Nat
  stillSince : Option Nat
  startedBy : Option Nat
  warnCount : Nat
  flags : EventFlags
  alarm : Option Alarm
  elapsed : Option Nat
  remaining : Option Nat
  deriving DecidableEq, Repr

/-- QUERY_PERMIT's report (R87). `record` is whether the permit's PERMIT record in the holder's queue is in flight,
none where no such record stands. -/
structure PermitReport where
  num : Nat
  holder : Nat
  linked : Option Nat
  state : PermitState
  issueTime : Option Nat
  causes : Causes
  iso : List StepRec
  rest : List StepRec
  record : Option Bool
  asked : Bool
  deriving DecidableEq, Repr

/-- One entry of QUERY_PENDING's report (R98). -/
structure AskReport where
  permit : Nat
  step : StepId
  holder : Nat
  askTime : Nat
  expiry : Nat
  point : Option Nat
  action : Option Action
  remaining : Nat
  deriving DecidableEq, Repr

/-- QUERY_POINT's report (R111). -/
structure PointReport where
  num : Nat
  position : Position
  refCount : Nat
  holds : List Hold
  busy : Option BusyMark
  verifying : List BusyMark
  deriving DecidableEq, Repr

/-- One record of QUERY_QUEUE's report (R130). -/
structure RecReport where
  subject : Subject
  urgent : Bool
  units : Nat
  seq : Nat
  attempts : Nat
  inFlight : Bool
  entry : Nat
  discard : Option Nat
  origin : Originator
  summary : Summary
  deriving DecidableEq, Repr

/-- QUERY_QUEUE's report (R130). -/
structure QueueReport where
  seqCtr : Nat
  budget : Nat
  recs : List RecReport
  leading : Nat
  deriving DecidableEq, Repr

/-- The turn in flight in QUERY_AIR's report: the window as offsets in ms from now (R148). -/
structure TurnReport where
  truck : Nat
  kind : TurnKind
  route : List Nat
  abandoned : Bool
  opening : Int
  closing : Int
  deriving DecidableEq, Repr

/-- QUERY_AIR's report (R148). -/
structure AirReport where
  rate : Nat
  replyWindow : Nat
  slots : Nat
  budget : Nat
  rateWaiting : Option Nat
  phase : Phase
  cycle : Nat
  startTime : Nat
  nextStart : Nat
  list : List Nat
  turn : Option TurnReport
  window : Option (Nat × Nat)
  overruns : Nat
  missedTurns : Nat
  rejected : Nat
  skipped : Nat
  deriving DecidableEq, Repr

/-- One site of QUERY_SITES's report (R160). -/
structure SiteReport where
  state : SiteState
  parent : Option Nat
  range : Option (Nat × Nat)
  hop : Option Nat
  timeout : Option Nat
  lastBeacon : Option Nat
  remaining : Option Nat
  trucks : Nat
  deriving DecidableEq, Repr

/-- QUERY_ZONE's report (R160). -/
structure ZoneReport where
  grace : Nat
  serving : Nat
  route : List Nat
  passesDown : Bool
  trucks : List Nat
  deriving DecidableEq, Repr

/-- QUERY_LOAD's report (R170). -/
structure LoadReport where
  level : Nat
  band : Nat
  sample : Option Nat
  busy : Nat
  left : Nat
  carrierOn : Bool
  thr : Thresholds
  thrStaged : Option Thresholds
  table : List BandEntry
  staged : List (Option BandEntry)
  deriving DecidableEq, Repr

/-- The derived flags of STATUS (R181). -/
structure DerivedFlags where
  alarmOpen : Bool
  warnOpen : Bool
  permitHalted : Bool
  siteDown : Bool
  truckLost : Bool
  deriving DecidableEq, Repr

/-- The sticky flags (R181). -/
structure StickyFlags where
  restarted : Bool
  linkFault : Bool
  lapsed : Bool
  noticesLost : Bool
  deriving DecidableEq, Repr

/-- STATUS's report (R181). -/
structure StatusReport where
  console : ConsoleState
  level : Nat
  band : Nat
  overruns : Nat
  trucks : Nat
  orders : Nat
  permits : Nat
  points : Nat
  asks : Nat
  notices : Nat
  derived : DerivedFlags
  sticky : StickyFlags
  deriving DecidableEq, Repr

/-- The fields of a reply behind its result code, by the owner's rule (R178, R179). A refused request has none. -/
inductive ReplyBody where
  | none
  | truckNumber (n : Nat)
  | truck (r : TruckReport)
  | order (r : OrderReport)
  | setWatch (staged : Bool)
  | started (deadline warnTime : Option Nat)
  | watch (r : WatchReport)
  | loaded (iso rest : Nat)
  | causes (c : Causes)
  | permit (r : PermitReport)
  | decided (kind : AnswerKind) (reason : Option Reason)
  | asks (l : List AskReport)
  | point (r : PointReport)
  | text (seq units : Nat)
  | queue (r : QueueReport)
  | airSettings (rate window slots budget : Nat)
  | air (r : AirReport)
  | sites (policy : Policy) (l : List SiteReport)
  | zone (r : ZoneReport)
  | graces (first last grace : Nat)
  | bands (thr : Thresholds) (nextEnd : Nat)
  | bandEntry (e : BandEntry)
  | load (r : LoadReport)
  | supSet (mode : SupMode) (window : Nat) (console : ConsoleState)
  | sup (mode : SupMode) (window : Nat) (console : ConsoleState) (lastValid remaining : Option Nat)
  | resumed (before : ConsoleState)
  | status (r : StatusReport)
  | identity (vendor : Nat) (part : Text) (revision : Nat) (capacities : List Nat)
  | time (secs : Nat)
  | link (rate : Nat)
  deriving DecidableEq, Repr

/-- A buffered request: its kind and tag, and its reply (R178). -/
structure Entry where
  kind : Nat
  tag : Nat
  code : Result
  body : ReplyBody
  deriving DecidableEq, Repr

/-- The frame being sent on CTX: the reply of the oldest buffered request, or a notice (R179). -/
inductive TxFrame where
  | reply (e : Entry)
  | notice (n : Notice)
  deriving DecidableEq, Repr

/-! ## The console side and the clock -/

/-- The receiver between octets of CRX (R177): discarding until a start octet, or within a frame, whose octets behind the
start octet stand in `got`, with the time in ms of the last octet. -/
inductive Rx where
  | hunting
  | within (got : List Octet) (last : Nat)
  deriving DecidableEq, Repr

/-- The Console Port (R177 to R184). -/
structure Port where
  rx : Rx
  buffer : List Entry
  notices : List Notice
  ctx : Option TxFrame
  sticky : StickyFlags
  rate : Nat
  rateToCome : Option Nat
  restart : RestartStage
  deriving DecidableEq, Repr

/-- The Console Supervisor (spec/10 section 10.1). -/
structure Sup where
  mode : SupMode
  window : Nat
  console : ConsoleState
  lastValid : Option Nat
  lapse : Option Nat
  deriving DecidableEq, Repr

/-- The Time Base (R182). -/
structure Clock where
  sec : Nat
  ms : Nat
  offset : Nat
  deriving DecidableEq, Repr

/-- The three timeouts the console computer sets: offer timeout (R38), decision timeout (R100), answer discard time
(R125), in s. -/
structure Timeouts where
  offer : Nat
  decision : Nat
  discard : Nat
  deriving DecidableEq, Repr

/-- The whole part. `held` is RESETN asserted (R184). `askArb`, `choices` and `pending` are the model's own
(INVENTORY.md). -/
structure State where
  clock : Clock
  held : Bool
  port : Port
  sup : Sup
  trucks : List Truck
  orders : List Order
  permits : List Permit
  points : List Point
  asks : List Ask
  timeouts : Timeouts
  air : Air
  sites : List Site
  policy : Policy
  graces : List Nat
  load : Load
  askArb : Bool
  choices : Nat
  pending : List Instr
  deriving DecidableEq, Repr

/-- Reasons a step faults: none. No rule of the spec stops the part: a request that cannot be carried out is answered
with a result code, a bad frame sets a flag or a count. -/
inductive Fault where
  deriving DecidableEq, Repr

/-- Reasons a step is refused. No meaning answers with one. -/
inductive Refusal where
  /-- The command has no meaning yet. Raised by `exec` alone, in the arm of a command still to be modelled; safe (the
  machine stops where the part goes on). -/
  | notModelled (mnemonic : String)
  deriving DecidableEq, Repr

/-! ## Values at reset -/

/-- A site as cold reset leaves it (spec/08 section 8.1). -/
def Site.fresh (n : Nat) : Site :=
  { num := n, state := .unused, parent := 0, range := none, hop := 300, timeout := 90, lastBeacon := none }

/-- The settings a watch context is enrolled with (spec/03 section 3.1). -/
def Settings.fresh : Settings :=
  { timer := .interval, alarm := .latched, interval := 900, lead := 120, task := 3600, still := 120 }

def EventFlags.none : EventFlags :=
  { warned := false, alarmed := false, contactAfterAlarm := false, stagedApplied := false }

def Causes.none : Causes :=
  { host := false, alarm := false, mismatch := false, conflict := false, site := false }

/-- A watch context as enrolled (spec/03 section 3.1). -/
def Watch.fresh : Watch :=
  { state := .idle, set := Settings.fresh, staged := none, lastContact := none, startTime := none, deadline := none,
    warnTime := none, grace := 0, allowance := 0, stillAcc := 0, stillSince := none, startedBy := none, warnCount := 0,
    flags := EventFlags.none, alarm := none }

/-- A truck as enrolled (R2, spec/01 section 1.1). -/
def Truck.fresh (n : Nat) : Truck :=
  { num := n, reach := .absent, miss := 0, zone := none, lastHeard := none, w1 := Watch.fresh, w2 := Watch.fresh,
    orderSlots := [], permitSlots := [], queue := [], seqCtr := 0, upAcks := [] }

/-- The band table after cold reset (spec/09 section 9.1). -/
def bandTableFresh : List BandEntry :=
  [{ interval := 30, allowance := 0 }, { interval := 60, allowance := 10 }, { interval := 120, allowance := 20 },
   { interval := 240, allowance := 30 }]

/-- The part right after a cold reset (R184 and every chapter's cold-reset values). The first cycle has begun at
mission time 0 as R134 and R135 state: its list is empty, so its open window of 4 slots runs, announced by an OPEN
frame of 8 octets (32 ms at 9600 bit/s), and the next cycle is scheduled one CALM interval later. -/
def State.reset : State :=
  { clock := { sec := 0, ms := 0, offset := 0 }
    held := false
    port :=
      { rx := .hunting, buffer := [], notices := [], ctx := none
        sticky := { restarted := true, linkFault := false, lapsed := false, noticesLost := false }
        rate := 115200, rateToCome := none, restart := .running }
    sup := { mode := .act, window := 30, console := .unattended, lastValid := none, lapse := some 30 }
    trucks := []
    orders := []
    permits := []
    points := []
    asks := []
    timeouts := { offer := 120, decision := 120, discard := 300 }
    air :=
      { rate := 9600, rateWaiting := none, replyWindow := 600, slots := 4, budget := 6, phase := .window, cycle := 0
        startTime := 0, nextStart := 30000, list := [], turn := none, urgentRun := 0, winSlots := 4, winEnd := 1232
        startReached := false, overruns := 0, missedTurns := 0, rejected := 0, skipped := 0
        ttx := some (.open 4) }
    sites := [Site.fresh 1, Site.fresh 2, Site.fresh 3, Site.fresh 4, Site.fresh 5, Site.fresh 6, Site.fresh 7]
    policy := .affected
    graces := List.replicate 250 0
    load :=
      { periodStart := 0, busy := 0, carrier := none, sample := none, level := 0, band := 0
        thr := { t1 := 300, t2 := 550, t3 := 750, h := 40 }, thrStaged := none, table := bandTableFresh
        staged := [none, none, none, none], sent := [{ lo := 0, hi := 32 }], covers := [] }
    askArb := false
    choices := 0
    pending := [] }

end Sys2Proof.Machine
end

