-- ==== Sys2Proof/Machine/Ops.lean ====
section
/-!
DEFINITION. The named operations everything else is written over: the clock and stamps, the tables, the watch contexts
and steps inside them, the notice queue and the choice of the next frame on CTX (R179, R180).
-/
namespace Sys2Proof.Machine

/-! ## Time (R182) -/

/-- The mission clock in ms. -/
def State.nowMs (s : State) : Nat := s.clock.sec * 1000 + s.clock.ms

/-- The mission second. -/
def State.now (s : State) : Nat := s.clock.sec

/-- The stamp of a mission second: the second plus the offset, modulo 4294967295 (R182). -/
def stamp (s : State) (t : Nat) : Nat := (t + s.clock.offset) % 4294967295

/-- The stamp of a time that may lie before the reset (a warning time, R46). -/
def stampInt (s : State) (t : Int) : Nat := ((t + s.clock.offset) % 4294967295).toNat

/-- Stamps of optional times. -/
def stampOpt (s : State) (t : Option Nat) : Option Nat := t.map (stamp s)

/-! ## Tables: lists of records in ascending order of a key -/

/-- The record with key `n`. -/
def findBy {α : Type} (key : α → Nat) (n : Nat) (l : List α) : Option α := l.find? fun r => key r == n

/-- A record put at its place in the order of its key. -/
def insertBy {α : Type} (key : α → Nat) (r : α) : List α → List α
  | [] => [r]
  | x :: l => if key r < key x then r :: x :: l else x :: insertBy key r l

/-- The record with key `n` changed by `f`. -/
def changeBy {α : Type} (key : α → Nat) (n : Nat) (f : α → α) (l : List α) : List α :=
  l.map fun r => if key r = n then f r else r

/-- The table without the record with key `n`. -/
def eraseBy {α : Type} (key : α → Nat) (n : Nat) (l : List α) : List α := l.filter fun r => key r != n

def truckOf (s : State) (n : Nat) : Option Truck := findBy Truck.num n s.trucks
def orderOf (s : State) (n : Nat) : Option Order := findBy Order.num n s.orders
def permitOf (s : State) (n : Nat) : Option Permit := findBy Permit.num n s.permits
def pointOf (s : State) (n : Nat) : Option Point := findBy Point.num n s.points
def siteOf (s : State) (n : Nat) : Option Site := findBy Site.num n s.sites

def modTruck (s : State) (n : Nat) (f : Truck → Truck) : State := { s with trucks := changeBy Truck.num n f s.trucks }
def modOrder (s : State) (n : Nat) (f : Order → Order) : State := { s with orders := changeBy Order.num n f s.orders }
def modPermit (s : State) (n : Nat) (f : Permit → Permit) : State :=
  { s with permits := changeBy Permit.num n f s.permits }
def modPoint (s : State) (n : Nat) (f : Point → Point) : State := { s with points := changeBy Point.num n f s.points }
def modSite (s : State) (n : Nat) (f : Site → Site) : State := { s with sites := changeBy Site.num n f s.sites }

/-- A fold over numbers, the first taken first: how the rules take trucks or permits one after another. -/
def eachOf (f : State → Nat → State) (l : List Nat) (s : State) : State := l.foldl f s

/-- The truck numbers in ascending order (R1). -/
def truckNums (s : State) : List Nat := s.trucks.map Truck.num

/-- The permit numbers in ascending order. -/
def permitNums (s : State) : List Nat := s.permits.map Permit.num

/-! ## Watch contexts of a truck (R39) -/

/-- The context of a seat: seat 1, and for any other number seat 2. -/
def Truck.watch (t : Truck) (seat : Nat) : Watch := if seat = 1 then t.w1 else t.w2

def Truck.withWatch (t : Truck) (seat : Nat) (w : Watch) : Truck :=
  if seat = 1 then { t with w1 := w } else { t with w2 := w }

/-- The context of a seat of truck `n`. -/
def watchOf (s : State) (n seat : Nat) : Option Watch := (truckOf s n).map fun t => t.watch seat

def modWatch (s : State) (n seat : Nat) (f : Watch → Watch) : State :=
  modTruck s n fun t => t.withWatch seat (f (t.watch seat))

/-- In ALARM with alarm mode LATCHED or SELF_CLEAR (R39). -/
def Watch.blocking (w : Watch) : Bool := w.state == .alarm && w.set.alarm != .reportOnly

/-- Either context of the truck is in a blocking alarm. -/
def Truck.blocked (t : Truck) : Bool := t.w1.blocking || t.w2.blocking

/-! ## Steps of a permit (R65) -/

/-- The step of a list with a number, from 1. -/
def stepAt (l : List StepRec) (n : Nat) : Option StepRec := if n = 0 then none else l[n - 1]?

/-- The step a permit has under a name: list 0 isolate, 1 restore; another list code names no step. -/
def Permit.step (p : Permit) (i : StepId) : Option StepRec :=
  if i.list = 0 then stepAt p.iso i.num else if i.list = 1 then stepAt p.rest i.num else none

/-- A list with one step changed. -/
def changeAt (f : StepRec → StepRec) : List StepRec → Nat → List StepRec
  | [], _ => []
  | x :: l, 0 => f x :: l
  | x :: l, n + 1 => x :: changeAt f l n

def Permit.withStep (p : Permit) (i : StepId) (f : StepRec → StepRec) : Permit :=
  if i.num = 0 then p
  else if i.list = 0 then { p with iso := changeAt f p.iso (i.num - 1) }
  else if i.list = 1 then { p with rest := changeAt f p.rest (i.num - 1) }
  else p

/-- The step a name gives in the permit table. -/
def stepIn (s : State) (permit : Nat) (i : StepId) : Option StepRec := (permitOf s permit).bind fun p => p.step i

def modStep (s : State) (permit : Nat) (i : StepId) (f : StepRec → StepRec) : State :=
  modPermit s permit fun p => p.withStep i f

/-- A list of steps with their names, from number `n` on. -/
def named (list n : Nat) : List StepRec → List (StepId × StepRec)
  | [] => []
  | x :: l => ({ list := list, num := n }, x) :: named list (n + 1) l

/-- Every step of a permit with its name: the isolate list, then the restore list. -/
def Permit.steps (p : Permit) : List (StepId × StepRec) := named 0 1 p.iso ++ named 1 1 p.rest

/-! ## Halt causes -/

def Causes.has (c : Causes) : Cause → Bool
  | .host => c.host
  | .alarm => c.alarm
  | .mismatch => c.mismatch
  | .conflict => c.conflict
  | .site => c.site

def Causes.put (c : Causes) (v : Bool) : Cause → Causes
  | .host => { c with host := v }
  | .alarm => { c with alarm := v }
  | .mismatch => { c with mismatch := v }
  | .conflict => { c with conflict := v }
  | .site => { c with site := v }

/-- The permit is halted: its set is not empty (spec/04 section 4.6). -/
def Causes.any (c : Causes) : Bool := c.host || c.alarm || c.mismatch || c.conflict || c.site

/-- The number of causes in the set. -/
def Causes.count (c : Causes) : Nat :=
  c.host.toNat + c.alarm.toNat + c.mismatch.toNat + c.conflict.toNat + c.site.toNat

/-- LOADED, ISSUED, ISOLATING, CLEARED or RESTORING: neither CLOSED nor CANCELLED. -/
def PermitState.isOpen : PermitState → Bool
  | .closed => false
  | .cancelled => false
  | _ => true

/-- ISOLATING, CLEARED or RESTORING: where the SITE condition is evaluated (R83). -/
def PermitState.isActive : PermitState → Bool
  | .isolating => true
  | .cleared => true
  | .restoring => true
  | _ => false

/-- ACCEPTED, EN_ROUTE or ON_SITE. -/
def OrderState.isTaken : OrderState → Bool
  | .accepted => true
  | .enRoute => true
  | .onSite => true
  | _ => false

/-- QUEUED to ON_SITE: neither COMPLETE nor CANCELLED. -/
def OrderState.isOpen : OrderState → Bool
  | .complete => false
  | .cancelled => false
  | _ => true

/-! ## The frame being received on CRX (R177) -/

/-- A frame is being received. -/
def Rx.receiving : Rx → Bool
  | .hunting => false
  | .within _ _ => true

/-- More than 50 ms have passed at `t` since the last octet of the frame being received (R177). -/
def Rx.overdue (x : Rx) (t : Nat) : Bool :=
  match x with
  | .hunting => false
  | .within _ last => last + 50 < t

/-- The frame being received dropped; the port discards octets until the next start octet (R177, R183, R184). -/
def Port.dropRx (p : Port) : Port := { p with rx := .hunting }

/-! ## The next frame on CTX (R179) -/

/-- The notice flow is open while the mission clock is below the last valid frame time plus the window, whatever the
mode; it is closed while that time is none (R179). -/
def flowOpen (s : State) : Bool :=
  match s.sup.lastValid with
  | none => false
  | some t => s.now < t + s.sup.window

/-- Where CTX is free, the next frame is chosen: the reply of the oldest buffered request, otherwise the head notice
while the flow is open; that notice leaves the queue (R179). Between the RESTART reply's last octet and the warm reset
no frame is chosen (notes/assumptions/10.md). -/
def kick (s : State) : State :=
  if s.port.ctx.isSome || s.port.restart == .replied then s
  else
    match s.port.buffer with
    | e :: _ => { s with port := { s.port with ctx := some (.reply e) } }
    | [] =>
      match s.port.notices with
      | n :: l => if flowOpen s then { s with port := { s.port with ctx := some (.notice n), notices := l } } else s
      | [] => s

/-! ## Notices (R180) -/

/-- The ALARM class: ALARM, CONTACT, HOLD_CONFLICT, CONSOLE_LAPSED; every other notice is ROUTINE (R180). -/
def NoticeBody.isAlarmClass : NoticeBody → Bool
  | .alarm .. => true
  | .contact .. => true
  | .holdConflict .. => true
  | .consoleLapsed .. => true
  | _ => false

/-- The queue without its oldest ROUTINE notice, none if it holds none (R180). -/
def dropOldestRoutine : List Notice → Option (List Notice)
  | [] => none
  | n :: l => if n.body.isAlarmClass then (dropOldestRoutine l).map (n :: ·) else some l

/-- The port with a notice joined to its queue, by class at a full queue (R180). -/
def Port.enqueue (p : Port) (n : Notice) : Port :=
  if p.notices.length < 64 then { p with notices := p.notices ++ [n] }
  else
    match dropOldestRoutine p.notices with
    | some l => { p with notices := l ++ [n], sticky := { p.sticky with noticesLost := true } }
    | none => { p with sticky := { p.sticky with noticesLost := true } }

/-- A notice posted now, with its stamp (R180); with CTX free it may begin sending at once (R179). The stamp, and those among
its fields, take the offset in force now, not when the notice is sent (DESIGN CHOICE: notes/assumptions/52.md). -/
def post (s : State) (b : NoticeBody) : State :=
  kick { s with port := s.port.enqueue { stamp := stamp s s.now, body := b } }

/-! ## Counters -/

/-- A count raised by one, saturating at 65535 (R139, R143, R145, R146). -/
def bump (n : Nat) : Nat := min (n + 1) 65535

end Sys2Proof.Machine
end

