-- ==== Sys2Proof/Machine/Routes.lean ====
section
/-!
DEFINITION. Serving sites, routes and the zone table as they are read (R150, R154, R159), and the band readings of the
Watch Unit and the Scheduler (R169).
-/
namespace Sys2Proof.Machine

/-- A site is used while it is UP or DOWN (R149). -/
def Site.used (x : Site) : Bool := x.state != .unused

/-- The site is used and its range contains the zone. -/
def Site.covers (x : Site) (z : Nat) : Bool :=
  x.used &&
    match x.range with
    | some (lo, hi) => lo ≤ z && z ≤ hi
    | none => false

/-- The serving site of a zone: the used site of greatest depth whose range contains it; 0 where none of sites 1 to 7
does (R150). -/
def servingSite (s : State) (z : Nat) : Nat :=
  match s.sites.find? fun x => x.covers z && x.parent != 0 with
  | some x => x.num
  | none =>
    match s.sites.find? fun x => x.covers z with
    | some x => x.num
    | none => 0

/-- The route of a zone: none, its depth-1 site, or the parent and then its depth-2 site (R150). -/
def routeOfZone (s : State) (z : Nat) : List Nat :=
  match siteOf s (servingSite s z) with
  | some x => if x.parent = 0 then [x.num] else [x.parent, x.num]
  | none => []

/-- The route of a truck: that of its zone; none without a zone (R150). -/
def routeOf (s : State) (t : Truck) : List Nat :=
  match t.zone with
  | some z => routeOfZone s z
  | none => []

/-- The site is DOWN. -/
def isDown (s : State) (n : Nat) : Bool :=
  match siteOf s n with
  | some x => x.state == .down
  | none => false

/-- At least one entry of the route is DOWN (R150). -/
def passesDown (s : State) (route : List Nat) : Bool := route.any (isDown s)

/-- At least one site of the table is DOWN (R158, GLOBAL). -/
def anyDown (s : State) : Bool := s.sites.any fun x => x.state == .down

/-- The sum of the hop delays of the sites on a route (R137). -/
def hopSum (s : State) : List Nat → Nat
  | [] => 0
  | n :: l =>
    (match siteOf s n with
     | some x => x.hop
     | none => 0) + hopSum s l

/-- The grace of a zone (R159). -/
def graceOf (s : State) (z : Nat) : Nat := s.graces.getD (z - 1) 0

/-- The grace of a truck's zone, 0 without a zone (R45). -/
def truckGrace (s : State) (t : Truck) : Nat :=
  match t.zone with
  | some z => graceOf s z
  | none => 0

/-- The band-table entry of the band in force (R169). -/
def bandEntryInForce (s : State) : BandEntry := s.load.table.getD s.load.band { interval := 0, allowance := 0 }

/-- The condition of the derived cause SITE for a holder truck, by the policy in force (R83, R158). -/
def siteCondition (s : State) (holder : Nat) : Bool :=
  match s.policy with
  | .global => anyDown s
  | .affected =>
    match truckOf s holder with
    | some t => passesDown s (routeOf s t)
    | none => false

end Sys2Proof.Machine
end

