-- ==== Sys2Proof/Machine/Meter.lean ====
section
/-!
DEFINITION. The Load Meter's shared operations (spec/09_channel_load_and_bands.md): airtime, busy time, carrier time not
covered by counted frames, the load figure and the band.
-/
namespace Sys2Proof.Machine

/-- The airtime of a frame of `n` octets at `r` bit/s, in ms (R162). -/
def airtime (n r : Nat) : Nat := 25 + ceilDiv (n * 8000) r

/-- The octets a route adds to a frame: none direct, otherwise the count and one for each site (R154). -/
def routeOctets (route : List Nat) : Nat := if route.isEmpty then 0 else 1 + route.length

/-- What is left of the span `x` when the span `c` is taken out of it. -/
def Span.minus (x c : Span) : List Span :=
  ([{ lo := x.lo, hi := min x.hi c.lo }, { lo := max x.lo c.hi, hi := x.hi }] : List Span).filter fun y => y.lo < y.hi

/-- The parts of the spans `l` that no span of `covers` covers. -/
def uncovered (covers : List Span) (l : List Span) : List Span :=
  covers.foldl (fun acc c => acc.flatMap fun x => x.minus c) l

/-- The total length of spans. -/
def spanSum (l : List Span) : Nat := (l.map fun x => x.hi - x.lo).sum

/-- The uncovered carrier time of the open carrier interval up to `t`, within the current period (R164). -/
def Load.carrierTime (m : Load) (t : Nat) : Nat :=
  match m.carrier with
  | some since => spanSum (uncovered m.covers [{ lo := max since m.periodStart, hi := t }])
  | none => 0

/-- A frame counted: its airtime joins the busy time, and while the carrier is ON its interval joins the covers (R163,
R164). -/
def Load.count (m : Load) (x : Span) : Load :=
  { m with busy := m.busy + (x.hi - x.lo), covers := if m.carrier.isSome then m.covers ++ [x] else m.covers }

/-- A downlink frame has ended at the moment `t`; at its very end it may or may not have (R163;
notes/assumptions/14.md). -/
def endedBy (t : Nat) (x : Span) : Bool := x.hi < t || (x.hi == t && Config.frameEndFirst t)

/-- The downlink frames that have ended at `t` counted (R163). -/
def Load.settle (m : Load) (t : Nat) : Load :=
  (m.sent.filter (endedBy t)).foldl Load.count { m with sent := m.sent.filter fun x => !endedBy t x }

/-- An uplink frame decoded at `t` with an airtime counted (R163). -/
def Load.uplink (m : Load) (t air : Nat) : Load :=
  let m1 := m.settle t
  { m1 with busy := m1.busy + air
            covers := if m1.carrier.isSome then m1.covers ++ [{ lo := t - air, hi := t }] else m1.covers }

/-- The airtime of a decoded uplink frame of `n` octets given to the Load Meter (R144, R162). -/
def countUplink (s : State) (n : Nat) : State :=
  { s with load := s.load.uplink s.nowMs (airtime n s.air.rate) }

/-! ## The load figure and the band (R165, R166) -/

/-- The load figure moved a quarter of the way to the sample, rounded away from the old value (R165). -/
def nextLevel (level sample : Nat) : Nat :=
  if level < sample then level + ceilDiv (sample - level) 4
  else if sample < level then level - ceilDiv (level - sample) 4
  else level

/-- The threshold of a band, 0 for band 0 (R166). -/
def Thresholds.at (x : Thresholds) : Nat → Nat
  | 0 => 0
  | 1 => x.t1
  | 2 => x.t2
  | _ => x.t3

/-- The highest band `k` of `lo` to 3, if any, with `p k`. -/
def highest (p : Nat → Bool) (lo : Nat) : Option Nat := [3, 2, 1, 0].find? fun k => lo ≤ k && p k

/-- The band selected from the load figure, the band held and the thresholds in force (R166 step 2). -/
def selectBand (x : Thresholds) (level held : Nat) : Nat :=
  match highest (fun k => x.at k + x.h ≤ level) (held + 1) with
  | some k => k
  | none =>
    if 1 ≤ held ∧ level < x.at held then (highest (fun k => x.at k ≤ level) 0).getD 0 else held

/-- The end of the current period (R161). -/
def Load.periodEnd (m : Load) : Nat := m.periodStart + 10000

/-- The busy time of the period that ends, with the carrier time up to its end, capped (R164, R165). -/
def Load.periodBusy (m : Load) : Nat :=
  let m1 := m.settle m.periodEnd
  min (m1.busy + m1.carrierTime m.periodEnd) 10000

/-- The meter after a period end (R164 to R166). -/
def Load.afterPeriod (m : Load) : Load :=
  let sample := m.periodBusy / 10
  let level := nextLevel m.level sample
  let thr := m.thrStaged.getD m.thr
  { m.settle m.periodEnd with
    periodStart := m.periodEnd, busy := 0, sample := some sample, level := level, thr := thr, thrStaged := none
    band := selectBand thr level m.band, covers := [] }

/-- A period end: sample, load figure, band, and LOAD_BAND where the band has changed (R165, R166). -/
def endPeriod (s : State) : State :=
  let m := s.load.afterPeriod
  let s1 := { s with load := m }
  if m.band = s.load.band then s1 else post s1 (.loadBand s.load.band m.band m.level (m.sample.getD 0) m.thr)

/-- The staged band-table entries put in force (R168). -/
def Load.applyStaged (m : Load) : Load :=
  { m with table := List.zipWith (fun e x => x.getD e) m.table m.staged, staged := m.staged.map fun _ => none }

end Sys2Proof.Machine
end

