-- ==== Sys2Proof/Machine/Delivery.lean ====
section
/-!
DEFINITION. The Delivery Unit's queue operations (spec/06_outbound_queues.md): subjects, class and size, sequence
numbers, placing, updating, moving and removing records, and the records of a turn. What an outcome does to its owner
is in Sys2Proof/Machine/Outcomes.lean.
-/
namespace Sys2Proof.Machine

/-! ## What the content fixes (R113) -/

def Content.subject : Content → Subject
  | .order c => .order c.num
  | .permit c => .permit c.num
  | .answer c => .answer c.permit
  | .prompt c => .prompt c.seat
  | .assist _ => .assist
  | .text _ => .text

/-- The class, urgent or routine, by kind and content (R113). -/
def Content.urgent : Content → Bool
  | .order c => c.prio == 1
  | .permit c => c.causes.any
  | .answer _ => true
  | .prompt _ => true
  | .assist _ => true
  | .text _ => false

/-- The size against the turn budget, in units (R113). -/
def Content.units : Content → Nat
  | .order c => 1 + ceilDiv c.desc.length 40
  | .permit c => 1 + ceilDiv c.steps.length 4
  | .answer _ => 1
  | .prompt _ => 1
  | .assist l => 1 + ceilDiv l.length 2
  | .text t => 1 + ceilDiv t.length 40

/-- The content's length in octets (spec/11 section 11.5). -/
def Content.octets : Content → Nat
  | .order c => 10 + c.loc.length + c.desc.length
  | .permit c => 8 + 8 * c.steps.length
  | .answer _ => 10
  | .prompt _ => 7
  | .assist l => 1 + 8 * l.length
  | .text t => 1 + t.length

/-- The content is an ANSWER holding a GRANT (R91). -/
def Content.isGrant : Content → Bool
  | .answer c => c.kind == .grant
  | _ => false

/-- The content summary (R123). -/
def Content.summary : Content → Summary
  | .order c => .order c.disp
  | .permit c => .permit c.state
  | .answer c => .answer c.kind c.step
  | .prompt c => .prompt c.kind
  | .assist l => .assist l.length
  | .text t => .text t.length

/-- CONSOLE for TEXT, PART for every other kind (R112). -/
def Content.origin : Content → Originator
  | .text _ => .console
  | _ => .part

def Rec.subject (r : Rec) : Subject := r.content.subject
def Rec.urgent (r : Rec) : Bool := r.content.urgent

/-- The record a queue holds for a subject. -/
def recFor (q : List Rec) (x : Subject) : Option Rec := q.find? fun r => r.subject == x

/-- The queue without the record for a subject. -/
def without (q : List Rec) (x : Subject) : List Rec := q.filter fun r => r.subject != x

/-! ## Sequence numbers (R115) -/

/-- The first value from `n` on, wrapping from 255 to 0, that no standing record holds. Twelve records hold at most
twelve values, so thirteen tries find one. -/
def freeSeq (used : List Nat) (n : Nat) : Nat → Nat
  | 0 => n
  | k + 1 => if used.contains n then freeSeq used ((n + 1) % 256) k else n

/-- The sequence number the truck's counter gives next. -/
def Truck.nextSeq (t : Truck) : Nat := freeSeq (t.queue.map Rec.seq) t.seqCtr 13

/-! ## Order in the queue (R116, R117) -/

/-- The urgent run: the unbroken run of urgent records at the head (R116). -/
def urgentRun (q : List Rec) : List Rec := q.takeWhile Rec.urgent

/-- The routine part: from the first routine record to the tail (R116). -/
def routinePart (q : List Rec) : List Rec := q.dropWhile Rec.urgent

/-- A record put at the end of the urgent run, ahead of the first routine record (R116). -/
def behindRun (q : List Rec) (r : Rec) : List Rec := urgentRun q ++ r :: routinePart q

/-- A record put immediately behind the record for subject `x` (at the tail if there is none). -/
def behindSubject (x : Subject) (r : Rec) : List Rec → List Rec
  | [] => [r]
  | y :: q => if y.subject = x then y :: r :: q else y :: behindSubject x r q

/-- Where both stand, the permit's ANSWER moved to stand immediately behind its PERMIT record (R117). -/
def tuckAnswer (p : Nat) (q : List Rec) : List Rec :=
  match recFor q (.answer p) with
  | some a => if (recFor q (.permit p)).isSome then behindSubject (.permit p) a (without q (.answer p)) else q
  | none => q

/-- The rearrangement a PERMIT record's placement or move brings with it (R117). -/
def tuckFor (x : Subject) (q : List Rec) : List Rec :=
  match x with
  | .permit p => tuckAnswer p q
  | _ => q

/-- Where a record placed anew stands (R116, R117). -/
def placeNew (q : List Rec) (r : Rec) : List Rec :=
  match r.subject with
  | .answer p =>
    if (recFor q (.permit p)).isSome then behindSubject (.permit p) r q else behindRun q r
  | x => tuckFor x (if r.urgent then behindRun q r else q ++ [r])

/-- Where an updated record stands: in its place if its class is as it was, otherwise moved to the border of the urgent
run as the run stands without it, a PERMIT's ANSWER then moving behind it (R117). -/
def placeUpdated (q : List Rec) (old new : Rec) : List Rec :=
  if old.urgent = new.urgent then q.map fun r => if r.subject = old.subject then new else r
  else tuckFor new.subject (behindRun (without q old.subject) new)

/-! ## Placing and updating (R114, R124) -/

/-- The discard time of a record whose content becomes `c`: set where it becomes a GRANT, kept where it was one, none
otherwise (R124). -/
def discardFor (now wait : Nat) (old : Option Rec) (c : Content) : Option Nat :=
  if c.isGrant then
    match old with
    | some r => if r.content.isGrant then r.discard else some (now + wait)
    | none => some (now + wait)
  else none

/-- A record given for a truck: an update of the one standing for the subject, or a new one if the queue holds fewer
than 12; none where it cannot be placed (R114). -/
def Truck.give (now wait : Nat) (t : Truck) (c : Content) : Option Truck :=
  let sq := t.nextSeq
  match recFor t.queue c.subject with
  | some old =>
    let new : Rec :=
      { old with content := c, seq := sq, attempts := 0, inFlight := false
                 discard := discardFor now wait (some old) c }
    some { t with queue := placeUpdated t.queue old new, seqCtr := (sq + 1) % 256 }
  | none =>
    if t.queue.length < 12 then
      let new : Rec :=
        { content := c, seq := sq, attempts := 0, inFlight := false, entry := now
          discard := discardFor now wait none c, origin := c.origin }
      some { t with queue := placeNew t.queue new, seqCtr := (sq + 1) % 256 }
    else none

/-- The truck's queue can take a record for the subject: it holds one, or fewer than 12 records. -/
def Truck.canTake (t : Truck) (x : Subject) : Bool := (recFor t.queue x).isSome || t.queue.length < 12

/-- Truck `n` is in the table and its queue can take a record for the subject. -/
def canGive (s : State) (n : Nat) (x : Subject) : Bool :=
  match truckOf s n with
  | some t => t.canTake x
  | none => false

/-- The record for a subject in truck `n`'s queue. -/
def recOf (s : State) (n : Nat) (x : Subject) : Option Rec := (truckOf s n).bind fun t => recFor t.queue x

/-- A record given to the Delivery Unit for truck `n` (R114). An urgent record placed or updated, and a record that
loses its in-flight mark, are occurrences the arbiter is asked at (R143). Nothing where it cannot be placed. -/
def give (s : State) (n : Nat) (c : Content) : State :=
  match truckOf s n with
  | none => s
  | some t =>
    match t.give s.now s.timeouts.discard c with
    | none => s
    | some t' =>
      { modTruck s n (fun _ => t') with
        askArb := s.askArb || c.urgent || ((recFor t.queue c.subject).any Rec.inFlight) }

/-! ## Removal (R118) -/

/-- The queue after the record for a subject leaves by any path: where a PERMIT record leaves while the permit's ANSWER
stands in the routine part, the ANSWER moves to the end of the urgent run (R118). -/
def afterLeaving (q : List Rec) (x : Subject) : List Rec :=
  let rest := without q x
  match x with
  | .permit p =>
    if (recFor q x).isSome then
      match recFor (routinePart q) (.answer p) with
      | some a => behindRun (without rest (.answer p)) a
      | none => rest
    else rest
  | _ => rest

/-- Removal of the record for a subject from truck `n`'s queue, with no outcome reported (R118). -/
def dropRec (s : State) (n : Nat) (x : Subject) : State :=
  modTruck s n fun t => { t with queue := afterLeaving t.queue x }

/-! ## The records of a turn (R119) -/

/-- How many leading records fit in `budget` units, stopping at the first that does not (R119). -/
def leading : Nat → List Rec → Nat
  | _, [] => 0
  | budget, r :: q => if r.content.units ≤ budget then leading (budget - r.content.units) q + 1 else 0

/-- The first `k` records given their in-flight mark (R119). -/
def markLeading : Nat → List Rec → List Rec
  | 0, q => q
  | _, [] => []
  | k + 1, r :: q => { r with inFlight := true } :: markLeading k q

end Sys2Proof.Machine
end

