-- ==== Sys2Proof/Machine/Permits.lean ====
section
/-!
DEFINITION. The Permit Unit's shared operations (spec/04_switching_permits.md, spec/05_step_requests_points_and_holds.md):
the PERMIT and ANSWER records, halt causes and their effects, holds and busy marks, entry into CLEARED, CLOSED and
ISOLATING, hold conflicts, the permit slots of a truck, and the outcomes of its records.
-/
namespace Sys2Proof.Machine

/-! ## Records (R72, R91) -/

/-- The content of a PERMIT record: the permit as it stands (R72). -/
def permitContent (p : Permit) : PermitContent :=
  { num := p.num, state := p.state, causes := p.causes, linked := p.linked
    steps := p.steps.map fun x =>
      { step := x.1, point := x.2.point, action := x.2.action, required := x.2.required, hold := x.2.hold
        confirm := x.2.confirm, done := x.2.state == .done } }

/-- The permit has been issued: it holds an issue time (R65). -/
def Permit.issued (p : Permit) : Bool := p.issueTime.isSome

/-- The permit's PERMIT record placed or updated in its holder's queue with its current content (R72). -/
def givePermit (s : State) (n : Nat) : State :=
  match permitOf s n with
  | some p => give s p.holder (.permit (permitContent p))
  | none => s

/-- A refusal for a step (R91). -/
def refuseContent (permit : Nat) (i : StepId) (r : Reason) : AnswerContent :=
  { permit := permit, step := i, kind := .refuse, reason := some r, point := none, action := none, required := none }

/-- A HELD answer for a step (R91). -/
def heldContent (permit : Nat) (i : StepId) : AnswerContent :=
  { permit := permit, step := i, kind := .held, reason := none, point := none, action := none, required := none }

/-- A GRANT for a step, with its point, action and required position (R91). -/
def grantContent (permit : Nat) (i : StepId) (x : StepRec) : AnswerContent :=
  { permit := permit, step := i, kind := .grant, reason := none, point := some x.point, action := some x.action
    required := x.required }

/-- The content of the ANSWER record a truck's queue holds for a permit. -/
def answerIn (s : State) (truck permit : Nat) : Option AnswerContent :=
  (recOf s truck (.answer permit)).bind fun r =>
    match r.content with
    | .answer c => some c
    | _ => none

/-- The holder of a permit, 0 for a number that names none. -/
def holderOf (s : State) (n : Nat) : Nat :=
  match permitOf s n with
  | some p => p.holder
  | none => 0

/-! ## Slots (R13) -/

/-- Permit `n` taken out of a truck's permit slot list; nothing where it is not in it (R12, R13). -/
def freePermitSlot (s : State) (truck n : Nat) : State :=
  modTruck s truck fun t => { t with permitSlots := t.permitSlots.filter (· != n) }

/-- Permit `n` appended to a truck's permit slot list, unless it is in it (R12, R13). -/
def takePermitSlot (s : State) (truck n : Nat) : State :=
  modTruck s truck fun t =>
    if t.permitSlots.contains n then t else { t with permitSlots := t.permitSlots ++ [n] }

/-! ## Steps, busy marks and holds (R89, R90) -/

/-- A step returned to PENDING with its last refusal reason. -/
def stepPending (s : State) (permit : Nat) (i : StepId) (r : Option Reason) : State :=
  modStep s permit i fun x => { x with state := .pending, reason := r }

/-- The busy mark of a point cleared if it names this step (R90). -/
def clearBusy (s : State) (point permit : Nat) (i : StepId) : State :=
  modPoint s point fun q =>
    if q.busy = some { permit := permit, step := i } then { q with busy := none } else q

/-- The busy mark of the step's point cleared if it names the step. -/
def clearStepBusy (s : State) (permit : Nat) (i : StepId) : State :=
  match stepIn s permit i with
  | some x => clearBusy s x.point permit i
  | none => s

/-- A permit's hold on a point released (R89). -/
def releaseHold (s : State) (point permit : Nat) : State :=
  modPoint s point fun q => { q with holds := q.holds.filter fun h => h.permit != permit }

/-- Every hold of a permit on any point released (R77, R85). -/
def releaseHolds (s : State) (permit : Nat) : State :=
  { s with points := s.points.map fun q => { q with holds := q.holds.filter fun h => h.permit != permit } }

/-- Every busy mark of a permit on any point released (R85). -/
def releaseMarks (s : State) (permit : Nat) : State :=
  { s with points := s.points.map fun q =>
      match q.busy with
      | some b => if b.permit = permit then { q with busy := none } else q
      | none => q }

/-- The hold a permit keeps on a point. -/
def Point.holdOf (q : Point) (permit : Nat) : Option Hold := q.holds.find? fun h => h.permit == permit

/-! ## Supersession and the answering of pending requests -/

/-- The permit's GRANT, if one stands in the holder's queue, replaced by a refusal: the step returns to PENDING with
the reason and the busy mark is cleared; the grant-sent mark is kept (R79 step 3, R104 step 2, R126). -/
def supersede (s : State) (n : Nat) (r : Reason) : State :=
  match answerIn s (holderOf s n) n with
  | some c =>
    if c.kind = .grant then
      clearStepBusy (stepPending (give s (holderOf s n) (.answer (refuseContent n c.step r))) n c.step (some r)) n c.step
    else s
  | none => s

/-- The pending-request entry of a permit. -/
def askOf (s : State) (n : Nat) : Option Ask := s.asks.find? fun a => a.permit == n

/-- The pending-request list without the permit's entry. -/
def removeAsk (s : State) (n : Nat) : State := { s with asks := s.asks.filter fun a => a.permit != n }

/-- The permit's pending entry answered with a refusal and removed: the refusal is placed if there is room, the ASKED
step returns to PENDING with the reason all the same (R79 step 4, R100, R104 step 1). -/
def refusePending (s : State) (n : Nat) (r : Reason) : State :=
  match askOf s n with
  | some a => stepPending (removeAsk (give s a.holder (.answer (refuseContent n a.step r))) n) n a.step (some r)
  | none => s

/-! ## Halt causes (R78 to R80) -/

/-- A cause added to a permit's set, with the effects of R79 in their order; nothing for a permit that is CLOSED or
CANCELLED, or whose set already has the cause (R78). -/
def addCause (s : State) (n : Nat) (c : Cause) : State :=
  match permitOf s n with
  | some p =>
    if p.state.isOpen && !p.causes.has c then
      let set := p.causes.put true c
      let s1 := post (modPermit s n fun x => { x with causes := set }) (.permitHalt n p.holder c true set)
      if p.issued then refusePending (supersede (givePermit s1 n) n .halted) n .halted else s1
    else s
  | none => s

/-- A cause taken out of a permit's set, with its PERMIT_HALT notice; nothing where it is not in it (R78, R84). -/
def dropCause (s : State) (n : Nat) (c : Cause) : State :=
  match permitOf s n with
  | some p =>
    if p.causes.has c then
      let set := p.causes.put false c
      post (modPermit s n fun x => { x with causes := set }) (.permitHalt n p.holder c false set)
    else s
  | none => s

/-- The PERMIT record placed or updated after a removal of causes, for a permit that has been issued (R80, R72). -/
def afterDrop (s : State) (n : Nat) : State :=
  match permitOf s n with
  | some p => if p.issued then givePermit s n else s
  | none => s

/-- A cause removed with the effects of R80; nothing where it is not in the set. -/
def removeCause (s : State) (n : Nat) (c : Cause) : State :=
  match permitOf s n with
  | some p => if p.causes.has c then afterDrop (dropCause s n c) n else s
  | none => s

/-- The derived cause SITE evaluated for a permit: added or removed as its condition now stands, in ISOLATING, CLEARED
and RESTORING alone (R83). -/
def evalSite (s : State) (n : Nat) : State :=
  match permitOf s n with
  | some p =>
    if p.state.isActive then
      if siteCondition s p.holder then addCause s n .site else removeCause s n .site
    else s
  | none => s

/-- SITE evaluated for every permit in ascending permit number (R152, R157, R158). -/
def evalAllSites (s : State) : State := eachOf evalSite (permitNums s) s

/-- The cause ALARM added to each permit in a truck's slots that is ISSUED, ISOLATING, CLEARED or RESTORING, in slot
order (R82). -/
def haltForAlarm (s : State) (truck : Nat) : State :=
  match truckOf s truck with
  | some t =>
    eachOf (fun s n =>
      match permitOf s n with
      | some p => if p.state.isOpen && p.state != .loaded then addCause s n .alarm else s
      | none => s) t.permitSlots s
  | none => s

/-! ## The lifecycle (R69, R74 to R77) -/

/-- The PERMIT_STATE notice of a permit as it stands (R69). -/
def postPermitState (s : State) (n : Nat) : State :=
  match permitOf s n with
  | some p => post s (.permitState n p.state p.holder p.linked p.causes)
  | none => s

def setPermitState (s : State) (n : Nat) (st : PermitState) : State := modPermit s n fun p => { p with state := st }

/-- The final PERMIT record of a permit placed or updated; where the queue is full and holds none, the slot is freed at
once (R77 step 3, R85 step 5). -/
def giveFinal (s : State) (n : Nat) : State :=
  let h := holderOf s n
  if canGive s h (.permit n) then givePermit s n else freePermitSlot s h n

/-- Entry into CLOSED (R77). -/
def enterClosed (s : State) (n : Nat) : State :=
  let s1 := releaseHolds s n
  let s2 := modPermit s1 n fun p => { p with state := .closed, causes := Causes.none }
  postPermitState (giveFinal s2 n) n

/-- Entry into CLEARED (R75). -/
def enterCleared (s : State) (n : Nat) : State := postPermitState (givePermit (setPermitState s n .cleared) n) n

/-- Entry into ISOLATING: the SITE cause is evaluated, the record placed or updated, the notice posted (R74, R83). -/
def enterIsolating (s : State) (n : Nat) : State :=
  postPermitState (givePermit (evalSite (setPermitState s n .isolating) n) n) n

/-- Entry into RESTORING (R76). -/
def enterRestoring (s : State) (n : Nat) : State := postPermitState (givePermit (setPermitState s n .restoring) n) n

def allDone (l : List StepRec) : Bool := l.all fun x => x.state == .done

/-- After a step has reached DONE: the last isolate step clears the permit, the last restore step closes it (R75, R77). -/
def afterDone (s : State) (n : Nat) : State :=
  match permitOf s n with
  | some p =>
    if p.state = .isolating && allDone p.iso then enterCleared s n
    else if p.state = .restoring && allDone p.rest then enterClosed s n
    else s
  | none => s

/-! ## Hold conflicts (R109) -/

/-- A point's position, just set, weighed against its holds: where it differs from their position, HOLD_CONFLICT is
posted once and each permit whose hold differs gains CONFLICT, in the order of the holds (R109). -/
def weigh (s : State) (point : Nat) (src : ConflictSource) : State :=
  match pointOf s point with
  | some q =>
    match q.holds.find? fun h => h.position != q.position with
    | some h0 =>
      let s1 := post s (.holdConflict point q.position h0.position (q.holds.map Hold.permit) src)
      eachOf (fun s n => addCause s n .conflict)
        ((q.holds.filter fun h => h.position != q.position).map Hold.permit) s1
    | none => s
  | none => s

/-! ## Steps: the position an action needs and leaves (R66) -/

/-- The position an action requires before it; none for VERIFY. -/
def Action.before : Action → Option Position
  | .open => some .closed
  | .close => some .open
  | .ground => some .open
  | .unground => some .grounded
  | .verify => none

/-- CLOSE and UNGROUND (R66). -/
def Action.energizing : Action → Bool
  | .close => true
  | .unground => true
  | _ => false

/-- The position a normal end leaves: that of the action, or VERIFY's required position (R66, R105). -/
def StepRec.leaves (x : StepRec) : Position :=
  match x.action with
  | .open => .open
  | .close => .closed
  | .ground => .grounded
  | .unground => .open
  | .verify => x.required.getD .unknown

/-! ## Outcomes of the Permit Unit's records -/

/-- A PERMIT record with CLOSED or CANCELLED content has an outcome: the slot is freed (R73). -/
def permitOutcome (s : State) (truck : Nat) (c : PermitContent) : State :=
  if c.state.isOpen then s else freePermitSlot s truck c.num

/-- A GRANT taken into a POLL: the step's grant-sent mark is set (R101). -/
def grantSent (s : State) (c : AnswerContent) : State := modStep s c.permit c.step fun x => { x with sent := true }

/-- A GRANT is acknowledged: the step becomes EXECUTING, and for a restore step the permit's own hold on its point is
released (R102). -/
def grantAcknowledged (s : State) (c : AnswerContent) : State :=
  let s1 := modStep s c.permit c.step fun x => { x with state := .executing }
  match stepIn s c.permit c.step with
  | some x => if c.step.list = 1 then releaseHold s1 x.point c.permit else s1
  | none => s1

/-- A GRANT is lost: the step returns to PENDING without a reason and the busy mark is cleared (R103). -/
def grantLost (s : State) (c : AnswerContent) : State :=
  clearStepBusy (stepPending s c.permit c.step none) c.permit c.step

end Sys2Proof.Machine
end

