-- ==== Sys2Proof/Machine/Crew.lean ====
section
/-!
DEFINITION. The Crew Register's shared operations (spec/01_the_crew_register.md): reachability and miss count, the
header of a decoded frame, missed turns, forcing by the Relay Router, and order slots.
-/
namespace Sys2Proof.Machine

/-- Reachability and miss count set together; a change of reachability posts TRUCK_STATE with the zone as it stands and
is an occurrence the arbiter is asked at (R4, R11, R143). -/
def setReach (s : State) (n : Nat) (r : Reach) (miss : Nat) : State :=
  match truckOf s n with
  | some t =>
    let s1 := modTruck s n fun t => { t with reach := r, miss := miss }
    if t.reach = r then s1 else post { s1 with askArb := true } (.truckState n r miss t.zone)
  | none => s

/-- SITE evaluated for the permits in a truck's slots, in slot order (R6, R158). -/
def evalSlots (s : State) (n : Nat) : State :=
  match truckOf s n with
  | some t => eachOf evalSite t.permitSlots s
  | none => s

/-- The zone of a decoded frame's header taken: a zone in 1 to 250 that differs replaces the record's, posts
ZONE_CHANGE and re-evaluates SITE for the permits in the truck's slots (R6). -/
def takeZone (s : State) (n z : Nat) : State :=
  match truckOf s n with
  | some t =>
    if 1 ≤ z ∧ z ≤ 250 ∧ t.zone ≠ some z then
      evalSlots (post (modTruck s n fun t => { t with zone := some z }) (.zoneChange n t.zone z)) n
    else s
  | none => s

/-- The header of a decoded frame taken: REACHABLE with count 0, last heard now, then the zone (R5). -/
def takeHeader (s : State) (n z : Nat) : State :=
  takeZone (modTruck (setReach s n .reachable 0) n fun t => { t with lastHeard := some s.now }) n z

/-- The reachability that follows a miss count (R9). -/
def reachAfterMiss (r : Reach) (count : Nat) : Reach :=
  if r = .absent then .absent else if 6 ≤ count then .lost else if 3 ≤ count then .missed else .reachable

/-- A missed turn reported for a truck: the count is raised by one, at most to 6, and the reachability follows it (R9).
An ABSENT truck is not polled and is left as it is. -/
def missedTurn (s : State) (n : Nat) : State :=
  match truckOf s n with
  | some t =>
    if t.reach = .absent then s
    else setReach s n (reachAfterMiss t.reach (min (t.miss + 1) 6)) (min (t.miss + 1) 6)
  | none => s

/-- A route going down: LOST with miss count 6, from REACHABLE, MISSED or LOST alike (R10). -/
def routeDown (s : State) (n : Nat) : State :=
  match truckOf s n with
  | some t => if t.reach = .absent then s else setReach s n .lost 6
  | none => s

/-- A route restored: a LOST truck becomes MISSED with miss count 3 (R10). -/
def routeRestored (s : State) (n : Nat) : State :=
  match truckOf s n with
  | some t => if t.reach = .lost then setReach s n .missed 3 else s
  | none => s

/-! ## Order slots (R12) -/

/-- The truck can take a slot for an order: it holds one for it, or fewer than four. -/
def Truck.canSlot (t : Truck) (n : Nat) : Bool := t.orderSlots.contains n || t.orderSlots.length < 4

/-- A slot for order `n` taken at the tail of the truck's list, unless it is in it or the list is full (R12). -/
def takeOrderSlot (s : State) (truck n : Nat) : State :=
  modTruck s truck fun t =>
    if t.orderSlots.contains n then t
    else if t.orderSlots.length < 4 then { t with orderSlots := t.orderSlots ++ [n] } else t

/-- The slot of an order freed; nothing where it is not in the list (R12). -/
def freeOrderSlot (s : State) (truck n : Nat) : State :=
  modTruck s truck fun t => { t with orderSlots := t.orderSlots.filter (· != n) }

end Sys2Proof.Machine
end

