-- ==== Sys2Proof/Machine/Watches.lean ====
section
/-!
DEFINITION. The Watch Unit's shared operations (spec/03_lone_worker_watch.md): settings and staging, deadlines and
warnings, starts and stops, alarms, contact after alarm, assist calls, and the four air items.
-/
namespace Sys2Proof.Machine

/-! ## Deadlines (R45, R46) -/

/-- The lead of the warning time over the deadline, by mode (R46). -/
def Settings.warnLead (x : Settings) : Nat :=
  match x.timer with
  | .stillness => min x.lead (x.still / 2)
  | _ => x.lead

/-- A deadline with its warning time put into a context (R46). -/
def Watch.withDeadline (w : Watch) (d : Nat) : Watch :=
  { w with deadline := some d, warnTime := some ((d : Int) - (w.set.warnLead : Int)) }

/-- No deadline and no warning time. -/
def Watch.noDeadline (w : Watch) : Watch := { w with deadline := none, warnTime := none }

/-- The deadline computed at a start, a recovery, and in INTERVAL mode at a check-in, all at the moment `now`: grace and
allowance are latched, and their sum is capped at half the interval or the task duration; in STILLNESS mode both are 0
and no deadline is set (R45). -/
def Watch.compute (grace allowance now : Nat) (w : Watch) : Watch :=
  match w.set.timer with
  | .interval =>
    Watch.withDeadline { w with grace := grace, allowance := allowance }
      (now + w.set.interval + min (grace + allowance) (w.set.interval / 2))
  | .task =>
    Watch.withDeadline { w with grace := grace, allowance := allowance }
      (now + w.set.task + min (grace + allowance) (w.set.task / 2))
  | .stillness => Watch.noDeadline { w with grace := 0, allowance := 0 }

/-- The deadline of a context computed now, from its truck's zone and the band in force (R45, R169). -/
def computeWatch (s : State) (n seat : Nat) : State :=
  match truckOf s n with
  | some t =>
    modWatch s n seat (Watch.compute (truckGrace s t) (bandEntryInForce s).allowance s.now)
  | none => s

/-- A context as a start leaves it, but for its deadline: C and the start time now, nothing accumulated (R43, R57). -/
def Watch.started (now : Nat) (w : Watch) : Watch :=
  { w with state := .watch, lastContact := some now, startTime := some now, stillAcc := 0, stillSince := none }

/-! ## Notices and prompts (R53, R64) -/

/-- The WATCH_STATE notice of a context as it stands (R64). -/
def postWatchState (s : State) (n seat : Nat) (why : WatchReason) : State :=
  match watchOf s n seat with
  | some w => post s (.watchState n seat w.state why (stampOpt s w.deadline) w.startedBy)
  | none => s

/-- An undelivered PROMPT of a kind for the seat removed from the truck's queue (R53). -/
def removePrompt (s : State) (n seat : Nat) (k : PromptKind) : State :=
  match recOf s n (.prompt seat) with
  | some r => if r.content.summary = .prompt k then dropRec s n (.prompt seat) else s
  | none => s

/-! ## Warning (R52) -/

/-- Entry into WARN (R52). -/
def enterWarn (s : State) (n seat : Nat) : State :=
  match watchOf s n seat with
  | some w =>
    let count := min (w.warnCount + 1) 255
    let s1 := modWatch s n seat fun w =>
      { w with state := .warn, warnCount := count, flags := { w.flags with warned := true } }
    let placed := canGive s1 n (.prompt seat)
    let s2 := give s1 n (.prompt { seat := seat, kind := .due, deadline := w.deadline, cause := none })
    post s2 (.warn n seat w.set.timer (stampOpt s w.deadline) count placed)
  | none => s

/-- The context is in WATCH and its warning time has been reached. -/
def Watch.warnReached (now : Nat) (w : Watch) : Bool :=
  w.state == .watch &&
    match w.warnTime with
    | some t => decide (t ≤ (now : Int))
    | none => false

/-- The context is in WATCH or WARN and its deadline has been reached. -/
def Watch.deadlineReached (now : Nat) (w : Watch) : Bool :=
  (w.state == .watch || w.state == .warn) &&
    match w.deadline with
    | some d => decide (d ≤ now)
    | none => false

/-- A warning time not later than now is reached at once, within the event that computed it (R46). -/
def warnAtOnce (s : State) (n seat : Nat) : State :=
  match watchOf s n seat with
  | some w => if w.warnReached s.now then enterWarn s n seat else s
  | none => s

/-! ## Assist calls (R60 to R63) -/

/-- The open alarms of a truck as assist entries with their raised times (R60). -/
def openAlarms (t : Truck) : List (Nat × AssistEntry) :=
  match t.zone with
  | none => []
  | some z =>
    let one (seat : Nat) (w : Watch) : List (Nat × AssistEntry) :=
      if w.state = .alarm then
        [((match w.alarm with
           | some a => a.raised
           | none => 0), { truck := t.num, seat := seat, zone := z, lastContact := w.lastContact })]
      else []
    one 1 t.w1 ++ one 2 t.w2

/-- A raised alarm put at its place by raised time, behind those raised no later (R60). -/
def insertAlarm (a : Nat × AssistEntry) : List (Nat × AssistEntry) → List (Nat × AssistEntry)
  | [] => [a]
  | b :: l => if a.1 < b.1 then a :: b :: l else b :: insertAlarm a l

/-- The alarms in the order of an assist list: by raised time, and those raised together in the order of the table and
the seats (R60). -/
def sortAlarms (l : List (Nat × AssistEntry)) : List (Nat × AssistEntry) := l.foldl (fun acc a => insertAlarm a acc) []

/-- The serving site of a truck's zone; none without a zone. -/
def servingOf (s : State) (t : Truck) : Option Nat := t.zone.map (servingSite s)

/-- The assist list for recipient `r`: the open alarms of the other trucks whose zone the same site serves, cut to the
first four (R60). -/
def assistList (s : State) (r : Truck) : List AssistEntry :=
  match servingOf s r with
  | none => []
  | some site =>
    ((sortAlarms ((s.trucks.filter fun t => t.num != r.num && servingOf s t == some site).flatMap openAlarms)).take 4).map
      Prod.snd

/-- One recipient's ASSIST record brought up to date with its list (R62). -/
def assistOne (s : State) (n : Nat) : State :=
  match truckOf s n with
  | some t =>
    let l := assistList s t
    match recFor t.queue .assist with
    | some r =>
      if l.isEmpty then dropRec s n .assist
      else if r.content = .assist l then s else give s n (.assist l)
    | none => if l.isEmpty then s else give s n (.assist l)
  | none => s

/-- An assist recomputation for a site: its recipients are the trucks REACHABLE or MISSED whose zone it serves, in
ascending truck number (R62). -/
def assistSite (s : State) (site : Nat) : State :=
  eachOf assistOne
    ((s.trucks.filter fun t =>
      (t.reach == .reachable || t.reach == .missed) && servingOf s t == some site).map Truck.num) s

/-- The assist recomputation an event of a truck's alarm makes while the console is UNATTENDED (R62). -/
def assistFor (s : State) (n : Nat) : State :=
  if s.sup.console = .unattended then
    match (truckOf s n).bind (servingOf s) with
    | some site => assistSite s site
    | none => s
  else s

/-- A site serves the zone of at least one truck with an open alarm (R63). -/
def siteHasAlarm (s : State) (site : Nat) : Bool :=
  s.trucks.any fun t => servingOf s t == some site && !(openAlarms t).isEmpty

/-- At the entry into UNATTENDED: one recomputation for each site serving a truck with an open alarm, in ascending site
number (R63). -/
def assistAll (s : State) : State := eachOf assistSite ((List.range 8).filter (siteHasAlarm s)) s

/-- Every ASSIST record removed, the trucks in ascending truck number (R63). -/
def removeAssists (s : State) : State := eachOf (fun s n => dropRec s n .assist) (truckNums s) s

/-! ## Alarm (R54, R55) -/

/-- Entry into ALARM with a cause (R55). -/
def enterAlarm (s : State) (n seat : Nat) (cause : AlarmCause) : State :=
  match truckOf s n with
  | some t =>
    let w := t.watch seat
    let s1 := modWatch s n seat fun w =>
      { w with state := .alarm, alarm := some { cause := cause, raised := s.now }, deadline := none, warnTime := none
               stillSince := none, flags := { w.flags with alarmed := true } }
    let placed := canGive s1 n (.prompt seat)
    let s2 := post s1 (.alarm n seat cause w.set.alarm t.zone (stampOpt s w.lastContact) placed)
    let s3 := give s2 n (.prompt { seat := seat, kind := .alarmed, deadline := none, cause := some cause })
    let s4 := if w.set.alarm = .reportOnly then s3 else haltForAlarm s3 n
    assistFor s4 n
  | none => s

/-- The alarm cause of a deadline, by timer mode (R54). -/
def TimerMode.alarmCause : TimerMode → AlarmCause
  | .interval => .deadline
  | .task => .taskOverrun
  | .stillness => .stillness

/-- The deadline of a context taken (R54). -/
def deadlineAlarm (s : State) (n seat : Nat) : State :=
  match watchOf s n seat with
  | some w => enterAlarm s n seat w.set.timer.alarmCause
  | none => s

/-! ## Staged settings (R42) -/

/-- Staged settings put in force, with STAGED_APPLIED; nothing where none are staged (R42). -/
def Watch.applyStaged (w : Watch) : Watch :=
  match w.staged with
  | some st => { w with set := st, staged := none, flags := { w.flags with stagedApplied := true } }
  | none => w

/-- Applying the staged settings changes the timer mode (R42). -/
def Watch.modeChanges (w : Watch) : Bool :=
  match w.staged with
  | some st => st.timer != w.set.timer
  | none => false

/-! ## Start and stop (R43, R44) -/

/-- A start with the settings in force: as START_WATCH, with the order that starts it (if any) and the reason of its
notice; a warning reached at once follows the notice (R43, R30, R46). -/
def startContext (s : State) (n seat : Nat) (order : Option Nat) (why : WatchReason) : State :=
  let s1 := modWatch s n seat fun w => { w.started s.now with warnCount := 0, startedBy := order }
  warnAtOnce (postWatchState (computeWatch s1 n seat) n seat why) n seat

/-- A stop of a context in WATCH or WARN (R44); an IDLE context has no start time (R54). -/
def stopContext (s : State) (n seat : Nat) (why : WatchReason) : State :=
  let s1 := modWatch s n seat fun w =>
    { w.applyStaged.noDeadline with
      state := .idle, startTime := none, stillSince := none, stillAcc := 0, startedBy := none }
  postWatchState (removePrompt s1 n seat .due) n seat why

/-! ## Check-in (R47, R48) -/

/-- A context in WARN returned to WATCH with WATCH_STATE, an undelivered PROMPT DUE for the seat removed; nothing from
WATCH (R47, R48, R50, R53). -/
def warnToWatch (s : State) (n seat : Nat) (why : WatchReason) : State :=
  match watchOf s n seat with
  | some w =>
    if w.state = .warn then
      removePrompt (postWatchState (modWatch s n seat fun w => { w with state := .watch }) n seat why) n seat .due
    else s
  | none => s

/-- A check-in whose staged settings change the timer mode: the context returns to WATCH and is taken as started anew
under the new mode at this moment (R42, R47 step 1, R48). -/
def restartUnderStaged (s : State) (n seat : Nat) : State :=
  let s1 := modWatch s n seat Watch.applyStaged
  let s2 := warnToWatch s1 n seat .checkIn
  let s3 := modWatch s2 n seat (Watch.started s.now)
  warnAtOnce (computeWatch s3 n seat) n seat

/-- A worker become still: the still-since time now, and a deadline by the time accumulated (R49). -/
def Watch.becomesStill (now : Nat) (w : Watch) : Watch :=
  Watch.withDeadline { w with lastContact := some now, stillSince := some now } (now + (w.set.still - w.stillAcc))

/-- A check-in of a context in WATCH or WARN, by timer mode (R47, R48). -/
def checkIn (s : State) (n seat : Nat) : State :=
  match watchOf s n seat with
  | some w =>
    match w.set.timer with
    | .task => modWatch s n seat fun w => { w with lastContact := some s.now }
    | .interval =>
      if w.modeChanges then restartUnderStaged s n seat
      else
        let s1 := modWatch s n seat fun w => { w.applyStaged with lastContact := some s.now }
        let s2 := warnToWatch (computeWatch s1 n seat) n seat .checkIn
        warnAtOnce (removePrompt s2 n seat .due) n seat
    | .stillness =>
      if w.modeChanges then restartUnderStaged s n seat
      else
        let s1 := modWatch s n seat fun w =>
          let w1 : Watch := { w.applyStaged with lastContact := some s.now, stillAcc := 0 }
          if w1.stillSince.isSome then w1.becomesStill s.now else w1
        let s2 := warnToWatch s1 n seat .checkIn
        if w.stillSince.isSome then warnAtOnce s2 n seat else s2
  | none => s

/-! ## Motion (R49, R50) and task end (R51) -/

/-- MOTION STILL of a context in WATCH or WARN in STILLNESS mode: the warning time it computes may be reached at once; a
repeat moves C alone (R49). -/
def motionStill (s : State) (n seat : Nat) : State :=
  match watchOf s n seat with
  | some w =>
    if w.stillSince.isSome then modWatch s n seat fun w => { w with lastContact := some s.now }
    else warnAtOnce (modWatch s n seat (Watch.becomesStill s.now)) n seat
  | none => s

/-- MOTION MOVING of a context in WATCH or WARN in STILLNESS mode, before its deadline (R50). -/
def motionMoving (s : State) (n seat : Nat) : State :=
  match watchOf s n seat with
  | some w =>
    match w.stillSince with
    | some t =>
      let s1 := modWatch s n seat fun w =>
        { w.noDeadline with lastContact := some s.now, stillAcc := w.stillAcc + (s.now - t), stillSince := none }
      warnToWatch s1 n seat .motion
    | none => modWatch s n seat fun w => { w with lastContact := some s.now }
  | none => s

/-- TASK_DONE of a context in WATCH or WARN in TASK mode ends the task (R51); TASK_ENDED carries the start time, which the
IDLE context no longer has (R54). -/
def endTask (s : State) (n seat : Nat) : State :=
  match watchOf s n seat with
  | some w =>
    let s1 := modWatch s n seat fun w =>
      { w.applyStaged.noDeadline with
        state := .idle, startTime := none, stillSince := none, startedBy := none, lastContact := some s.now }
    post (removePrompt s1 n seat .due) (.taskEnded n seat (stampOpt s w.startTime))
  | none => s

/-! ## Contact after alarm (R56, R57) -/

/-- Contact in a LATCHED alarm: the context stays in ALARM (R56). Also the contact an EMERGENCY makes in ALARM (R54). -/
def contactLatched (s : State) (n seat : Nat) (item : ItemKind) : State :=
  let s1 := modWatch s n seat fun w =>
    { w with lastContact := some s.now, flags := { w.flags with contactAfterAlarm := true } }
  assistFor (post s1 (.contact n seat item (some (stamp s s.now)))) n

/-- Recovery, steps 1 to 5, with a warning reached at once taken behind them (R57, R46). -/
def recover (s : State) (n seat : Nat) (item : ItemKind) : State :=
  let s1 := modWatch s n seat fun w => { w.applyStaged.started s.now with alarm := none }
  let s2 := computeWatch s1 n seat
  let d := (watchOf s2 n seat).bind Watch.deadline
  let s3 := removePrompt (post s2 (.recovered n seat item (stampOpt s d))) n seat .alarmed
  warnAtOnce (assistFor s3 n) n seat

/-- An item of a seat as WATCH and WARN take it (R40): CHECK_IN; MOTION in STILLNESS mode; TASK_DONE, which ends the
task in TASK mode and is a check-in otherwise. `still` is MOTION's value. -/
def takeRunning (s : State) (n seat : Nat) (item : ItemKind) (still : Bool) : State :=
  match watchOf s n seat with
  | some w =>
    match item with
    | .checkIn => checkIn s n seat
    | .taskDone => if w.set.timer = .task then endTask s n seat else checkIn s n seat
    | .motion =>
      if w.set.timer = .stillness then (if still then motionStill s n seat else motionMoving s n seat) else s
    | _ => s
  | none => s

/-- An item of a seat whose context is in ALARM: contact after alarm, by alarm mode; in SELF_CLEAR and REPORT_ONLY the
recovered context then takes the item as in WATCH (R56, R57). -/
def contactAfterAlarm (s : State) (n seat : Nat) (item : ItemKind) (still : Bool) : State :=
  match watchOf s n seat with
  | some w =>
    if w.set.alarm = .latched then contactLatched s n seat item
    else takeRunning (recover s n seat item) n seat item still
  | none => s

/-- A CHECK_IN, MOTION or TASK_DONE of a seat, by the state of its context (R40). A MOVING taken when the clock has
reached D, before the deadline is taken, finds the deadline taken first (R50). -/
def takeContact (s : State) (n seat : Nat) (item : ItemKind) (still : Bool) : State :=
  if seat = 1 ∨ seat = 2 then
    match watchOf s n seat with
    | some w =>
      match w.state with
      | .idle => s
      | .alarm => contactAfterAlarm s n seat item still
      | _ =>
        if item = .motion ∧ still = false ∧ w.set.timer = .stillness ∧ w.deadlineReached s.now = true then
          contactAfterAlarm (deadlineAlarm s n seat) n seat item still
        else takeRunning s n seat item still
    | none => s
  else s

/-- An EMERGENCY of a seat; a seat field neither 1 nor 2 is taken for seat 1 (R40, R54). -/
def takeEmergency (s : State) (n seat0 : Nat) : State :=
  let seat := if seat0 = 2 then 2 else 1
  match watchOf s n seat with
  | some w =>
    if w.state = .alarm then
      contactLatched
        (modWatch s n seat fun w => { w with alarm := w.alarm.map fun a => { a with cause := .emergency } })
        n seat .emergency
    else enterAlarm (modWatch s n seat fun w => { w with lastContact := some s.now }) n seat .emergency
  | none => s

/-! ## Orders and watches (R30, R31) -/

/-- An order's watch profile handed over at ON_SITE: an IDLE context is started with it, any other has it staged (R30). -/
def applyProfile (s : State) (n order : Nat) (p : Profile) : State :=
  match watchOf s n p.seat with
  | some w =>
    if w.state = .idle then
      startContext (modWatch s n p.seat fun w => { w with set := p.set }) n p.seat (some order) .orderStart
    else modWatch s n p.seat fun w => { w with staged := some p.set }
  | none => s

/-- A seat's context stopped if this order started it: stopped in WATCH or WARN, and in ALARM only its starter cleared
(R31). -/
def stopIfStarted (s : State) (n seat order : Nat) : State :=
  match watchOf s n seat with
  | some w =>
    if w.startedBy = some order then
      match w.state with
      | .watch => stopContext s n seat .orderStop
      | .warn => stopContext s n seat .orderStop
      | .alarm => modWatch s n seat fun w => { w with startedBy := none }
      | .idle => s
    else s
  | none => s

/-- Any context of a truck that records the order as its starter is stopped (R31). -/
def stopForOrder (s : State) (n order : Nat) : State := stopIfStarted (stopIfStarted s n 1 order) n 2 order

end Sys2Proof.Machine
end

