-- ==== Sys2Proof/Machine/Orders.lean ====
section
/-!
DEFINITION. The Order Manager's shared operations (spec/02_work_orders.md): the ORDER record, offers and rollover, the
five replies of a truck, the end of an order, and the outcomes of its records.
-/
namespace Sys2Proof.Machine

/-- The ORDER_STATE notice of an order as it stands (R18). -/
def postOrderState (s : State) (n : Nat) : State :=
  match orderOf s n with
  | some o => post s (.orderState n o.state o.assigned)
  | none => s

/-! ## The ORDER record (R24) -/

/-- The content of the ORDER record a truck's queue holds for an order. -/
def orderRecIn (s : State) (truck n : Nat) : Option OrderContent :=
  (recOf s truck (.order n)).bind fun r =>
    match r.content with
    | .order c => some c
    | _ => none

/-- The content of an ORDER record: the order as the truck should hold it; its state for OFFER and HELD alone (R24). -/
def orderContent (o : Order) (d : Disposition) (note : Bool) : OrderContent :=
  { num := o.num, disp := d
    state := if d = .offer ∨ d = .held then some o.state else none
    prio := o.prio, loc := o.loc, desc := o.desc, linked := o.linked, permitOpen := note }

/-- An ORDER record given for a truck; an update keeps the note of the record it replaces (R24). -/
def giveOrder (s : State) (truck n : Nat) (d : Disposition) (note : Bool) : State :=
  match orderOf s n with
  | some o =>
    let kept := (orderRecIn s truck n).any fun c => c.permitOpen
    give s truck (.order (orderContent o d (note || kept)))
  | none => s

/-- The ORDER record standing in a truck's queue, if any, brought up to date with disposition `d` (R26, R28). -/
def updateOrderRec (s : State) (truck n : Nat) (d : Disposition) : State :=
  if (orderRecIn s truck n).isSome then giveOrder s truck n d false else s

/-- The ORDER record standing in a truck's queue, if any, brought up to date under its own disposition (R33, R68). -/
def refreshOrderRec (s : State) (truck n : Nat) : State :=
  match orderRecIn s truck n with
  | some c => giveOrder s truck n c.disp false
  | none => s

/-! ## Offers and rollover (R22, R23) -/

/-- The order as it returns to QUEUED: no assigned truck, no offer timer; the offer time becomes none where an offer ends
with the return, and is otherwise kept (R17). -/
def Order.requeued (o : Order) : Order :=
  { o with
    state := .queued, assigned := none, offerTime := if o.state = .offered then none else o.offerTime
    offerExpiry := none }

/-- An order returned to QUEUED, with its ORDER_STATE (R17, R25). -/
def backToQueued (s : State) (n : Nat) : State := postOrderState (modOrder s n Order.requeued) n

/-- The order as an offer to truck `t` makes it (R22). -/
def Order.offeredTo (now wait t : Nat) (o : Order) : Order :=
  { o with
    state := .offered, assigned := some t, offerTime := some now, offerExpiry := some (now + wait)
    tried := if o.cands.contains t && !o.tried.contains t then o.tried ++ [t] else o.tried }

/-- An offer of order `n` to truck `t` (R22). Where the queue cannot take the record the offer fails in the event: the
slot is freed and the order returns to QUEUED. -/
def makeOffer (s : State) (n t : Nat) : State :=
  let s1 := takeOrderSlot s t n
  let s2 := postOrderState (modOrder s1 n (Order.offeredTo s.now s.timeouts.offer t)) n
  if canGive s2 t (.order n) then giveOrder s2 t n .offer false
  else backToQueued (freeOrderSlot s2 t n) n

/-- Truck `t` is eligible for order `n` (R23). -/
def eligible (s : State) (n t : Nat) : Bool :=
  match truckOf s t, orderOf s n with
  | some k, some o => k.reach == .reachable && k.canSlot n && !k.blocked && !o.tried.contains t
  | _, _ => false

/-- The candidates taken in list order: the first eligible is offered the order; where its offer fails for a full queue
the walk goes on, and with none left NO_TAKER is posted (R22, R23). -/
def rolloverAlong (n : Nat) : List Nat → State → State
  | [], s =>
    match orderOf s n with
    | some o => post s (.noTaker n o.prio)
    | none => s
  | t :: l, s =>
    if eligible s n t then
      if canGive s t (.order n) then makeOffer s n t else rolloverAlong n l (makeOffer s n t)
    else rolloverAlong n l s

/-- Rollover of an order that has entered QUEUED; an order with an empty candidate list does not enter it (R23). -/
def rollover (s : State) (n : Nat) : State :=
  match orderOf s n with
  | some o => if o.cands.isEmpty then s else rolloverAlong n o.cands s
  | none => s

/-! ## The replies of a truck (R26 to R29) -/

/-- ORDER_IGNORED (R26 to R29). -/
def ignoreOrder (s : State) (n t : Nat) (c : ReplyCode) : State := post s (.orderIgnored n t c)

/-- A truck told that an offer no longer stands, with LATE_ACCEPT: nothing where a record for the order stands in its
queue, or the slot or the record cannot be placed (R26). -/
def tellLate (s : State) (n t : Nat) (d : Disposition) : State :=
  match truckOf s t with
  | some k =>
    if (recFor k.queue (.order n)).isSome then s
    else if k.canSlot n && k.canTake (.order n) then giveOrder (takeOrderSlot s t n) t n d false
    else s
  | none => s

/-- ACCEPT of truck `t` for order `n` (R26). -/
def replyAccept (s : State) (n t : Nat) : State :=
  match orderOf s n with
  | none => ignoreOrder s n t .accept
  | some o =>
    if o.assigned = some t ∧ o.state = .offered then
      let s1 := modOrder s n fun o => { o with state := .accepted, offerExpiry := none }
      updateOrderRec (postOrderState s1 n) t n .held
    else if o.assigned = some t ∧ (o.state.isTaken = true ∨ o.state = .complete) then s
    else
      tellLate (post s (.lateAccept n t o.state o.assigned)) n t
        (if o.state = .cancelled then .cancelled else .withdrawn)

/-- DECLINE of truck `t` for order `n` (R27). -/
def replyDecline (s : State) (n t : Nat) : State :=
  match orderOf s n with
  | none => ignoreOrder s n t .decline
  | some o =>
    if o.assigned = some t ∧ o.state = .offered then
      rollover (dropRec (freeOrderSlot (backToQueued s n) t n) t (.order n)) n
    else ignoreOrder s n t .decline

/-- An order entering ON_SITE applies its watch profile for its assigned truck (R30). -/
def onSite (s : State) (n t : Nat) : State :=
  match (orderOf s n).bind Order.profile with
  | some p => applyProfile s t n p
  | none => s

/-- The progress order ACCEPTED, EN_ROUTE, ON_SITE, COMPLETE (R28). -/
def OrderState.rank : OrderState → Nat
  | .accepted => 1
  | .enRoute => 2
  | .onSite => 3
  | .complete => 4
  | _ => 0

/-- EN_ROUTE or ON_SITE (`st`) of truck `t` for order `n` (R28). -/
def replyProgress (s : State) (n t : Nat) (st : OrderState) (c : ReplyCode) : State :=
  match orderOf s n with
  | none => ignoreOrder s n t c
  | some o =>
    if o.assigned = some t ∧ o.state.isTaken = true then
      if o.state.rank < st.rank then
        let s1 := modOrder s n fun o => { o with state := st }
        let s2 := updateOrderRec (postOrderState s1 n) t n .held
        if st = .onSite then onSite s2 n t else s2
      else if o.state = st then s
      else ignoreOrder s n t c
    else ignoreOrder s n t c

/-- The linked permit of an order that is neither CLOSED nor CANCELLED (R29, R32). -/
def openPermitOf (s : State) (o : Order) : Option Permit :=
  match o.linked.bind (permitOf s) with
  | some p => if p.state.isOpen then some p else none
  | none => none

/-- COMPLETE of truck `t` for order `n` (R29). -/
def replyComplete (s : State) (n t : Nat) : State :=
  match orderOf s n with
  | none => ignoreOrder s n t .complete
  | some o =>
    if o.assigned = some t ∧ o.state.isTaken = true then
      match openPermitOf s o with
      | some p => post (giveOrder s t n .held true) (.completeBlocked n t p.num p.state)
      | none =>
        let s1 := modOrder s n fun o => { o with state := .complete }
        let s2 := dropRec (freeOrderSlot (postOrderState s1 n) t n) t (.order n)
        stopForOrder s2 t n
    else if o.assigned = some t ∧ o.state = .complete then s
    else ignoreOrder s n t .complete

/-- An ORDER_REPLY item (spec/02 section 2.6). -/
def orderReply (s : State) (n t : Nat) : ReplyCode → State
  | .accept => replyAccept s n t
  | .decline => replyDecline s n t
  | .enRoute => replyProgress s n t .enRoute .enRoute
  | .onSite => replyProgress s n t .onSite .onSite
  | .complete => replyComplete s n t

/-! ## The end of an offer and of an order -/

/-- The offer timer of an order has been reached while the order is OFFERED (R25). -/
def Order.offerReached (now : Nat) (o : Order) : Bool :=
  o.state == .offered &&
    match o.offerExpiry with
    | some e => decide (e ≤ now)
    | none => false

/-- An offer timer expires: the order returns to QUEUED; an undelivered record is removed and its slot freed, a
delivered offer is withdrawn with the slot kept; then rollover (R25). -/
def offerExpires (s : State) (n : Nat) : State :=
  match orderOf s n with
  | some o =>
    match o.assigned with
    | some t =>
      let s1 := backToQueued s n
      let s2 :=
        if (orderRecIn s t n).isSome then freeOrderSlot (dropRec s1 t (.order n)) t n
        else giveOrder s1 t n .withdrawn false
      rollover s2 n
    | none => rollover (backToQueued s n) n
  | none => s

/-- An order whose truck is removed, if it is OFFERED to ON_SITE with it: back to QUEUED and rolled over (R15 stage 4). -/
def orderLosesTruck (truck : Nat) (s : State) (n : Nat) : State :=
  match orderOf s n with
  | some o =>
    if o.assigned = some truck ∧ (o.state = .offered ∨ o.state.isTaken = true) then rollover (backToQueued s n) n else s
  | none => s

/-! ## Outcomes of ORDER records (R34) -/

/-- An ORDER record is acknowledged (R34). -/
def orderAcknowledged (s : State) (truck : Nat) (c : OrderContent) : State :=
  match c.disp with
  | .withdrawn => if (orderOf s c.num).isSome then freeOrderSlot s truck c.num else s
  | .cancelled => if (orderOf s c.num).isSome then freeOrderSlot s truck c.num else s
  | _ => s

/-- An ORDER record proves undeliverable (R34). -/
def orderUndeliverable (s : State) (truck : Nat) (c : OrderContent) : State :=
  match orderOf s c.num with
  | none => s
  | some o =>
    match c.disp with
    | .withdrawn => freeOrderSlot s truck c.num
    | .cancelled => freeOrderSlot s truck c.num
    | .held => s
    | .offer =>
      if o.state = .offered ∧ o.assigned = some truck then
        rollover (freeOrderSlot (backToQueued s c.num) truck c.num) c.num
      else s

end Sys2Proof.Machine
end

