-- ==== Sys2Proof/Machine/Outcomes.lean ====
section
/-!
DEFINITION. What becomes of a record that leaves a queue by acknowledgement, by its eighth unacknowledged sending or at
its discard time, and what each owner does then (R121, R122, R123, R124, R127).
-/
namespace Sys2Proof.Machine

/-- The owner's effects of an acknowledgement (R127). -/
def ownerAcknowledged (s : State) (truck seq : Nat) : Content → State
  | .order c => orderAcknowledged s truck c
  | .permit c => permitOutcome s truck c
  | .answer c => if c.kind = .grant then grantAcknowledged s c else s
  | .prompt _ => s
  | .assist _ => s
  | .text t => post s (.textDelivered truck seq t.length)

/-- The owner's effects of an undeliverable or discarded record (R127). -/
def ownerLost (s : State) (truck : Nat) : Content → State
  | .order c => orderUndeliverable s truck c
  | .permit c => permitOutcome s truck c
  | .answer c => if c.kind = .grant then grantLost s c else s
  | .prompt _ => s
  | .assist _ => s
  | .text _ => s

/-- The in-flight record of a truck's queue with a sequence number. -/
def inFlightRec (s : State) (truck seq : Nat) : Option Rec :=
  (truckOf s truck).bind fun t => t.queue.find? fun r => r.seq == seq && r.inFlight

/-- One acknowledgement: taken when it names the sequence number of a record in flight, which is removed and reported to
its owner (R121). -/
def takeAck (truck : Nat) (s : State) (seq : Nat) : State :=
  match inFlightRec s truck seq with
  | some r => ownerAcknowledged (dropRec s truck r.subject) truck seq r.content
  | none => s

/-- The acknowledgements of a REPLY, one by one in frame order (R121). -/
def takeAcks (s : State) (truck : Nat) (acks : List Nat) : State := eachOf (takeAck truck) acks s

/-- A record removed as undeliverable: UNDELIVERABLE is posted, then the owner is told (R123, R127). -/
def loseRec (s : State) (truck : Nat) (r : Rec) (why : LossReason) (attempts : Nat) : State :=
  let s1 := dropRec s truck r.subject
  let s2 := post s1 (.undeliverable truck r.subject r.content.summary r.origin why attempts (stamp s r.entry))
  ownerLost s2 truck r.content

/-- The end of a turn for one record still in flight: its mark is cleared and an attempt counted; at 8 it is
undeliverable (R122). A record that loses its mark is an occurrence the arbiter is asked at (R143). -/
def endTurnRec (truck : Nat) (s : State) (seq : Nat) : State :=
  match inFlightRec s truck seq with
  | some r =>
    if 8 ≤ r.attempts + 1 then loseRec { s with askArb := true } truck r .attempts (r.attempts + 1)
    else
      { modTruck s truck fun t =>
          { t with queue := t.queue.map fun x =>
              if x.seq = seq ∧ x.inFlight = true then { x with inFlight := false, attempts := x.attempts + 1 } else x }
        with askArb := true }
  | none => s

/-- The end of a turn for a truck's queue, its records still in flight taken in queue order (R122). -/
def endTurnQueue (s : State) (truck : Nat) : State :=
  match truckOf s truck with
  | some t => eachOf (endTurnRec truck) ((t.queue.filter Rec.inFlight).map Rec.seq) s
  | none => s

/-- The record's discard time has been reached (R124). -/
def Rec.discardReached (now : Nat) (r : Rec) : Bool :=
  match r.discard with
  | some d => decide (d ≤ now)
  | none => false

end Sys2Proof.Machine
end

