-- ==== Sys2Proof/Machine/Scheduler.lean ====
section
/-!
DEFINITION. The Roll-Call Scheduler (spec/07_roll_call_and_the_air_channel.md): turns, the channel arbiter, the phases
of a cycle and its start.
-/
namespace Sys2Proof.Machine

/-- A frame handed to the transceiver link now, with the octets it takes: it is on the air until its airtime has passed
(R131, R163). -/
def handOver (s : State) (f : DownFrame) (octets : Nat) : State :=
  { s with
    air := { s.air with ttx := some f }
    load := { s.load with
      sent := s.load.sent ++ [{ lo := s.nowMs, hi := s.nowMs + airtime octets s.air.rate }] } }

/-! ## Turns (R137) -/

/-- The octets of a POLL: 9, its route octets, one for each uplink number, and 4 and the content for each record (spec/11
section 11.5). No bound of 420 octets is put on a POLL (R162; DESIGN CHOICE: notes/assumptions/44.md). -/
def pollOctets (route acks : List Nat) (recs : List (Nat × Content)) : Nat :=
  9 + routeOctets route + acks.length + (recs.map fun r => 4 + r.2.octets).sum

/-- The GRANTs of the records taken into a POLL are reported as sent (R101, R119). -/
def reportSent (s : State) (recs : List (Nat × Content)) : State :=
  recs.foldl (fun s r =>
    match r.2 with
    | .answer c => if c.kind = .grant then grantSent s c else s
    | _ => s) s

/-- The records the next turn of a truck carries, each with its sequence number (R119). -/
def turnRecs (t : Truck) (budget : Nat) : List (Nat × Content) :=
  (t.queue.take (leading budget t.queue)).map fun r => (r.seq, r.content)

/-- A turn for truck `n` begins: the POLL is built under the turn budget in force, its records marked in flight and its
GRANTs reported, it carries and empties the uplink acknowledgement list, takes the route of the truck's zone and is
handed over at once (R119, R132, R137). -/
def beginTurn (s : State) (n : Nat) (kind : TurnKind) : State :=
  match truckOf s n with
  | some t =>
    let recs := turnRecs t s.air.budget
    let route := routeOf s t
    let octets := pollOctets route t.upAcks recs
    let pollEnd := s.nowMs + airtime octets s.air.rate
    let winOpen := pollEnd + 2 * hopSum s route
    let s1 := modTruck s n fun t =>
      { t with queue := markLeading (leading s.air.budget t.queue) t.queue, upAcks := [] }
    let s2 := handOver (reportSent s1 recs) (.poll route n t.upAcks recs) octets
    { s2 with air := { s2.air with
        turn := some { truck := n, kind := kind, route := route, pollEnd := pollEnd, winOpen := winOpen
                       winClose := winOpen + s.air.replyWindow, abandoned := false } } }
  | none => s

/-! ## The channel arbiter (R141) -/

/-- The entry time of the oldest urgent record of a queue that is not in flight (R141). -/
def oldestUrgent (q : List Rec) : Option Nat :=
  ((q.filter fun r => r.urgent && !r.inFlight).map Rec.entry).min?

/-- The truck is eligible for an urgent turn; the entry time of its oldest such record (R141). -/
def urgentClaim (s : State) (t : Truck) : Option Nat :=
  if (t.reach == .reachable || t.reach == .missed) && !passesDown s (routeOf s t) then oldestUrgent t.queue else none

/-- The earliest claim among trucks in ascending number; of equal claims the first (R141). -/
def firstClaim (s : State) : List Truck → Option (Nat × Nat)
  | [] => none
  | t :: l =>
    match urgentClaim s t, firstClaim s l with
    | some e, some (e', n') => if e ≤ e' then some (e, t.num) else some (e', n')
    | some e, none => some (e, t.num)
    | none, r => r

/-- The truck the arbiter picks (R141). -/
def arbiterPick (s : State) : Option Nat := (firstClaim s s.trucks).map Prod.snd

/-! ## Phases (R136, R142, R143) -/

/-- GAP: the arbiter is asked, and a truck it picks begins an urgent turn at once (R143); it is not counted (DESIGN CHOICE:
notes/assumptions/51.md). -/
def askInGap (s : State) : State :=
  match arbiterPick s with
  | some n => beginTurn s n .urgent
  | none => s

/-- The phase becomes GAP, and the arbiter is asked (R143). -/
def enterGap (s : State) : State := askInGap { s with air := { s.air with phase := .gap } }

/-- The phase becomes WINDOW: with 0 slots it passes on at once as `past` says; otherwise an OPEN frame of 8 octets
announces the slots and the window runs from its end for 300 ms a slot (R142). -/
def enterWindow (past : State → State) (s : State) : State :=
  if s.air.slots = 0 then past s
  else
    let s1 := handOver s (.open s.air.slots) 8
    { s1 with air := { s1.air with
        phase := .window, winSlots := s.air.slots
        winEnd := s.nowMs + airtime 8 s.air.rate + s.air.slots * 300 } }

/-- A list entry is passed over: its number no longer names the record it named, or its route now passes a DOWN site
(R136). -/
def passOver (s : State) (e : ListEntry) : Bool :=
  !e.live ||
    match truckOf s e.truck with
    | some t => passesDown s (routeOf s t)
    | none => true

/-- The next entry of the cycle list that is not passed over begins its roll-call turn; after the last the phase becomes
WINDOW (R136). -/
def takeEntries (past : State → State) : List ListEntry → State → State
  | [], s => enterWindow past { s with air := { s.air with list := [] } }
  | e :: l, s =>
    if passOver s e then takeEntries past l s
    else beginTurn { s with air := { s.air with list := l, urgentRun := 0 } } e.truck .rollCall

/-- The truck is listed at a cycle start (R135 step 5). -/
def listed (s : State) (t : Truck) : Bool :=
  !passesDown s (routeOf s t)
    && (t.reach == .reachable || t.reach == .missed || (t.reach == .lost && s.air.cycle % 4 == 0))

/-- The cycle list formed in ascending truck number (R135 step 5). -/
def formList (s : State) : List ListEntry :=
  (s.trucks.filter (listed s)).map fun t => { truck := t.num, live := true }

/-- A cycle start; `first` at the first cycle after a reset, whose counter is held (R134, R135). No urgent turn has begun yet
(DESIGN CHOICE: notes/assumptions/51.md). -/
def startCycle (first : Bool) (s : State) : State :=
  let cycle := if first then 0 else (s.air.cycle + 1) % 256
  let s1 : State :=
    { s with
      air := { s.air with
        cycle := cycle, startTime := s.nowMs, rate := s.air.rateWaiting.getD s.air.rate, rateWaiting := none
        nextStart := s.nowMs + (bandEntryInForce s).interval * 1000, startReached := false, phase := .list
        urgentRun := 0 }
      load := s.load.applyStaged }
  let s2 : State := { s1 with air := { s1.air with list := formList s1 } }
  takeEntries enterGap s2.air.list s2

/-- Where the open window ends or is skipped: the phase becomes GAP, or where the next scheduled start has been reached
in this cycle the next cycle starts at once (R142, R143). -/
def pastWindow (s : State) : State := if s.air.startReached then startCycle false s else enterGap s

/-- After a turn has ended in LIST: up to two urgent turns follow a roll-call turn, then the next entry is taken (R136,
R141). -/
def goOnInList (s : State) : State :=
  if s.air.urgentRun < 2 then
    match arbiterPick s with
    | some n => beginTurn { s with air := { s.air with urgentRun := s.air.urgentRun + 1 } } n .urgent
    | none => takeEntries pastWindow s.air.list s
  else takeEntries pastWindow s.air.list s

/-- The Scheduler goes on to the next turn or phase after a turn has ended (R138 stage 7, R139 step 4, R143). -/
def goOn (s : State) : State :=
  match s.air.phase with
  | .list => goOnInList s
  | .window => s
  | .gap => if s.air.startReached then startCycle false s else askInGap s

/-! ## The end of an event -/

/-- The arbiter asked where the phase is GAP and no turn is in flight (R143, R152 step 5, R157 step 5). -/
def askIfIdle (s : State) : State :=
  if s.air.phase = .gap ∧ s.air.turn = none then askInGap s else s

/-- The end of an event: where one of the occurrences of R143 came about in it, the arbiter is asked
(notes/assumptions/9.md). -/
def settleEvent (s : State) : State :=
  let s1 := { s with askArb := false }
  if s.askArb then askIfIdle s1 else s1

end Sys2Proof.Machine
end

