-- ==== Sys2Proof/Machine/Relays.lean ====
section
/-!
DEFINITION. The Relay Router's shared operations (spec/08_sites_and_relay_routing.md): a site's change of state and the
changes of route a configuration brings.
-/
namespace Sys2Proof.Machine

/-- A site's state set, with SITE_STATE; a change of state is an occurrence the arbiter is asked at (R157 step 1,
R143). -/
def setSiteState (s : State) (n : Nat) (st : SiteState) : State :=
  match siteOf s n with
  | some x =>
    let s1 := modSite s n fun x => { x with state := st }
    post { s1 with askArb := true } (.siteState n x.state st (stampOpt s x.lastBeacon))
  | none => s

/-- The trucks for which `p` holds, in ascending number. -/
def trucksWhere (s : State) (p : Truck → Bool) : List Nat := (s.trucks.filter p).map Truck.num

/-- A site goes DOWN: its trucks are forced, then SITE is evaluated for every permit (R156, R157). -/
def siteGoesDown (s : State) (n : Nat) : State :=
  let s1 := setSiteState s n .down
  evalAllSites (eachOf routeDown (trucksWhere s1 fun t => (routeOf s1 t).contains n) s1)

/-- A DOWN site returns to UP: the trucks whose route passed it and now passes no DOWN site are forced, then SITE is
evaluated for every permit (R155, R157). -/
def siteReturns (s : State) (n : Nat) : State :=
  let s1 := setSiteState s n .up
  evalAllSites
    (eachOf routeRestored (trucksWhere s1 fun t => (routeOf s1 t).contains n && !passesDown s1 (routeOf s1 t)) s1)

/-- The site's beacon timeout has been reached while it is UP (R156). -/
def Site.timedOut (now : Nat) (x : Site) : Bool :=
  x.state == .up &&
    match x.lastBeacon with
    | some t => decide (t + x.timeout ≤ now)
    | none => false

/-- Whether each truck's route passes a DOWN site in state `a`, noted before a change that leads to state `b`: the
trucks for which it did or did not and now does the contrary are forced, in ascending truck number (R152 step 3). -/
def forceRouteChanges (a b : State) : State :=
  eachOf (fun s n =>
    match truckOf a n with
    | some t =>
      let old := passesDown a (routeOf a t)
      let new := passesDown b (routeOf b t)
      if routeOf a t = routeOf b t then s
      else if new && !old then routeDown s n
      else if old && !new then routeRestored s n
      else s
    | none => s) (truckNums a) b

/-- A range lies within another. -/
def within (inner outer : Nat × Nat) : Bool := outer.1 ≤ inner.1 && inner.2 ≤ outer.2

/-- Two ranges overlap. -/
def overlap (a b : Nat × Nat) : Bool := a.1 ≤ b.2 && b.1 ≤ a.2

/-- The zone range of a site: 1 to 250 for site 0, a used site's own (R149). -/
def rangeOf (s : State) (n : Nat) : Option (Nat × Nat) :=
  if n = 0 then some (1, 250)
  else
    match siteOf s n with
    | some x => if x.used then x.range else none
    | none => none

/-- The site is the parent of a used site. -/
def hasChildren (s : State) (n : Nat) : Bool := s.sites.any fun x => x.used && x.parent == n

/-- The parent given is 0, or a used site other than this one whose own parent is 0 (R151 check 3). -/
def parentFits (s : State) (n parent : Nat) : Bool :=
  parent == 0 ||
    (parent != n &&
      match siteOf s parent with
      | some x => x.used && x.parent == 0
      | none => false)

/-- The checks 3 to 7 of SET_SITE on clamped values: the first failure (R151). -/
def siteChecks (s : State) (n parent : Nat) (range : Nat × Nat) : Option Result :=
  if parentFits s n parent = false then some .badField
  else if parent ≠ 0 ∧ hasChildren s n = true then some .badField
  else if ((rangeOf s parent).any fun r => within range r) = false then some .badField
  else if (s.sites.all fun x => !(x.used && x.parent == n) || (x.range.any fun r => within r range)) = false then
    some .badField
  else if (s.sites.any fun x =>
      x.used && x.num != n && x.parent == parent && (x.range.any fun r => overlap r range)) = true then
    some .rangeOverlap
  else none

end Sys2Proof.Machine
end

