-- ==== Sys2Proof/Machine/Flags.lean ====
section
/-!
DEFINITION. The flags of STATUS (R181): the derived flags, computed from the tables, and the sticky flags of the Console
Port, set and cleared here.
-/
namespace Sys2Proof.Machine

/-- Some context of a truck is in a state. -/
def Truck.hasContext (t : Truck) (st : WatchState) : Bool := t.w1.state == st || t.w2.state == st

/-- ALARM_OPEN, WARN_OPEN, PERMIT_HALTED, SITE_DOWN and TRUCK_LOST (R181). -/
def derivedFlags (s : State) : DerivedFlags :=
  { alarmOpen := s.trucks.any fun t => t.hasContext .alarm
    warnOpen := s.trucks.any fun t => t.hasContext .warn
    permitHalted := s.permits.any fun p => p.causes.any
    siteDown := anyDown s
    truckLost := s.trucks.any fun t => t.reach == .lost }

/-- The number of contexts in ALARM (R175). -/
def alarmCount (s : State) : Nat :=
  (s.trucks.map fun t => (t.w1.state == .alarm).toNat + (t.w2.state == .alarm).toNat).sum

/-- LINK_FAULT set (R177, R178, R183). -/
def setLinkFault (s : State) : State :=
  { s with port := { s.port with sticky := { s.port.sticky with linkFault := true } } }

/-- LAPSED set (R174). -/
def setLapsed (s : State) : State := { s with port := { s.port with sticky := { s.port.sticky with lapsed := true } } }

/-- The four sticky flags cleared, after STATUS has reported them (R181). -/
def clearSticky (s : State) : State :=
  { s with port := { s.port with
      sticky := { restarted := false, linkFault := false, lapsed := false, noticesLost := false } } }

end Sys2Proof.Machine
end

