-- ==== Sys2Proof/Machine/Service.lean ====
section
/-!
DEFINITION. How a console request is served (R172, R178): acceptance arms the supervision window, the request is taken
into the buffer, its owner builds the reply, and its effects follow with their notices behind the reply.
-/
namespace Sys2Proof.Machine

/-- What an owner answers: the result code and the reply's fields. -/
structure Answer where
  code : Result
  body : ReplyBody
  deriving DecidableEq, Repr

/-- What serving a request comes to: the state it leaves and its answer. -/
abbrev Served := State × Answer

/-- A request refused: the state as it was, and the result code alone (R179, spec/00 section 4.5). -/
def refuse (s : State) (c : Result) : Served := (s, { code := c, body := .none })

/-- A request carried out with a reply of the result code alone. -/
def done (s : State) (c : Result) : Served := (s, { code := c, body := .none })

/-- The supervision window armed by an accepted frame (R172). -/
def armWindow (s : State) : State :=
  { s with sup := { s.sup with
      lastValid := some s.now
      lapse := if s.sup.mode = .off then s.sup.lapse else some (s.now + s.sup.window) } }

/-- The request put into the buffer with its reply; with CTX free the reply begins sending at once (R178, R179). -/
def attach (s : State) (kind tag : Nat) (a : Answer) : State :=
  kick { s with port := { s.port with
      buffer := s.port.buffer ++ [{ kind := kind, tag := tag, code := a.code, body := a.body }] } }

/-- An accepted console frame of a kind: the window is armed; after RESTART has been served the frame is discarded; with
four requests buffered it is dropped and LINK_FAULT set; otherwise it is served within the event. The owner's answer is
attached before its effects post notices, so the reply goes first (R172, R178, R179). -/
def serve (kind tag : Nat) (f : State → Served) (s : State) : State :=
  let s1 := armWindow s
  if s1.port.restart ≠ .running then s1
  else if 4 ≤ s1.port.buffer.length then setLinkFault s1
  else settleEvent (f (attach s1 kind tag (f s1).2)).1

/-- A part held in reset takes nothing (R184); otherwise the event is taken. -/
def unlessHeld (f : State → State) (s : State) : Host.Outcome State Fault Refusal :=
  if s.held then .next s else .next (f s)

/-- A console request as a command. -/
def request (kind tag : Nat) (f : State → Served) (s : State) : Host.Outcome State Fault Refusal :=
  unlessHeld (serve kind tag f) s

/-- An event other than a console request as a command. -/
def event (f : State → State) (s : State) : Host.Outcome State Fault Refusal :=
  unlessHeld (fun s => settleEvent (f s)) s

end Sys2Proof.Machine
end

