-- ==== Sys2Proof/Machine/Operands.lean ====
section
/-!
DEFINITION. Operand forms: bringing a request's fields within their limits (R2, R20, R41, R67 and the other requests'
clamps), and reading a code as a value of an enumeration (spec/11_the_console_link.md section 11.5: enumerations are
numbered from 0 in the order the manual lists their values).
-/
namespace Sys2Proof.Machine

/-- The value brought to the nearest limit of `lo` to `hi` (spec/00_scope.md section 4.5). -/
def clamp (lo hi n : Nat) : Nat := if n < lo then lo else if hi < n then hi else n

/-- OK, or CLAMPED where a value was clamped or a text cut (spec/00_scope.md section 4.5). -/
def okOr (changed : Bool) : Result := if changed then .clamped else .ok

/-! ## Codes -/

def timerOf : Nat → Option TimerMode
  | 0 => some .interval
  | 1 => some .stillness
  | 2 => some .task
  | _ => none

def alarmOf : Nat → Option AlarmMode
  | 0 => some .latched
  | 1 => some .selfClear
  | 2 => some .reportOnly
  | _ => none

def actionOf : Nat → Option Action
  | 0 => some .open
  | 1 => some .close
  | 2 => some .ground
  | 3 => some .unground
  | 4 => some .verify
  | _ => none

def positionOf : Nat → Option Position
  | 0 => some .open
  | 1 => some .closed
  | 2 => some .grounded
  | 3 => some .unknown
  | _ => none

/-- The position a STEP_DONE reports: a code that names none is taken as UNKNOWN (R105). -/
def reportedPosition (code : Nat) : Position := (positionOf code).getD .unknown

def replyCodeOf : Nat → Option ReplyCode
  | 0 => some .accept
  | 1 => some .decline
  | 2 => some .enRoute
  | 3 => some .onSite
  | 4 => some .complete
  | _ => none

def policyOf : Nat → Option Policy
  | 0 => some .global
  | 1 => some .affected
  | _ => none

def supModeOf : Nat → Option SupMode
  | 0 => some .off
  | 1 => some .report
  | 2 => some .act
  | _ => none

/-- The air rate a code names, in bit/s (R133). -/
def airRateOf : Nat → Option Nat
  | 0 => some 4800
  | 1 => some 9600
  | 2 => some 19200
  | _ => none

/-- The link rate a code names, in bit/s (R183). -/
def linkRateOf : Nat → Option Nat
  | 0 => some 57600
  | 1 => some 115200
  | 2 => some 230400
  | 3 => some 460800
  | _ => none

/-- A decision of DECIDE_STEP: 0 APPROVE (true), 1 DENY (false) (R99). -/
def approvesOf : Nat → Option Bool
  | 0 => some true
  | 1 => some false
  | _ => none

/-! ## The watch settings (R20, R41) -/

/-- The warning lead brought below the interval: W becomes I minus 10 if it is I or more (R41), so that it may be up to I
minus 1, where R46 speaks of I minus 10 as its bound (DEDUCED: notes/assumptions/46.md). -/
def clampLead (interval lead : Nat) : Nat :=
  let w := clamp 10 600 lead
  if interval ≤ w then interval - 10 else w

/-- A settings set brought within its limits, none if a mode code names no mode (BAD_FIELD) (R20, R41). -/
def settingsOf (x : SettingsIn) : Option Settings :=
  match timerOf x.timer, alarmOf x.alarm with
  | some t, some a =>
    some { timer := t, alarm := a, interval := clamp 60 3600 x.interval
           lead := clampLead (clamp 60 3600 x.interval) x.lead
           task := clamp 300 28800 x.task, still := clamp 30 900 x.still }
  | _, _ => none

/-- Whether bringing the set within its limits changed a value. -/
def settingsClamped (x : SettingsIn) : Bool :=
  clamp 60 3600 x.interval != x.interval || clampLead (clamp 60 3600 x.interval) x.lead != x.lead
    || clamp 300 28800 x.task != x.task || clamp 30 900 x.still != x.still

/-- A watch profile brought within its limits (R20). -/
def profileOf (p : ProfileIn) : Option Profile :=
  (settingsOf p.set).map fun st => { seat := clamp 1 2 p.seat, set := st }

def profileClamped (p : ProfileIn) : Bool := clamp 1 2 p.seat != p.seat || settingsClamped p.set

/-! ## The order fields (R20) -/

/-- The list without any number already present earlier in it. -/
def dropRepeats : List Nat → List Nat
  | [] => []
  | n :: l => n :: (dropRepeats l).filter (· ≠ n)

/-- A candidate list brought within its limits: each number clamped, repeats dropped, cut to four (R20). -/
def candidatesOf (l : List Nat) : List Nat := (dropRepeats (l.map (clamp 1 999))).take 4

def textCut (limit : Nat) (t : Text) : Bool := limit < t.length

/-! ## The permit fields (R67) -/

/-- A step of LOAD_PERMIT brought within its limits, as a fresh PENDING step; none for an action code that names no
action and for a VERIFY without a known required position (BAD_FIELD). `restore` clears the HOLD flag. -/
def stepOf (restore : Bool) (x : StepIn) : Option StepRec :=
  match actionOf x.action with
  | none => none
  | some a =>
    let req : Option (Option Position) :=
      if a = .verify then
        match x.required.bind positionOf with
        | some .unknown => none
        | some p => some (some p)
        | none => none
      else some none
    req.map fun r =>
      { point := max x.point 1, action := a, required := r, hold := x.hold && !restore, confirm := x.confirm
        state := .pending, result := none, sent := false, reason := none }

/-- Whether bringing the step within its limits changes it. -/
def stepClamped (restore : Bool) (x : StepIn) : Bool :=
  x.point == 0 || (restore && x.hold) || (actionOf x.action != some .verify && x.required.isSome)

/-- The isolate steps kept: the first 12 (R67). -/
def isoKept (iso : List StepIn) : List StepIn := iso.take 12

/-- The restore steps kept: the first 12, then so many that both lists hold at most 16 (R67). -/
def restKept (iso rest : List StepIn) : List StepIn := (rest.take 12).take (16 - (isoKept iso).length)

/-- All steps of a list brought within limits, none if one cannot be. -/
def stepsOf (restore : Bool) : List StepIn → Option (List StepRec)
  | [] => some []
  | x :: l =>
    match stepOf restore x, stepsOf restore l with
    | some r, some rs => some (r :: rs)
    | _, _ => none

end Sys2Proof.Machine
end

