-- ==== Sys2Proof/Machine/Asks.lean ====
section
/-!
DEFINITION. Step asks, their checks and answers, and step ends (spec/05_step_requests_points_and_holds.md), and the
items PERMIT_ACCEPT and WORK_DONE (R74, R76).
-/
namespace Sys2Proof.Machine

/-! ## The checks (R92 to R94) -/

/-- The number of the current step of a list: the lowest-numbered step that is not DONE (R93). -/
def currentNum (l : List StepRec) : Option Nat := (l.findIdx? fun x => x.state != .done).map (· + 1)

/-- The step named is the current step of its list (R93). -/
def Permit.isCurrent (p : Permit) (i : StepId) : Bool :=
  if i.list = 0 then currentNum p.iso == some i.num else if i.list = 1 then currentNum p.rest == some i.num else false

/-- A VERIFY step of another permit than `n` that names the point is ANSWERED or EXECUTING (R90, R94 check 8). -/
def verifiedByOther (s : State) (point n : Nat) : Bool :=
  s.permits.any fun p =>
    p.num != n && p.steps.any fun x =>
      x.2.point == point && x.2.action == .verify && (x.2.state == .answered || x.2.state == .executing)

/-- Check 2: ISOLATING for an isolate step, RESTORING for a restore step (R92). -/
def checkActive (p : Permit) (i : StepId) : Bool :=
  if i.list = 0 then p.state == .isolating else p.state == .restoring

/-- Check 6: the console is ATTENDED, or the step is neither energizing nor CONFIRM-flagged (R92). -/
def checkConsole (s : State) (x : StepRec) : Bool :=
  s.sup.console == .attended || (!x.action.energizing && !x.confirm)

/-- Check 7: the holds of other permits on the point allow the step (R94). -/
def checkHolds (q : Point) (n : Nat) (x : StepRec) : Bool :=
  q.holds.all fun h => h.permit == n || (x.action == .verify && some h.position == x.required)

/-- Check 8: no other permit's claim is active on the point (R94). -/
def checkClaims (s : State) (q : Point) (n : Nat) (x : StepRec) : Bool :=
  (match q.busy with
   | some b => b.permit == n
   | none => true)
    && (x.action == .verify || !verifiedByOther s q.num n)

/-- Check 9: a VERIFY with the HOLD flag can have its hold placed (R94). -/
def checkHoldLimit (q : Point) (n : Nat) (x : StepRec) : Bool :=
  !(x.action == .verify && x.hold) || q.holds.length < 4 || (q.holdOf n).isSome

/-- Check 10: the reason it fails with, none where it passes (R94). -/
def checkPosition (q : Point) (x : StepRec) : Option Reason :=
  match x.action.before with
  | none => if some q.position = x.required then none else some .position
  | some b =>
    if q.position = .unknown then some .unknownPosition else if q.position = b then none else some .position

/-- Checks 5 to 10 on a step of permit `p`: the reason of the first that fails (R92). -/
def laterChecks (s : State) (p : Permit) (x : StepRec) : Option Reason :=
  if ((truckOf s p.holder).any Truck.blocked) = true then some .crewAlarm
  else if checkConsole s x = false then some .unattended
  else
    match pointOf s x.point with
    | none => some .unknownPosition
    | some q =>
      if checkHolds q p.num x = false then some .heldByOther
      else if checkClaims s q p.num x = false then some .pointBusy
      else if checkHoldLimit q p.num x = false then some .holdLimit
      else checkPosition q x

/-! ## Answers (R95 to R97) -/

/-- STEP_IGNORED (R95, R97, R105). -/
def ignoreStep (s : State) (truck : Nat) (item : ItemKind) (permit : Nat) (i : StepId) (why : StepIgnored)
    (r : Option Reason) : State :=
  post s (.stepIgnored truck item permit i why r)

/-- A GRANT that can be placed: placed in the holder's queue, the step ANSWERED without a refusal reason, and the busy
mark set for an action other than VERIFY (R95). -/
def placeGrant (s : State) (p : Permit) (i : StepId) (x : StepRec) : State :=
  let s1 := give s p.holder (.answer (grantContent p.num i x))
  let s2 := modStep s1 p.num i fun y => { y with state := .answered, reason := none }
  if x.action = .verify then s2
  else modPoint s2 x.point fun q => { q with busy := some { permit := p.num, step := i } }

/-- An ask that passes every check and has no CONFIRM flag (R95). -/
def grantAsk (s : State) (p : Permit) (i : StepId) (x : StepRec) : State :=
  if canGive s p.holder (.answer p.num) then placeGrant s p i x
  else ignoreStep s p.holder .stepAsk p.num i .queueFull none

/-- The refusal of an ask: the step's last refusal reason where the holder asked for a step that exists, and the answer
to the asking truck unless a GRANT or HELD stands there or there is no room (R97). -/
def refuseAsk (s : State) (truck permit : Nat) (i : StepId) (r : Reason) : State :=
  let mine :=
    match permitOf s permit with
    | some p => p.holder == truck && (p.step i).isSome
    | none => false
  let s1 := if mine then modStep s permit i fun x => { x with reason := some r } else s
  let standing := (answerIn s1 truck permit).any fun c => c.kind != .refuse
  if standing then ignoreStep s1 truck .stepAsk permit i .answerStanding (some r)
  else if canGive s1 truck (.answer permit) then give s1 truck (.answer (refuseContent permit i r))
  else ignoreStep s1 truck .stepAsk permit i .queueFull (some r)

/-- An ask that passes every check with the CONFIRM flag: put to the dispatcher (R96). -/
def holdAsk (s : State) (p : Permit) (i : StepId) (x : StepRec) : State :=
  if 16 ≤ s.asks.length then refuseAsk s p.holder p.num i .busy
  else if canGive s p.holder (.answer p.num) then
    let s1 := give s p.holder (.answer (heldContent p.num i))
    let expiry := s.now + s.timeouts.decision
    let s2 := { s1 with asks := s1.asks ++
      [{ permit := p.num, step := i, holder := p.holder, askTime := s.now, expiry := expiry }] }
    let s3 := modStep s2 p.num i fun y => { y with state := .asked, reason := none }
    post s3 (.stepPending p.num i x.point x.action p.holder (stamp s expiry))
  else ignoreStep s p.holder .stepAsk p.num i .queueFull none

/-- A repeat of an ask that waits for the dispatcher: the HELD is placed again where no ANSWER stands (R93). -/
def repeatHeld (s : State) (p : Permit) (i : StepId) : State :=
  if (answerIn s p.holder p.num).isSome then s else give s p.holder (.answer (heldContent p.num i))

/-- A STEP_ASK item (R92 to R97). -/
def stepAsk (s : State) (truck permit : Nat) (i : StepId) (point action : Nat) : State :=
  match permitOf s permit with
  | none => refuseAsk s truck permit i .mismatch
  | some p =>
    match p.step i with
    | none => refuseAsk s truck permit i .mismatch
    | some x =>
      if p.holder ≠ truck ∨ x.point ≠ point ∨ actionOf action ≠ some x.action then refuseAsk s truck permit i .mismatch
      else if checkActive p i = false then refuseAsk s truck permit i .notActive
      else if p.causes.any = true then refuseAsk s truck permit i .halted
      else if p.isCurrent i = false ∨ x.state = .done then refuseAsk s truck permit i .outOfOrder
      else
        match x.state with
        | .asked => repeatHeld s p i
        | .pending =>
          match laterChecks s p x with
          | some r => refuseAsk s truck permit i r
          | none => if x.confirm then holdAsk s p i x else grantAsk s p i x
        | _ => s

/-- The checks 2 to 10 of an approval, check 4 passing for the current step that is ASKED (R99). -/
def approvalChecks (s : State) (p : Permit) (i : StepId) (x : StepRec) : Option Reason :=
  if checkActive p i = false then some .notActive
  else if p.causes.any = true then some .halted
  else if p.isCurrent i = false ∨ x.state ≠ .asked then some .outOfOrder
  else laterChecks s p x

/-! ## Step ends (R105 to R108) -/

/-- The position of the step's point set to a reported position; its busy mark cleared if it names the step and
`clear` holds (R106, R107, R108). -/
def setReported (s : State) (point permit : Nat) (i : StepId) (pos : Position) (clear : Bool) : State :=
  let s1 := modPoint s point fun q => { q with position := pos }
  if clear then clearBusy s1 point permit i else s1

/-- Any hold an isolate step places or updates at its end can be placed: no hold of another permit at another position,
and room for a fifth is not needed (R89, R105). -/
def holdPlaceable (s : State) (n : Nat) (i : StepId) (x : StepRec) : Bool :=
  match pointOf s x.point with
  | none => true
  | some q =>
    if i.list = 1 then true
    else
      let agrees := q.holds.all fun h => h.permit == n || h.position == x.leaves
      match q.holdOf n with
      | some _ => agrees
      | none => !x.hold || (agrees && q.holds.length < 4)

/-- The hold an isolate step places or updates at a normal end (R106 step 3). -/
def placeHold (s : State) (n : Nat) (i : StepId) (x : StepRec) : State :=
  if i.list = 1 then s
  else
    modPoint s x.point fun q =>
      match q.holdOf n with
      | some _ =>
        { q with holds := q.holds.map fun h => if h.permit = n then { h with position := x.leaves } else h }
      | none =>
        if x.hold then { q with holds := q.holds ++ [{ permit := n, position := x.leaves }] } else q

/-- DONE_AFTER_REVOKE, where the end is a done after revoke, behind the STEP_RESULT (R108). -/
def postRevoke (s : State) (n : Nat) (i : StepId) (x : StepRec) (pos : Position) (revoked : Bool) : State :=
  match permitOf s n with
  | some p => if revoked then post s (.doneAfterRevoke n i x.point pos p.state) else s
  | none => s

/-- A normal end of step `i` (as `x`) of permit `n` (R106). -/
def normalEnd (s : State) (n : Nat) (i : StepId) (x : StepRec) (pos : Position) (revoked : Bool) : State :=
  let s1 := setReported s x.point n i pos (!revoked)
  let s2 := modStep s1 n i fun y => { y with state := .done, result := some .normal }
  let s3 := weigh (placeHold s2 n i x) x.point (.stepDone n i)
  let s4 := post s3 (.stepResult n i x.point pos .normal none)
  afterDone (postRevoke s4 n i x pos revoked) n

/-- An abnormal end (R107). -/
def abnormalEnd (s : State) (n : Nat) (i : StepId) (x : StepRec) (pos : Position) (revoked : Bool) : State :=
  let s1 := setReported s x.point n i pos (!revoked)
  let s2 := weigh (addCause s1 n .mismatch) x.point (.stepDone n i)
  let s3 := modStep s2 n i fun y => { y with state := .done, result := some .abnormal }
  let why := if pos = x.leaves then AbnormalReason.holdRefused else AbnormalReason.position
  let s4 := post s3 (.stepResult n i x.point pos .abnormal (some why))
  afterDone (postRevoke s4 n i x pos revoked) n

/-- The end of a step by its report: normal or abnormal (R105). -/
def endStep (s : State) (n : Nat) (i : StepId) (x : StepRec) (pos : Position) (revoked : Bool) : State :=
  if pos = x.leaves ∧ holdPlaceable s n i x = true then normalEnd s n i x pos revoked
  else abnormalEnd s n i x pos revoked

/-- What a step no longer granted has in flight withdrawn: its pending entry and HELD, or its GRANT and busy mark; for a
restore step the permit's own hold on the point released (R108). -/
def withdrawStep (s : State) (p : Permit) (i : StepId) (x : StepRec) : State :=
  let s1 :=
    match x.state with
    | .asked =>
      let s1 := removeAsk s p.num
      match answerIn s p.holder p.num with
      | some c => if c.kind = .held ∧ c.step = i then dropRec s1 p.holder (.answer p.num) else s1
      | none => s1
    | .answered =>
      let s1 :=
        match answerIn s p.holder p.num with
        | some c => if c.kind = .grant ∧ c.step = i then dropRec s p.holder (.answer p.num) else s
        | none => s
      clearBusy s1 x.point p.num i
    | _ => s
  if i.list = 1 then releaseHold s1 x.point p.num else s1

/-- A done after revoke (R108). -/
def doneAfterRevoke (s : State) (p : Permit) (i : StepId) (x : StepRec) (pos : Position) : State :=
  if p.state.isOpen then endStep (withdrawStep s p i x) p.num i x pos true
  else if p.state = .cancelled then
    let s1 := weigh (modPoint s x.point fun q => { q with position := pos }) x.point (.stepDone p.num i)
    post s1 (.doneAfterRevoke p.num i x.point pos p.state)
  else s

/-- A STEP_DONE item, by the first case that fits (R105). -/
def stepDone (s : State) (truck permit : Nat) (i : StepId) (code : Nat) : State :=
  match permitOf s permit with
  | none => ignoreStep s truck .stepDone permit i .unknownPermit none
  | some p =>
    if p.holder ≠ truck then ignoreStep s truck .stepDone permit i .notHolder none
    else
      match p.step i with
      | none => ignoreStep s truck .stepDone permit i .noStep none
      | some x =>
        if x.state = .done then s
        else if x.state = .executing then endStep s permit i x (reportedPosition code) false
        else if x.sent then doneAfterRevoke s p i x (reportedPosition code)
        else ignoreStep s truck .stepDone permit i .notGranted none

/-! ## PERMIT_ACCEPT and WORK_DONE (R74, R76) -/

/-- PERMIT_IGNORED (R74, R76). -/
def ignorePermit (s : State) (n truck : Nat) (item : ItemKind) (why : PermitIgnored) (st : Option PermitState) : State :=
  post s (.permitIgnored n truck item why st)

/-- A PERMIT_ACCEPT item (R74). -/
def permitAccept (s : State) (truck n : Nat) : State :=
  match permitOf s n with
  | none => ignorePermit s n truck .permitAccept .unknownPermit none
  | some p =>
    if p.holder ≠ truck then ignorePermit s n truck .permitAccept .notHolder (some p.state)
    else
      match p.state with
      | .issued => enterIsolating s n
      | .loaded => ignorePermit s n truck .permitAccept .state (some p.state)
      | .cancelled => ignorePermit s n truck .permitAccept .state (some p.state)
      | _ => s

/-- A WORK_DONE item (R76). -/
def workDone (s : State) (truck n : Nat) : State :=
  match permitOf s n with
  | none => ignorePermit s n truck .workDone .unknownPermit none
  | some p =>
    if p.holder ≠ truck then ignorePermit s n truck .workDone .notHolder (some p.state)
    else
      match p.state with
      | .cleared =>
        if p.causes.any then ignorePermit s n truck .workDone .halted (some p.state)
        else if p.rest.isEmpty then enterClosed (enterRestoring s n) n
        else enterRestoring s n
      | .restoring => s
      | .closed => s
      | _ => ignorePermit s n truck .workDone .state (some p.state)

end Sys2Proof.Machine
end

