-- ==== Sys2Proof/Machine/Uplink.lean ====
section
/-!
DEFINITION. Taking uplink frames (R138, R144, R145): lengths, items, bursts, and the REPLY that ends a turn.
-/
namespace Sys2Proof.Machine

/-! ## Lengths (spec/11 section 11.5) -/

/-- The octets an item takes: its kind, its length, and its fields. -/
def itemOctets : Item → Nat
  | .register => 2
  | .checkIn _ => 3
  | .motion _ _ => 4
  | .taskDone _ => 3
  | .emergency _ => 3
  | .orderReply _ _ => 5
  | .permitAccept _ => 4
  | .workDone _ => 4
  | .stepAsk .. => 9
  | .stepDone .. => 7
  | .other _ length => 2 + length

/-- The octets of a REPLY: length, route, kind, truck, zone, uplink number, two counted lists, check. -/
def replyOctets (h : Header) (acks : List Nat) (items : List Item) : Nat :=
  11 + routeOctets h.relay + acks.length + (items.map itemOctets).sum

/-- The octets of a BURST: as a REPLY's, with one item and no counts. -/
def burstOctets (h : Header) (item : Item) : Nat := 9 + routeOctets h.relay + itemOctets item

/-- The octets of a BEACON: 6, and its route if it was passed on. -/
def beaconOctets (relay : List Nat) : Nat := 6 + routeOctets relay

/-! ## Items (R145) -/

/-- An item skipped and counted (R145). -/
def skipItem (s : State) : State := { s with air := { s.air with skipped := bump s.air.skipped } }

/-- One item dispatched to its owner with the truck number of the frame's header (R145). A MOTION value or reply code
that names none makes the item be skipped (spec/11 section 11.5). -/
def dispatch (truck : Nat) (s : State) : Item → State
  | .register => s
  | .checkIn seat => takeContact s truck seat .checkIn false
  | .motion seat value =>
    if value = 0 then takeContact s truck seat .motion true
    else if value = 1 then takeContact s truck seat .motion false
    else skipItem s
  | .taskDone seat => takeContact s truck seat .taskDone false
  | .emergency seat => takeEmergency s truck seat
  | .orderReply order code =>
    match replyCodeOf code with
    | some c => orderReply s order truck c
    | none => skipItem s
  | .permitAccept permit => permitAccept s truck permit
  | .workDone permit => workDone s truck permit
  | .stepAsk permit step point action => stepAsk s truck permit step point action
  | .stepDone permit step position => stepDone s truck permit step position
  | .other _ _ => skipItem s

/-- The items of a frame dispatched in frame order (R145). -/
def dispatchAll (truck : Nat) (s : State) (items : List Item) : State := items.foldl (dispatch truck) s

/-- An uplink number joined to a truck's acknowledgement list: not twice, and the oldest leaves a list of four (R132). -/
def joinUplink (s : State) (truck uplink : Nat) : State :=
  modTruck s truck fun t =>
    if t.upAcks.contains uplink then t
    else if t.upAcks.length < 4 then { t with upAcks := t.upAcks ++ [uplink] }
    else { t with upAcks := t.upAcks.drop 1 ++ [uplink] }

/-! ## Bursts (R8, R140, R144) -/

/-- A frame of an unknown truck: UNKNOWN_TRUCK where it holds a REGISTER item, and nothing else (R8). -/
def unknownFrame (s : State) (h : Header) (items : List Item) : State :=
  if items.contains .register then post s (.unknownTruck h.truck h.zone) else s

/-- A REPLY or BURST that does not end the turn in flight: header, uplink number, items; its acknowledgements are not
taken (R144). -/
def takeBurst (s : State) (h : Header) (items : List Item) : State :=
  match truckOf s h.truck with
  | some _ => dispatchAll h.truck (joinUplink (takeHeader s h.truck h.zone) h.truck h.uplink) items
  | none => unknownFrame s h items

/-! ## The REPLY that ends a turn (R138) -/

/-- The turn in flight ended by this REPLY: its header names the turn's truck, and it is decoded at or after the window
opening and before the window closing (R138). -/
def endsTurn (s : State) (h : Header) : Option Turn :=
  match s.air.turn with
  | some t => if t.truck = h.truck ∧ t.winOpen ≤ s.nowMs ∧ s.nowMs < t.winClose then some t else none
  | none => none

/-- The turn is no longer in flight. -/
def clearTurn (s : State) : State := { s with air := { s.air with turn := none } }

/-- The stages 2 to 6 of a REPLY that ends a turn which is not abandoned (R138). -/
def replyStages (s : State) (h : Header) (acks : List Nat) (items : List Item) : State :=
  let s1 := takeHeader s h.truck h.zone
  let s2 := takeAcks s1 h.truck acks
  let s3 := clearTurn (endTurnQueue s2 h.truck)
  dispatchAll h.truck (joinUplink s3 h.truck h.uplink) items

/-- A REPLY, its airtime counted: it ends the turn in flight, or is taken as a burst (R138, R140, R144). -/
def takeReply (s : State) (h : Header) (acks : List Nat) (items : List Item) : State :=
  match endsTurn s h with
  | some t => goOn (if t.abandoned then clearTurn s else replyStages s h acks items)
  | none => takeBurst s h items

/-- The window of the turn in flight closes with no REPLY having ended it (R139). -/
def closeWindow (s : State) (t : Turn) : State :=
  if t.abandoned then goOn (clearTurn s)
  else
    let s1 := missedTurn (clearTurn (endTurnQueue s t.truck)) t.truck
    goOn { s1 with air := { s1.air with missedTurns := bump s1.air.missedTurns } }

/-- A REPLY of the polled truck that comes when the window of its turn has expired is a late one: where the window closing
has not been taken yet, it is taken first, so that the miss is counted before the header is taken (R9, R139). -/
def expireFirst (s : State) (h : Header) : State :=
  match s.air.turn with
  | some t => if t.truck = h.truck ∧ t.winClose ≤ s.nowMs then settleEvent (closeWindow s t) else s
  | none => s

end Sys2Proof.Machine
end

