-- ==== Sys2Proof/Machine/AirEvents.lean ====
section
/-!
DEFINITION. The events of the air channel (spec/07 to spec/09): carrier edges, decoded frames, rejected frames, and the
Scheduler's and the Load Meter's moments.
-/
namespace Sys2Proof.Machine

/-! ## Carrier (R164) -/

/-- A carrier-on; ignored while ON. -/
def Load.carrierOn (m : Load) (t : Nat) : Load :=
  if m.carrier.isSome then m else { m.settle t with carrier := some t, covers := [] }

/-- A carrier-off: the uncovered part of the interval joins the busy time; ignored while OFF. -/
def Load.carrierOff (m : Load) (t : Nat) : Load :=
  if m.carrier.isSome then
    let m1 := m.settle t
    { m1 with busy := m1.busy + m1.carrierTime t, carrier := none, covers := [] }
  else m

/-- A rising edge of CARRIER (R164). -/
def execCarrierOn (s : State) : Host.Outcome State Fault Refusal :=
  event (fun s => { s with load := s.load.carrierOn s.nowMs }) s

/-- A falling edge of CARRIER (R164). -/
def execCarrierOff (s : State) : Host.Outcome State Fault Refusal :=
  event (fun s => { s with load := s.load.carrierOff s.nowMs }) s

/-! ## Frames (R144) -/

/-- A decoded REPLY, behind the window closing of its truck's turn where that has been reached (R138, R144, R9). -/
def execReply (hdr : Header) (acks : List Nat) (items : List Item) (s : State) : Host.Outcome State Fault Refusal :=
  event (fun s => takeReply (countUplink (expireFirst s hdr) (replyOctets hdr acks items)) hdr acks items) s

/-- A decoded BURST (R144). -/
def execBurst (hdr : Header) (item : Item) (s : State) : Host.Outcome State Fault Refusal :=
  event (fun s => takeBurst (countUplink s (burstOctets hdr item)) hdr [item]) s

/-- A frame the part cannot read counted (R146). -/
def rejectFrame (s : State) : State := { s with air := { s.air with rejected := bump s.air.rejected } }

/-- A beacon naming one of sites 1 to 7 (R155). -/
def takeBeacon (s : State) (n : Nat) : State :=
  match siteOf s n with
  | some x =>
    if x.used then
      let s1 := modSite s n fun x => { x with lastBeacon := some s.now }
      if x.state = .down then siteReturns s1 n else s1
    else s
  | none => s

/-- A decoded BEACON: a number that names none of sites 1 to 7 makes it a rejected frame, without airtime (R144, R146,
R155). -/
def execBeacon (relay : List Nat) (site : Nat) (s : State) : Host.Outcome State Fault Refusal :=
  event (fun s =>
    if (siteOf s site).isSome then takeBeacon (countUplink s (beaconOctets relay)) site else rejectFrame s) s

/-- A delivered frame that the part cannot read (R146). -/
def execRejectedFrame (s : State) : Host.Outcome State Fault Refusal := event rejectFrame s

/-! ## The Scheduler's moments (R139, R142, R143) and the period end (R165) -/

/-- The scheduled start of the next cycle reached (R143). -/
def reachStart (s : State) : State :=
  match s.air.phase with
  | .gap =>
    if s.air.turn.isNone then startCycle false s else { s with air := { s.air with startReached := true } }
  | _ => { s with air := { s.air with startReached := true, overruns := bump s.air.overruns } }

/-- The scheduled start has been reached and not been taken yet. -/
def startDue (s : State) : Bool := s.air.nextStart ≤ s.nowMs && !s.air.startReached

/-- The mission clock reaches the scheduled start of the next cycle; nothing before it (R143). -/
def execCycleStart (s : State) : Host.Outcome State Fault Refusal :=
  event (fun s => if startDue s then reachStart s else s) s

/-- The open window's end has been reached. -/
def windowEndDue (s : State) : Bool := s.air.phase == .window && s.air.winEnd ≤ s.nowMs

/-- The open window ends; nothing before its end or outside WINDOW (R142). -/
def execOpenWindowEnd (s : State) : Host.Outcome State Fault Refusal :=
  event (fun s => if windowEndDue s then pastWindow s else s) s

/-- The window closing of the turn in flight has been reached. -/
def closingDue (s : State) : Bool :=
  match s.air.turn with
  | some t => t.winClose ≤ s.nowMs
  | none => false

/-- The reply window of the turn in flight closes; nothing before its closing or with no turn in flight (R139). -/
def execWindowClosing (s : State) : Host.Outcome State Fault Refusal :=
  event (fun s =>
    match s.air.turn with
    | some t => if t.winClose ≤ s.nowMs then closeWindow s t else s
    | none => s) s

/-- The accounting period's end has been reached. -/
def periodEndDue (s : State) : Bool := s.load.periodEnd ≤ s.nowMs

/-- An accounting period ends; nothing before its end (R165, R166). -/
def execPeriodEnd (s : State) : Host.Outcome State Fault Refusal :=
  event (fun s => if periodEndDue s then endPeriod s else s) s

end Sys2Proof.Machine
end

