-- ==== Sys2Proof/Machine/LinkEvents.lean ====
section
/-!
DEFINITION. The events of the console link (spec/11_the_console_link.md, spec/10_console_supervision.md): failed frames,
octet gaps, the end of a frame on CTX, and the lapse of the supervision window.
-/
namespace Sys2Proof.Machine

/-- A console frame that fails its checks is dropped, with LINK_FAULT (R177). -/
def execFailedFrame (_why : FrameFault) (s : State) : Host.Outcome State Fault Refusal := event setLinkFault s

/-- A frame being received whose last octet is more than 50 ms old is dropped (R177). -/
def dropOverdue (s : State) : State := if s.port.rx.overdue s.nowMs then { s with port := s.port.dropRx } else s

/-- More than 50 ms between two octets of a frame: the frame is dropped, with LINK_FAULT (R177; of a frame whose octets
the sender does not give one by one nothing stands in State: notes/assumptions/6.md). -/
def execOctetGap (s : State) : Host.Outcome State Fault Refusal := event (fun s => setLinkFault (dropOverdue s)) s

/-! ## The end of a frame on CTX (R178, R179, R183, R184) -/

/-- The entry is a SET_LINK carried out. -/
def Entry.isSetLink (e : Entry) : Bool := e.kind == 0x30 && e.code == .ok

/-- The entry is a RESTART served. -/
def Entry.isRestart (e : Entry) : Bool := e.kind == 0x32 && e.code == .ok

/-- The rate a SET_LINK brings into force when its reply's last octet has been sent; a frame being received is cut and
dropped, with LINK_FAULT (R183): one whose octets stand in the receiver, or one the sender says is being received. The
rate is kept for a further SET_LINK whose reply has not been sent. -/
def changeRate (receiving : Bool) (p : Port) : Port :=
  { p.dropRx with
    rate := p.rateToCome.getD p.rate
    rateToCome := if p.buffer.any Entry.isSetLink then p.rateToCome else none
    sticky := if receiving || p.rx.receiving then { p.sticky with linkFault := true } else p.sticky }

/-- The port after the last octet of a reply: its request leaves the buffer, CTX is free (R178); a SET_LINK's rate
comes into force (R183); after RESTART's the warm reset is due (R184). -/
def Port.afterReply (receiving : Bool) (e : Entry) (p : Port) : Port :=
  let p1 : Port := { p with buffer := p.buffer.drop 1, ctx := none }
  let p2 := if e.isSetLink then changeRate receiving p1 else p1
  if e.isRestart then { p2 with restart := .replied } else p2

/-- The last octet of the reply on CTX sent; nothing where CTX sends no reply. -/
def replyGone (receiving : Bool) (s : State) : State :=
  match s.port.ctx with
  | some (.reply e) => kick { s with port := s.port.afterReply receiving e }
  | _ => s

/-- The last octet of a reply has been sent on CTX; `receiving` is whether a frame whose octets the sender does not give one
by one is being received on CRX at that moment (R178, R183, R184; notes/assumptions/6.md). -/
def execReplySent (receiving : Bool) (s : State) : Host.Outcome State Fault Refusal := event (replyGone receiving) s

/-- The last octet of the notice on CTX sent; nothing where CTX sends no notice. -/
def noticeGone (s : State) : State :=
  match s.port.ctx with
  | some (.notice _) => kick { s with port := { s.port with ctx := none } }
  | _ => s

/-- The last octet of a notice has been sent on CTX (R179). -/
def execNoticeSent (s : State) : Host.Outcome State Fault Refusal := event noticeGone s

/-! ## The lapse (R174, R175, R104) -/

/-- A GRANT stands for the permit whose step is energizing or CONFIRM-flagged (R104 step 2). -/
def grantLapses (s : State) (n : Nat) : Bool :=
  match answerIn s (holderOf s n) n with
  | some c =>
    c.kind == .grant &&
      match stepIn s n c.step with
      | some x => x.action.energizing || x.confirm
      | none => false
  | none => false

/-- The permits whose standing GRANTs a lapse supersedes, in ascending number (R104 step 2). -/
def lapsingGrants (s : State) : List Nat := (permitNums s).filter (grantLapses s)

/-- Every pending request answered with REFUSE(UNATTENDED), in list order (R104 step 1). -/
def answerAll (s : State) : State := eachOf (fun s n => refusePending s n .unattended) (s.asks.map Ask.permit) s

/-- ATTENDED to UNATTENDED by a lapse (R175). -/
def becomeUnattended (s : State) : State :=
  let s1 := answerAll { s with sup := { s.sup with console := .unattended } }
  let s2 := eachOf (fun s n => supersede s n .unattended) (lapsingGrants s1) s1
  post (assistAll s2)
    (.consoleLapsed (stampOpt s s.sup.lastValid) s.sup.window s.asks.length (lapsingGrants s1).length (alarmCount s))

/-- The lapse by the mode in force (R174). -/
def takeLapse (s : State) : State :=
  let s1 : State := { s with sup := { s.sup with lapse := none } }
  match s.sup.mode with
  | .off => s1
  | .report => setLapsed s1
  | .act => if s.sup.console = .attended then becomeUnattended (setLapsed s1) else setLapsed s1

/-- The lapse expiry has been reached (R174). -/
def lapseReached (s : State) : Bool :=
  match s.sup.lapse with
  | some t => decide (t ≤ s.now)
  | none => false

/-- The supervision window lapses; nothing before the lapse expiry (R174). -/
def execLapse (s : State) : Host.Outcome State Fault Refusal :=
  event (fun s => if lapseReached s then takeLapse s else s) s

end Sys2Proof.Machine
end

