-- ==== Sys2Proof/Machine/TimerEvents.lean ====
section
/-!
DEFINITION. The timers of orders, watch contexts, pending requests, grants and sites. Each has no effect before its
moment, or where what it was set for no longer stands (notes/assumptions/3.md).
-/
namespace Sys2Proof.Machine

/-- An offer timer expires (R25). -/
def execOfferTimeout (order : Nat) (s : State) : Host.Outcome State Fault Refusal :=
  event (fun s =>
    match orderOf s order with
    | some o => if o.offerReached s.now then offerExpires s order else s
    | none => s) s

/-- A watch context's warning time is reached (R46, R52). -/
def execWarning (truck seat : Nat) (s : State) : Host.Outcome State Fault Refusal :=
  event (fun s =>
    match watchOf s truck seat with
    | some w => if w.warnReached s.now then enterWarn s truck seat else s
    | none => s) s

/-- A watch context's deadline is reached (R54). -/
def execDeadline (truck seat : Nat) (s : State) : Host.Outcome State Fault Refusal :=
  event (fun s =>
    match watchOf s truck seat with
    | some w => if w.deadlineReached s.now then deadlineAlarm s truck seat else s
    | none => s) s

/-- A decision expiry taken: the entry answered REFUSE(TIMEOUT) and removed, with DECISION_TIMEOUT (R100). -/
def expireAsk (s : State) (a : Ask) : State :=
  post (refusePending s a.permit .timeout)
    (.decisionTimeout a.permit a.step a.holder (canGive s a.holder (.answer a.permit)))

/-- The decision expiry of a permit's pending entry is reached (R100). -/
def execDecisionTimeout (permit : Nat) (s : State) : Host.Outcome State Fault Refusal :=
  event (fun s =>
    match askOf s permit with
    | some a => if a.expiry ≤ s.now then expireAsk s a else s
    | none => s) s

/-- The discard time of a GRANT in a truck's queue is reached (R124). -/
def execDiscardTime (truck permit : Nat) (s : State) : Host.Outcome State Fault Refusal :=
  event (fun s =>
    match recOf s truck (.answer permit) with
    | some r => if r.discardReached s.now then loseRec s truck r .discarded r.attempts else s
    | none => s) s

/-- A site's beacon timeout expires (R156). -/
def execBeaconTimeout (site : Nat) (s : State) : Host.Outcome State Fault Refusal :=
  event (fun s =>
    match siteOf s site with
    | some x => if x.timedOut s.now then siteGoesDown s site else s
    | none => s) s

end Sys2Proof.Machine
end

