-- ==== Sys2Proof/Machine/Clock.lean ====
section
/-!
DEFINITION. What the part does while no command waits: it puts one of the timer commands whose moment has been reached
into the queue, or, where none is due, the mission clock advances by one millisecond (R182; notes/assumptions/1.md and
2.md).
-/
namespace Sys2Proof.Machine

/-- The offer timers that have been reached (R25). -/
def dueOffers (s : State) : List Instr :=
  (s.orders.filter fun o => o.offerReached s.now).map fun o => .offerTimeout o.num

/-- The warnings of one seat of a truck that have been reached (R52), and its deadline (R54). -/
def dueSeat (s : State) (t : Truck) (seat : Nat) : List Instr :=
  (if (t.watch seat).warnReached s.now then [.warning t.num seat] else [])
    ++ (if (t.watch seat).deadlineReached s.now then [.deadline t.num seat] else [])

/-- The warnings and deadlines that have been reached. -/
def dueWatches (s : State) : List Instr := s.trucks.flatMap fun t => dueSeat s t 1 ++ dueSeat s t 2

/-- The decision expiries that have been reached (R100). -/
def dueAsks (s : State) : List Instr := (s.asks.filter fun a => a.expiry ≤ s.now).map fun a => .decisionTimeout a.permit

/-- The discard times of one truck's queue that have been reached (R124). -/
def dueDiscards (s : State) (t : Truck) : List Instr :=
  (t.queue.filter fun r => r.discardReached s.now).filterMap fun r =>
    match r.subject with
    | .answer p => some (.discardTime t.num p)
    | _ => none

/-- The beacon timeouts that have been reached (R156). -/
def dueSites (s : State) : List Instr :=
  (s.sites.filter fun x => x.timedOut s.now).map fun x => .beaconTimeout x.num

/-- One command where a condition holds. -/
def dueIf (b : Bool) (c : Instr) : List Instr := if b then [c] else []

/-- Every timer command whose moment has been reached. -/
def dueEvents (s : State) : List Instr :=
  dueOffers s ++ dueWatches s ++ dueAsks s ++ s.trucks.flatMap (dueDiscards s) ++ dueSites s
    ++ dueIf (lapseReached s) .lapse ++ dueIf (startDue s) .cycleStart ++ dueIf (windowEndDue s) .openWindowEnd
    ++ dueIf (closingDue s) .windowClosing ++ dueIf (periodEndDue s) .periodEnd
    ++ dueIf (s.port.restart == .replied) .warmReset ++ dueIf (s.port.rx.overdue s.nowMs) .octetGap

/-- The mission clock one millisecond later; behind second 4294967294 it shows what is not stated (R182;
notes/assumptions/4.md). -/
def Clock.tick (k : Clock) : Clock :=
  if k.ms < 999 then { k with ms := k.ms + 1 }
  else if k.sec < 4294967294 then { k with sec := k.sec + 1, ms := 0 }
  else { k with sec := Config.secondsAfterLast % 4294967295, ms := 0 }

/-- One of the due commands put into the queue, chosen freely where several are due (spec/00_scope.md section 4.2); with
none due the clock ticks. A part held in reset does nothing (R184). -/
def idle (s : State) : State :=
  if s.held then s
  else
    match dueEvents s with
    | [] => { s with clock := s.clock.tick }
    | c :: l =>
      { s with
        pending := [(c :: l).getD (Config.dueChoice s.choices % (l.length + 1)) c], choices := s.choices + 1 }

end Sys2Proof.Machine
end

