-- ==== Sys2Proof/Machine/AirRequests.lean ====
section
/-!
DEFINITION. The requests of the Roll-Call Scheduler (spec/07_roll_call_and_the_air_channel.md): SET_AIR, QUERY_AIR.
-/
namespace Sys2Proof.Machine

/-- SET_AIR served: the rate waits for the next cycle start, the other three settings are read where they take effect
(R133). -/
def setAir (rate window slots budget : Nat) (s : State) : Served :=
  match airRateOf rate with
  | none => refuse s .badField
  | some r =>
    let w := clamp 200 2000 window
    let n := clamp 0 8 slots
    let b := clamp 5 12 budget
    ({ s with air := { s.air with rateWaiting := some r, replyWindow := w, slots := n, budget := b } },
     { code := okOr (w != window || n != slots || b != budget), body := .airSettings r w n b })

/-- SET_AIR (R133). -/
def execSetAir (tag rate window slots budget : Nat) (s : State) : Host.Outcome State Fault Refusal :=
  request 0x1F tag (setAir rate window slots budget) s

/-- The turn in flight as QUERY_AIR reports it (R148). -/
def turnReport (s : State) (t : Turn) : TurnReport :=
  { truck := t.truck, kind := t.kind, route := t.route, abandoned := t.abandoned
    opening := (t.winOpen : Int) - (s.nowMs : Int), closing := (t.winClose : Int) - (s.nowMs : Int) }

/-- QUERY_AIR's report (R148). In WINDOW the milliseconds left run to the window's end, from the moment the phase begins,
with the OPEN frame still on the air too (DESIGN CHOICE: notes/assumptions/47.md). -/
def airReport (s : State) : AirReport :=
  { rate := s.air.rate, replyWindow := s.air.replyWindow, slots := s.air.slots, budget := s.air.budget
    rateWaiting := s.air.rateWaiting, phase := s.air.phase, cycle := s.air.cycle
    startTime := stamp s (s.air.startTime / 1000), nextStart := stamp s (s.air.nextStart / 1000)
    list := s.air.list.map ListEntry.truck, turn := s.air.turn.map (turnReport s)
    window := if s.air.phase = .window then some (s.air.winSlots, s.air.winEnd - s.nowMs) else none
    overruns := s.air.overruns, missedTurns := s.air.missedTurns, rejected := s.air.rejected
    skipped := s.air.skipped }

/-- QUERY_AIR served. -/
def queryAir (s : State) : Served := (s, { code := .ok, body := .air (airReport s) })

/-- QUERY_AIR (R148). -/
def execQueryAir (tag : Nat) (s : State) : Host.Outcome State Fault Refusal := request 0x20 tag queryAir s

end Sys2Proof.Machine
end

