-- ==== Sys2Proof/Machine/CrewRequests.lean ====
section
/-!
DEFINITION. The requests of the Crew Register (spec/01_the_crew_register.md): ENROLL_TRUCK, REMOVE_TRUCK, QUERY_TRUCK.
-/
namespace Sys2Proof.Machine

/-- ENROLL_TRUCK served (R2). The number used travels in a CLAMPED reply. -/
def enrollTruck (truck : Nat) (s : State) : Served :=
  let n := clamp 1 999 truck
  if (truckOf s n).isSome then refuse s .duplicate
  else if 64 ≤ s.trucks.length then refuse s .tableFull
  else
    ({ s with trucks := insertBy Truck.num (Truck.fresh n) s.trucks },
     if n = truck then { code := .ok, body := .none } else { code := .clamped, body := .truckNumber n })

/-- ENROLL_TRUCK (R2). -/
def execEnrollTruck (tag truck : Nat) (s : State) : Host.Outcome State Fault Refusal :=
  request 0x01 tag (enrollTruck truck) s

/-- The Scheduler told that a truck number's record is gone: list entries formed before name no record any more, and a
turn in flight for it is abandoned (R16, R136). -/
def truckGone (s : State) (n : Nat) : State :=
  { s with air := { s.air with
      list := s.air.list.map fun e => if e.truck = n then { e with live := false } else e
      turn := s.air.turn.map fun t => if t.truck = n then { t with abandoned := true } else t } }

/-- The stages of a removal (R15, R16). -/
def removeRecord (s : State) (t : Truck) : State :=
  let s1 : State := { s with trucks := eraseBy Truck.num t.num s.trucks }
  eachOf (orderLosesTruck t.num) t.orderSlots (truckGone s1 t.num)

/-- REMOVE_TRUCK served (R14, R15). -/
def removeTruck (truck : Nat) (s : State) : Served :=
  match truckOf s truck with
  | none => refuse s .notFound
  | some t =>
    if t.permitSlots ≠ [] then refuse s .inUse
    else if t.hasContext .alarm then refuse s .inUse
    else (removeRecord s t, { code := .ok, body := .none })

/-- REMOVE_TRUCK (R14 to R16). -/
def execRemoveTruck (tag truck : Nat) (s : State) : Host.Outcome State Fault Refusal :=
  request 0x02 tag (removeTruck truck) s

def Watch.brief (w : Watch) : WatchState × TimerMode × AlarmMode := (w.state, w.set.timer, w.set.alarm)

/-- QUERY_TRUCK's report (R3). -/
def truckReport (s : State) (t : Truck) : TruckReport :=
  { num := t.num, reach := t.reach, miss := t.miss, zone := t.zone, lastHeard := stampOpt s t.lastHeard
    orderSlots := t.orderSlots, permitSlots := t.permitSlots, ctx1 := t.w1.brief, ctx2 := t.w2.brief
    queued := t.queue.length }

/-- QUERY_TRUCK served (R3). -/
def queryTruck (truck : Nat) (s : State) : Served :=
  match truckOf s truck with
  | none => refuse s .notFound
  | some t => (s, { code := .ok, body := .truck (truckReport s t) })

/-- QUERY_TRUCK (R3). -/
def execQueryTruck (tag truck : Nat) (s : State) : Host.Outcome State Fault Refusal :=
  request 0x03 tag (queryTruck truck) s

end Sys2Proof.Machine
end

