-- ==== Sys2Proof/Machine/LinkRequests.lean ====
section
/-!
DEFINITION. The requests of the Console Port and the Time Base (spec/11_the_console_link.md): STATUS, IDENTIFY,
SET_TIME, SET_LINK, KEEPALIVE, RESTART, and a frame whose kind names no request.
-/
namespace Sys2Proof.Machine

/-- STATUS's report (R181). -/
def statusReport (s : State) : StatusReport :=
  { console := s.sup.console, level := s.load.level, band := s.load.band, overruns := s.air.overruns
    trucks := s.trucks.length, orders := s.orders.length, permits := s.permits.length, points := s.points.length
    asks := s.asks.length, notices := s.port.notices.length, derived := derivedFlags s, sticky := s.port.sticky }

/-- STATUS served; the sticky flags are cleared behind the reply (R181). -/
def serveStatus (s : State) : Served := (clearSticky s, { code := .ok, body := .status (statusReport s) })

/-- STATUS (R181). -/
def execStatus (tag : Nat) (s : State) : Host.Outcome State Fault Refusal := request 0x2D tag serveStatus s

/-- The part text DX620 (R182). -/
def partText : Text := [0x44, 0x58, 0x36, 0x32, 0x30]

/-- The capacities of the part in the order R182 lists them. -/
def capacities : List Nat := [64, 2, 128, 4, 32, 2, 16, 256, 4, 16, 12, 8, 250, 64]

/-- IDENTIFY served (R182). -/
def serveIdentify (s : State) : Served :=
  (s, { code := .ok, body := .identity Config.vendorCode partText Config.siliconRevision capacities })

/-- IDENTIFY (R182). -/
def execIdentify (tag : Nat) (s : State) : Host.Outcome State Fault Refusal := request 0x2E tag serveIdentify s

/-- The offset that makes a stamp taken at second `sec` equal `v` (R182). -/
def offsetFor (v sec : Nat) : Nat := (v + (4294967295 - sec % 4294967295)) % 4294967295

/-- SET_TIME served (R182). -/
def setTime (value : Nat) (s : State) : Served :=
  let v := min value 4294967294
  ({ s with clock := { s.clock with offset := offsetFor v s.clock.sec } },
   { code := okOr (v != value), body := .time s.clock.sec })

/-- SET_TIME (R182). -/
def execSetTime (tag value : Nat) (s : State) : Host.Outcome State Fault Refusal := request 0x2F tag (setTime value) s

/-- SET_LINK served: the rate waits for the last octet of the reply (R183). -/
def setLink (rate : Nat) (s : State) : Served :=
  match linkRateOf rate with
  | none => refuse s .badField
  | some r => ({ s with port := { s.port with rateToCome := some r } }, { code := .ok, body := .link r })

/-- SET_LINK (R183). -/
def execSetLink (tag rate : Nat) (s : State) : Host.Outcome State Fault Refusal := request 0x30 tag (setLink rate) s

/-- KEEPALIVE served: the arming its acceptance makes is its whole effect (R172, R182). -/
def serveKeepalive (s : State) : Served := done s .ok

/-- KEEPALIVE (R182). -/
def execKeepalive (tag : Nat) (s : State) : Host.Outcome State Fault Refusal := request 0x31 tag serveKeepalive s

/-- RESTART served: from now on no request is served (R178, R184). -/
def serveRestart (s : State) : Served :=
  ({ s with port := { s.port with restart := .served } }, { code := .ok, body := .none })

/-- RESTART (R184). -/
def execRestart (tag : Nat) (s : State) : Host.Outcome State Fault Refusal := request 0x32 tag serveRestart s

/-- A sound frame whose kind names no request (R177, R179). -/
def execUnknownRequest (kind tag : Nat) (s : State) : Host.Outcome State Fault Refusal :=
  request kind tag (fun s => refuse s .unknownRequest) s

end Sys2Proof.Machine
end

