-- ==== Sys2Proof/Machine/LoadRequests.lean ====
section
/-!
DEFINITION. The requests of the Load Meter (spec/09_channel_load_and_bands.md): SET_LOAD_BANDS, SET_BAND_ENTRY,
QUERY_LOAD.
-/
namespace Sys2Proof.Machine

/-- The order the thresholds must keep (R167). -/
def Thresholds.ordered (x : Thresholds) : Bool := x.t1 + x.h ≤ x.t2 && x.t2 + x.h ≤ x.t3 && x.t3 + x.h ≤ 1000

/-- SET_LOAD_BANDS served: the set is staged until the next period end (R167). -/
def setLoadBands (t1 t2 t3 h : Nat) (s : State) : Served :=
  let x : Thresholds := { t1 := clamp 1 1000 t1, t2 := clamp 1 1000 t2, t3 := clamp 1 1000 t3, h := clamp 0 100 h }
  if x.ordered then
    ({ s with load := { s.load with thrStaged := some x } },
     { code := okOr (x.t1 != t1 || x.t2 != t2 || x.t3 != t3 || x.h != h)
       body := .bands x (stamp s (s.load.periodEnd / 1000)) })
  else refuse s .badOrder

/-- SET_LOAD_BANDS (R167). -/
def execSetLoadBands (tag t1 t2 t3 h : Nat) (s : State) : Host.Outcome State Fault Refusal :=
  request 0x27 tag (setLoadBands t1 t2 t3 h) s

/-- SET_BAND_ENTRY served: the pair is staged until the next cycle start (R168). -/
def setBandEntry (band interval allowance : Nat) (s : State) : Served :=
  if 3 < band then refuse s .badField
  else
    let e : BandEntry := { interval := clamp 10 600 interval, allowance := clamp 0 120 allowance }
    ({ s with load := { s.load with staged := s.load.staged.set band (some e) } },
     { code := okOr (e.interval != interval || e.allowance != allowance), body := .bandEntry e })

/-- SET_BAND_ENTRY (R168). -/
def execSetBandEntry (tag band interval allowance : Nat) (s : State) : Host.Outcome State Fault Refusal :=
  request 0x28 tag (setBandEntry band interval allowance) s

/-- QUERY_LOAD's report (R170). -/
def loadReport (s : State) : LoadReport :=
  let m := s.load.settle s.nowMs
  { level := m.level, band := m.band, sample := m.sample, busy := m.busy + m.carrierTime s.nowMs
    left := m.periodEnd - s.nowMs, carrierOn := m.carrier.isSome, thr := m.thr, thrStaged := m.thrStaged
    table := m.table, staged := m.staged }

/-- QUERY_LOAD served. -/
def queryLoad (s : State) : Served := (s, { code := .ok, body := .load (loadReport s) })

/-- QUERY_LOAD (R170). -/
def execQueryLoad (tag : Nat) (s : State) : Host.Outcome State Fault Refusal := request 0x29 tag queryLoad s

end Sys2Proof.Machine
end

