-- ==== Sys2Proof/Machine/OrderRequests.lean ====
section
/-!
DEFINITION. The requests of the Order Manager (spec/02_work_orders.md): POST_ORDER, ASSIGN_ORDER, CHANGE_ORDER,
CANCEL_ORDER, RETIRE_ORDER, QUERY_ORDER, SET_OFFER_TIMEOUT.
-/
namespace Sys2Proof.Machine

/-! ## The fields within their limits (R20) -/

/-- A profile given or not, brought within its limits; the outer none is BAD_FIELD (R20). -/
def profileGiven : Option ProfileIn → Option (Option Profile)
  | none => some none
  | some p => (profileOf p).map some

/-- POST_ORDER's order as R20 leaves it, none for BAD_FIELD (R19, R20). -/
def postedOrder (order prio : Nat) (loc desc : Text) (cands : List Nat) (profile : Option ProfileIn) : Option Order :=
  (profileGiven profile).map fun p =>
    { num := max order 1, prio := clamp 1 4 prio, loc := loc.take 48, desc := desc.take 120, state := .queued
      assigned := none, cands := candidatesOf cands, tried := [], profile := p, linked := none, offerTime := none
      offerExpiry := none }

/-- Whether R20 changed a field of POST_ORDER. -/
def postClamped (order prio : Nat) (loc desc : Text) (cands : List Nat) (profile : Option ProfileIn) : Bool :=
  order == 0 || clamp 1 4 prio != prio || textCut 48 loc || textCut 120 desc || candidatesOf cands != cands
    || profile.any profileClamped

/-! ## POST_ORDER (R19) -/

/-- POST_ORDER served. -/
def postOrder (order prio : Nat) (loc desc : Text) (cands : List Nat) (profile : Option ProfileIn) (s : State) :
    Served :=
  match postedOrder order prio loc desc cands profile with
  | none => refuse s .badField
  | some o =>
    if (orderOf s o.num).isSome then refuse s .duplicate
    else if 128 ≤ s.orders.length then refuse s .tableFull
    else
      (rollover (postOrderState { s with orders := insertBy Order.num o s.orders } o.num) o.num,
       { code := okOr (postClamped order prio loc desc cands profile), body := .none })

/-- POST_ORDER (R19). -/
def execPostOrder (tag order prio : Nat) (loc desc : Text) (cands : List Nat) (profile : Option ProfileIn)
    (s : State) : Host.Outcome State Fault Refusal :=
  request 0x04 tag (postOrder order prio loc desc cands profile) s

/-! ## ASSIGN_ORDER (R21) -/

/-- ASSIGN_ORDER served. -/
def assignOrder (order truck : Nat) (s : State) : Served :=
  match orderOf s order with
  | none => refuse s .notFound
  | some o =>
    if o.state ≠ .queued then refuse s .wrongState
    else
      match truckOf s truck with
      | none => refuse s .notFound
      | some t =>
        if t.canSlot order = false then refuse s .limit
        else if t.blocked then refuse s .crewAlarm
        else if t.canTake (.order order) = false then refuse s .queueFull
        else (makeOffer s order truck, { code := .ok, body := .none })

/-- ASSIGN_ORDER (R21). -/
def execAssignOrder (tag order truck : Nat) (s : State) : Host.Outcome State Fault Refusal :=
  request 0x05 tag (assignOrder order truck) s

/-! ## CHANGE_ORDER (R33) -/

/-- The fields CHANGE_ORDER gives, within their limits. -/
structure OrderChange where
  prio : Option Nat
  loc : Option Text
  desc : Option Text
  cands : Option (List Nat)
  profile : Option Profile
  remove : Bool
  deriving DecidableEq, Repr

/-- CHANGE_ORDER's fields as R20 leaves them, none for BAD_FIELD; a profile given with its removal is BAD_FIELD
(spec/11 section 11.5). -/
def changeOf (prio : Option Nat) (loc desc : Option Text) (cands : Option (List Nat)) (profile : Option ProfileIn)
    (remove : Bool) : Option OrderChange :=
  if profile.isSome && remove then none
  else
    (profileGiven profile).map fun p =>
      { prio := prio.map (clamp 1 4), loc := loc.map (List.take 48), desc := desc.map (List.take 120)
        cands := cands.map candidatesOf, profile := p, remove := remove }

/-- Whether R20 changed a field of CHANGE_ORDER. -/
def changeClamped (prio : Option Nat) (loc desc : Option Text) (cands : Option (List Nat))
    (profile : Option ProfileIn) : Bool :=
  prio.any (fun n => clamp 1 4 n != n) || loc.any (textCut 48) || desc.any (textCut 120)
    || cands.any (fun l => candidatesOf l != l) || profile.any profileClamped

/-- A new candidate list with its effect on the tried list (R33). -/
def Order.withCands (o : Order) : Option (List Nat) → Order
  | none => o
  | some l =>
    { o with
      cands := l
      tried :=
        match o.assigned with
        | some t => if l.contains t then [t] else []
        | none => [] }

/-- The order with the changed fields (R33). -/
def Order.change (o : Order) (c : OrderChange) : Order :=
  { o.withCands c.cands with
    prio := c.prio.getD o.prio, loc := c.loc.getD o.loc, desc := c.desc.getD o.desc
    profile := if c.remove then none else c.profile.or o.profile }

/-- A priority or a text is given; what is given counts as changed (notes/assumptions/21.md). -/
def OrderChange.record (c : OrderChange) : Bool := c.prio.isSome || c.loc.isSome || c.desc.isSome

/-- The ORDER record a change of priority or texts places in the assigned truck's queue: under its own disposition
where one stands, otherwise OFFER or HELD by the order's state (R33). -/
def placeChanged (s : State) (o : Order) : State :=
  match o.assigned with
  | none => s
  | some t =>
    match orderRecIn s t o.num with
    | some c => giveOrder s t o.num c.disp false
    | none => giveOrder s t o.num (if o.state = .offered then .offer else .held) false

/-- The effects of CHANGE_ORDER on an open order (R33). -/
def applyChange (s : State) (o : Order) (c : OrderChange) : State :=
  let s1 := modOrder s o.num fun o => o.change c
  let s2 := if c.record && o.state != .queued then placeChanged s1 o else s1
  if c.cands.isSome && o.state == .queued then rollover s2 o.num else s2

/-- CHANGE_ORDER served. The order number names the order and is not clamped: 0 names none (DESIGN CHOICE:
notes/assumptions/41.md). -/
def changeOrder (order : Nat) (prio : Option Nat) (loc desc : Option Text) (cands : Option (List Nat))
    (profile : Option ProfileIn) (remove : Bool) (s : State) : Served :=
  match changeOf prio loc desc cands profile remove with
  | none => refuse s .badField
  | some c =>
    match orderOf s order with
    | none => refuse s .notFound
    | some o =>
      if o.state.isOpen = false then refuse s .wrongState
      else (applyChange s o c, { code := okOr (changeClamped prio loc desc cands profile), body := .none })

/-- CHANGE_ORDER (R33). -/
def execChangeOrder (tag order : Nat) (prio : Option Nat) (loc desc : Option Text) (cands : Option (List Nat))
    (profile : Option ProfileIn) (remove : Bool) (s : State) : Host.Outcome State Fault Refusal :=
  request 0x06 tag (changeOrder order prio loc desc cands profile remove) s

/-! ## CANCEL_ORDER (R32) -/

/-- What the assigned truck of a cancelled order is told: an undelivered offer is removed with its slot; otherwise a
CANCELLED record is placed, or with the queue full the slot freed (R32). -/
def tellCancelled (s : State) (o : Order) (t : Nat) : State :=
  if o.state = .offered ∧ (orderRecIn s t o.num).isSome = true then
    freeOrderSlot (dropRec s t (.order o.num)) t o.num
  else if canGive s t (.order o.num) then giveOrder s t o.num .cancelled false
  else freeOrderSlot s t o.num

/-- The effects of CANCEL_ORDER; `o` is the order as it was (R31, R32). -/
def applyCancel (s : State) (o : Order) : State :=
  let s1 := postOrderState (modOrder s o.num fun o => { o with state := .cancelled, offerExpiry := none }) o.num
  match o.assigned with
  | none => s1
  | some t => stopForOrder (tellCancelled s1 o t) t o.num

/-- CANCEL_ORDER served. -/
def cancelOrder (order : Nat) (s : State) : Served :=
  match orderOf s order with
  | none => refuse s .notFound
  | some o =>
    if o.state.isOpen = false then refuse s .wrongState
    else if (openPermitOf s o).isSome then refuse s .permitOpen
    else (applyCancel s o, { code := .ok, body := .none })

/-- CANCEL_ORDER (R32). -/
def execCancelOrder (tag order : Nat) (s : State) : Host.Outcome State Fault Refusal :=
  request 0x07 tag (cancelOrder order) s

/-! ## RETIRE_ORDER (R35) -/

/-- An ORDER record of a retired order removed with its slot, where one stands (R35). -/
def forgetOrder (n : Nat) (s : State) (truck : Nat) : State :=
  if (recOf s truck (.order n)).isSome then freeOrderSlot (dropRec s truck (.order n)) truck n else s

/-- The effects of RETIRE_ORDER (R35). -/
def applyRetire (s : State) (o : Order) : State :=
  let s1 := eachOf (forgetOrder o.num) (truckNums s) s
  let s2 :=
    match o.linked with
    | some p => modPermit s1 p fun p => { p with linked := none }
    | none => s1
  { s2 with orders := eraseBy Order.num o.num s2.orders }

/-- RETIRE_ORDER served. -/
def retireOrder (order : Nat) (s : State) : Served :=
  match orderOf s order with
  | none => refuse s .notFound
  | some o =>
    if o.state.isOpen then refuse s .wrongState
    else (applyRetire s o, { code := .ok, body := .none })

/-- RETIRE_ORDER (R35). -/
def execRetireOrder (tag order : Nat) (s : State) : Host.Outcome State Fault Refusal :=
  request 0x08 tag (retireOrder order) s

/-! ## QUERY_ORDER and SET_OFFER_TIMEOUT (R36, R38) -/

/-- QUERY_ORDER's report (R36). -/
def orderReport (s : State) (o : Order) : OrderReport :=
  { num := o.num, prio := o.prio, loc := o.loc, desc := o.desc, state := o.state, assigned := o.assigned
    cands := o.cands, tried := o.tried, profile := o.profile, linked := o.linked, offerTime := stampOpt s o.offerTime
    remaining := if o.state = .offered then o.offerExpiry.map (· - s.now) else none }

/-- QUERY_ORDER served. -/
def queryOrder (order : Nat) (s : State) : Served :=
  match orderOf s order with
  | none => refuse s .notFound
  | some o => (s, { code := .ok, body := .order (orderReport s o) })

/-- QUERY_ORDER (R36). -/
def execQueryOrder (tag order : Nat) (s : State) : Host.Outcome State Fault Refusal :=
  request 0x09 tag (queryOrder order) s

/-- SET_OFFER_TIMEOUT served (R38). -/
def setOfferTimeout (secs : Nat) (s : State) : Served :=
  let v := clamp 30 600 secs
  ({ s with timeouts := { s.timeouts with offer := v } }, { code := okOr (v != secs), body := .none })

/-- SET_OFFER_TIMEOUT (R38). -/
def execSetOfferTimeout (tag secs : Nat) (s : State) : Host.Outcome State Fault Refusal :=
  request 0x0A tag (setOfferTimeout secs) s

end Sys2Proof.Machine
end

