-- ==== Sys2Proof/Machine/PermitRequests.lean ====
section
/-!
DEFINITION. The requests of the Permit Unit on whole permits (spec/04_switching_permits.md): LOAD_PERMIT, ISSUE_PERMIT,
HALT_PERMIT, RESUME_PERMIT, CANCEL_PERMIT, RETIRE_PERMIT, QUERY_PERMIT.
-/
namespace Sys2Proof.Machine

/-! ## LOAD_PERMIT (R67, R68) -/

/-- LOAD_PERMIT's permit as R67 leaves it, none for BAD_FIELD. The lists are judged as they are kept
(notes/assumptions/24.md). -/
def loadedPermit (permit holder : Nat) (linked : Option Nat) (iso rest : List StepIn) : Option Permit :=
  if iso.isEmpty then none
  else
    match stepsOf false (isoKept iso), stepsOf true (restKept iso rest) with
    | some i, some r =>
      some { num := max permit 1, holder := clamp 1 999 holder, linked := linked, state := .loaded
             causes := Causes.none, iso := i, rest := r, issueTime := none }
    | _, _ => none

/-- Whether R67 changed a field of LOAD_PERMIT. -/
def loadClamped (permit holder : Nat) (iso rest : List StepIn) : Bool :=
  permit == 0 || clamp 1 999 holder != holder || (isoKept iso).length != iso.length
    || (restKept iso rest).length != rest.length || (isoKept iso).any (stepClamped false)
    || (restKept iso rest).any (stepClamped true)

/-- The distinct points a permit names (R68). -/
def Permit.points (p : Permit) : List Nat := dropRepeats (p.steps.map fun x => x.2.point)

/-- A point as it enters the table (R88). -/
def Point.fresh (n : Nat) : Point := { num := n, position := .unknown, holds := [], busy := none, refCount := 0 }

/-- A point given a reference, created where the table has none (R68). -/
def addRef (s : State) (n : Nat) : State :=
  let s1 : State := if (pointOf s n).isSome then s else { s with points := insertBy Point.num (Point.fresh n) s.points }
  modPoint s1 n fun q => { q with refCount := q.refCount + 1 }

/-- The checks of R68 on a permit as R67 left it: the first failure. -/
def loadChecks (s : State) (p : Permit) : Option Result :=
  if (permitOf s p.num).isSome then some .duplicate
  else if 32 ≤ s.permits.length then some .tableFull
  else if (truckOf s p.holder).isNone then some .notFound
  else
    let room := if 256 < s.points.length + (p.points.filter fun n => (pointOf s n).isNone).length then
      some Result.tableFull else none
    match p.linked with
    | none => room
    | some n =>
      match orderOf s n with
      | none => some .notFound
      | some o => if o.state.isOpen = false then some .wrongState else if o.linked.isSome then some .inUse else room

/-- The ORDER record of an order in its assigned truck's queue brought up to date, where one stands (R68). -/
def refreshAssigned (s : State) (n : Nat) : State :=
  match (orderOf s n).bind Order.assigned with
  | some t => refreshOrderRec s t n
  | none => s

/-- The effects of LOAD_PERMIT (R68). -/
def applyLoad (s : State) (p : Permit) : State :=
  let s1 : State := { s with permits := insertBy Permit.num p s.permits }
  let s2 := eachOf addRef p.points s1
  let s3 :=
    match p.linked with
    | some n => refreshAssigned (modOrder s2 n fun o => { o with linked := some p.num }) n
    | none => s2
  postPermitState s3 p.num

/-- LOAD_PERMIT served. -/
def loadPermit (permit holder : Nat) (linked : Option Nat) (iso rest : List StepIn) (s : State) : Served :=
  match loadedPermit permit holder linked iso rest with
  | none => refuse s .badField
  | some p =>
    match loadChecks s p with
    | some c => refuse s c
    | none =>
      (applyLoad s p,
       { code := okOr (loadClamped permit holder iso rest), body := .loaded p.iso.length p.rest.length })

/-- LOAD_PERMIT (R67, R68). -/
def execLoadPermit (tag permit holder : Nat) (linked : Option Nat) (iso rest : List StepIn) (s : State) :
    Host.Outcome State Fault Refusal :=
  request 0x10 tag (loadPermit permit holder linked iso rest) s

/-! ## ISSUE_PERMIT (R70, R71) -/

/-- The permit's linked order is held by its holder truck in ACCEPTED, EN_ROUTE or ON_SITE; a permit without one passes
(R70 check 4). -/
def orderMatches (s : State) (p : Permit) : Bool :=
  match p.linked with
  | none => true
  | some n =>
    match orderOf s n with
    | some o => o.assigned == some p.holder && o.state.isTaken
    | none => false

/-- The checks 2 to 6 of R70. -/
def issueChecks (s : State) (p : Permit) : Option Result :=
  if p.state ≠ .loaded ∧ p.state ≠ .issued then some .wrongState
  else
    match truckOf s p.holder with
    | none => some .notFound
    | some t =>
      if orderMatches s p = false then some .orderMismatch
      else if p.state = .loaded ∧ 2 ≤ t.permitSlots.length then some .limit
      else if t.canTake (.permit p.num) = false then some .queueFull
      else none

/-- The effects of ISSUE_PERMIT: the issue of a LOADED permit, or the record of an ISSUED one sent again (R70, R71). -/
def applyIssue (s : State) (p : Permit) : State :=
  if p.state = .loaded then
    let s1 := takePermitSlot s p.holder p.num
    let s2 := modPermit s1 p.num fun p => { p with state := .issued, issueTime := some s.now }
    postPermitState (givePermit s2 p.num) p.num
  else givePermit s p.num

/-- ISSUE_PERMIT served. -/
def issuePermit (permit : Nat) (s : State) : Served :=
  match permitOf s permit with
  | none => refuse s .notFound
  | some p =>
    match issueChecks s p with
    | some c => refuse s c
    | none => (applyIssue s p, { code := .ok, body := .none })

/-- ISSUE_PERMIT (R70, R71). -/
def execIssuePermit (tag permit : Nat) (s : State) : Host.Outcome State Fault Refusal :=
  request 0x11 tag (issuePermit permit) s

/-! ## HALT_PERMIT (R81) -/

/-- HALT_PERMIT served. -/
def haltPermit (permit : Nat) (s : State) : Served :=
  match permitOf s permit with
  | none => refuse s .notFound
  | some p =>
    if p.state.isOpen = false then refuse s .wrongState
    else (addCause s permit .host, { code := .ok, body := .none })

/-- HALT_PERMIT (R81). -/
def execHaltPermit (tag permit : Nat) (s : State) : Host.Outcome State Fault Refusal :=
  request 0x12 tag (haltPermit permit) s

/-! ## RESUME_PERMIT (R84) -/

/-- Some point on which the permit keeps a hold stands in another position (R84 check 4). -/
def stillConflict (s : State) (permit : Nat) : Bool :=
  s.points.any fun q => q.holds.any fun h => h.permit == permit && h.position != q.position

/-- The set without the four latched causes. -/
def Causes.resumed (c : Causes) : Causes := { Causes.none with site := c.site }

/-- The set holds a latched cause. -/
def Causes.latched (c : Causes) : Bool := c.host || c.alarm || c.mismatch || c.conflict

/-- The latched causes removed in their order, each with its notice, and the record brought up to date once (R84). -/
def applyResume (s : State) (p : Permit) : State :=
  if p.causes.latched then
    afterDrop
      (dropCause (dropCause (dropCause (dropCause s p.num .host) p.num .alarm) p.num .mismatch) p.num .conflict) p.num
  else s

/-- RESUME_PERMIT served. -/
def resumePermit (permit : Nat) (s : State) : Served :=
  match permitOf s permit with
  | none => refuse s .notFound
  | some p =>
    if p.state.isOpen = false then refuse s .wrongState
    else if (truckOf s p.holder).any Truck.blocked then refuse s .stillAlarm
    else if stillConflict s permit then refuse s .stillConflict
    else (applyResume s p, { code := .ok, body := .causes p.causes.resumed })

/-- RESUME_PERMIT (R84). -/
def execResumePermit (tag permit : Nat) (s : State) : Host.Outcome State Fault Refusal :=
  request 0x13 tag (resumePermit permit) s

/-! ## CANCEL_PERMIT (R85) -/

/-- A step of the permit is EXECUTING. -/
def Permit.executing (p : Permit) : Bool := p.steps.any fun x => x.2.state == .executing

/-- An ASKED or ANSWERED step returned to PENDING with NOT_ACTIVE (R85 step 2). -/
def StepRec.revoked (x : StepRec) : StepRec :=
  if x.state = .asked ∨ x.state = .answered then { x with state := .pending, reason := some .notActive } else x

/-- The ANSWER of a cancelled permit: a standing one becomes REFUSE(NOT_ACTIVE), and a removed entry whose ANSWER does
not stand is refused where there is room (R85 steps 1 and 2). -/
def answerCancelled (s : State) (p : Permit) : State :=
  match answerIn s p.holder p.num with
  | some c => give s p.holder (.answer (refuseContent p.num c.step .notActive))
  | none =>
    match askOf s p.num with
    | some a => give s p.holder (.answer (refuseContent p.num a.step .notActive))
    | none => s

/-- The effects of CANCEL_PERMIT (R85). -/
def applyCancelPermit (s : State) (p : Permit) : State :=
  let s1 := removeAsk (answerCancelled s p) p.num
  let s2 := releaseHolds (releaseMarks s1 p.num) p.num
  let s3 := modPermit s2 p.num fun p =>
    { p with
      iso := p.iso.map StepRec.revoked, rest := p.rest.map StepRec.revoked, state := .cancelled
      causes := Causes.none }
  postPermitState (if p.issued then giveFinal s3 p.num else s3) p.num

/-- CANCEL_PERMIT served. -/
def cancelPermit (permit : Nat) (s : State) : Served :=
  match permitOf s permit with
  | none => refuse s .notFound
  | some p =>
    if p.state.isOpen = false then refuse s .wrongState
    else if p.executing then refuse s .wrongState
    else (applyCancelPermit s p, { code := .ok, body := .none })

/-- CANCEL_PERMIT (R85). -/
def execCancelPermit (tag permit : Nat) (s : State) : Host.Outcome State Fault Refusal :=
  request 0x14 tag (cancelPermit permit) s

/-! ## RETIRE_PERMIT (R86) -/

/-- A point loses a reference; at 0 it leaves the table (R86). -/
def dropRef (s : State) (n : Nat) : State :=
  match pointOf s n with
  | some q =>
    if q.refCount ≤ 1 then { s with points := eraseBy Point.num n s.points }
    else modPoint s n fun q => { q with refCount := q.refCount - 1 }
  | none => s

/-- The effects of RETIRE_PERMIT (R86). -/
def applyRetirePermit (s : State) (p : Permit) : State :=
  let s1 := dropRec (dropRec s p.holder (.permit p.num)) p.holder (.answer p.num)
  let s2 := eachOf dropRef p.points (freePermitSlot s1 p.holder p.num)
  let s3 :=
    match p.linked with
    | some n => modOrder s2 n fun o => { o with linked := none }
    | none => s2
  { s3 with permits := eraseBy Permit.num p.num s3.permits }

/-- RETIRE_PERMIT served. -/
def retirePermit (permit : Nat) (s : State) : Served :=
  match permitOf s permit with
  | none => refuse s .notFound
  | some p =>
    if p.state.isOpen then refuse s .wrongState else (applyRetirePermit s p, { code := .ok, body := .none })

/-- RETIRE_PERMIT (R86). -/
def execRetirePermit (tag permit : Nat) (s : State) : Host.Outcome State Fault Refusal :=
  request 0x15 tag (retirePermit permit) s

/-! ## QUERY_PERMIT (R87) -/

/-- QUERY_PERMIT's report (R87). -/
def permitReport (s : State) (p : Permit) : PermitReport :=
  { num := p.num, holder := p.holder, linked := p.linked, state := p.state, issueTime := stampOpt s p.issueTime
    causes := p.causes, iso := p.iso, rest := p.rest
    record := (recOf s p.holder (.permit p.num)).map Rec.inFlight, asked := (askOf s p.num).isSome }

/-- QUERY_PERMIT served. -/
def queryPermit (permit : Nat) (s : State) : Served :=
  match permitOf s permit with
  | none => refuse s .notFound
  | some p => (s, { code := .ok, body := .permit (permitReport s p) })

/-- QUERY_PERMIT (R87). -/
def execQueryPermit (tag permit : Nat) (s : State) : Host.Outcome State Fault Refusal :=
  request 0x16 tag (queryPermit permit) s

end Sys2Proof.Machine
end

