-- ==== Sys2Proof/Machine/QueueRequests.lean ====
section
/-!
DEFINITION. The requests of the Delivery Unit (spec/06_outbound_queues.md): SEND_TEXT, SET_ANSWER_DISCARD, QUERY_QUEUE.
-/
namespace Sys2Proof.Machine

/-- SEND_TEXT served (R129). -/
def sendText (truck : Nat) (text : Text) (s : State) : Served :=
  match truckOf s truck with
  | none => refuse s .notFound
  | some t =>
    if (recFor t.queue .text).isSome then refuse s .queueFull
    else if 12 ≤ t.queue.length then refuse s .queueFull
    else
      let c := Content.text (text.take 120)
      (give s truck c, { code := okOr (textCut 120 text), body := .text t.nextSeq c.units })

/-- SEND_TEXT (R129). -/
def execSendText (tag truck : Nat) (text : Text) (s : State) : Host.Outcome State Fault Refusal :=
  request 0x1C tag (sendText truck text) s

/-- SET_ANSWER_DISCARD served (R125). -/
def setAnswerDiscard (secs : Nat) (s : State) : Served :=
  let v := clamp 60 1800 secs
  ({ s with timeouts := { s.timeouts with discard := v } }, { code := okOr (v != secs), body := .none })

/-- SET_ANSWER_DISCARD (R125). -/
def execSetAnswerDiscard (tag secs : Nat) (s : State) : Host.Outcome State Fault Refusal :=
  request 0x1D tag (setAnswerDiscard secs) s

/-- One record of QUERY_QUEUE's report (R130). -/
def recReport (s : State) (r : Rec) : RecReport :=
  { subject := r.subject, urgent := r.urgent, units := r.content.units, seq := r.seq, attempts := r.attempts
    inFlight := r.inFlight, entry := stamp s r.entry, discard := stampOpt s r.discard, origin := r.origin
    summary := r.content.summary }

/-- QUERY_QUEUE's report (R130). -/
def queueReport (s : State) (t : Truck) : QueueReport :=
  { seqCtr := t.seqCtr, budget := s.air.budget, recs := t.queue.map (recReport s)
    leading := leading s.air.budget t.queue }

/-- QUERY_QUEUE served. -/
def queryQueue (truck : Nat) (s : State) : Served :=
  match truckOf s truck with
  | none => refuse s .notFound
  | some t => (s, { code := .ok, body := .queue (queueReport s t) })

/-- QUERY_QUEUE (R130). -/
def execQueryQueue (tag truck : Nat) (s : State) : Host.Outcome State Fault Refusal :=
  request 0x1E tag (queryQueue truck) s

end Sys2Proof.Machine
end

