-- ==== Sys2Proof/Machine/Resets.lean ====
section
/-!
DEFINITION. The two resets and the reset line (R184, and every chapter's reset values). The values right after a cold
reset are `State.reset` (Sys2Proof/Machine/State.lean).
-/
namespace Sys2Proof.Machine

/-- A used site's beacon timeout runs afresh from the reset (R149). -/
def Site.afterWarm (now : Nat) (x : Site) : Site := if x.used then { x with lastBeacon := some now } else x

/-- The Load Meter after a warm reset (R161): the period is dropped with the frames that have ended, a new one starts
now, and an open carrier interval counts from now. -/
def Load.afterWarm (m : Load) (t : Nat) : Load :=
  { m.settle t with periodStart := t, busy := 0, carrier := m.carrier.map fun _ => t, sample := none
                    covers := [] }

/-- The Console Supervisor after a warm reset (R171). -/
def Sup.afterWarm (x : Sup) (now : Nat) : Sup :=
  { x with console := .unattended, lapse := if x.mode = .off then none else some (now + x.window) }

/-- The Console Port after a warm reset; a frame being received is lost and sets no flag (R180, R181, R183, R184). -/
def Port.afterWarm (p : Port) : Port :=
  { p.dropRx with
    buffer := [], notices := [], ctx := none, rateToCome := none, restart := .running
    sticky := { restarted := true, linkFault := false, lapsed := p.sticky.lapsed, noticesLost := false } }

/-- The Scheduler after a warm reset, before its first cycle starts: the turn in flight abandoned, the settings and a
waiting rate kept, the counts 0 (R133, R134, R147). That the count of urgent turns is 0 too is the model's choice
(notes/assumptions/51.md). -/
def Air.afterWarm (a : Air) : Air :=
  { a with
    cycle := 0, list := [], turn := none, urgentRun := 0, startReached := false, overruns := 0, missedTurns := 0
    rejected := 0, skipped := 0 }

/-- The warm reset: every table empty, configuration kept, and the first cycle started at once (R134, R184). -/
def warm (s : State) : State :=
  startCycle true
    { s with
      port := s.port.afterWarm
      sup := s.sup.afterWarm s.now
      trucks := [], orders := [], permits := [], points := [], asks := []
      air := s.air.afterWarm
      sites := s.sites.map (Site.afterWarm s.now)
      load := s.load.afterWarm s.nowMs }

/-- The warm reset after RESTART, due once its reply's last octet has been sent; nothing before (R184). -/
def execWarmReset (s : State) : Host.Outcome State Fault Refusal :=
  event (fun s => if s.port.restart = .replied then warm s else s) s

/-- The state right after a cold reset, with the model's own queue of commands and count of choices kept. -/
def cold (s : State) : State := { State.reset with pending := s.pending, choices := s.choices }

/-- A cold reset: power-on, or the release of RESETN, at which the part takes its cold-reset values (R184). -/
def execColdReset (s : State) : Host.Outcome State Fault Refusal := .next (cold s)

/-- The reset line asserted: the part is held until the release; a frame being sent or received is lost (R184). -/
def holdReset (s : State) : State := { s with held := true, port := { s.port.dropRx with ctx := none } }

/-- The assertion of RESETN (R184). -/
def execResetLineAssertion (s : State) : Host.Outcome State Fault Refusal := .next (holdReset s)

end Sys2Proof.Machine
end

