-- ==== Sys2Proof/Machine/SiteRequests.lean ====
section
/-!
DEFINITION. The requests of the Relay Router (spec/08_sites_and_relay_routing.md): SET_SITE, CLEAR_SITE,
SET_SITE_POLICY, SET_ZONE_GRACE, QUERY_SITES, QUERY_ZONE.
-/
namespace Sys2Proof.Machine

/-! ## SET_SITE (R151, R152) -/

/-- SET_SITE's values within their limits. -/
structure SiteGiven where
  num : Nat
  parent : Nat
  lo : Nat
  hi : Nat
  hop : Nat
  timeout : Nat
  deriving DecidableEq, Repr

/-- A site with the values given; an UNUSED one takes now as its last-beacon time (R152 step 2). -/
def Site.configured (now : Nat) (g : SiteGiven) (x : Site) : Site :=
  { x with
    parent := g.parent, range := some (g.lo, g.hi), hop := g.hop, timeout := g.timeout
    lastBeacon := if x.used then x.lastBeacon else some now }

/-- The site goes DOWN where its last-beacon time plus its timeout has been reached (R152, R156). -/
def expireSite (s : State) (n : Nat) : State :=
  match siteOf s n with
  | some x => if x.timedOut s.now then siteGoesDown s n else s
  | none => s

/-- The effects of SET_SITE on a site as it was (R152). -/
def applySite (s : State) (x : Site) (g : SiteGiven) : State :=
  let s1 := modSite s g.num (Site.configured s.now g)
  let s2 := if x.used then s1 else setSiteState s1 g.num .up
  let s3 := forceRouteChanges s s2
  let s4 := if s3.policy = .affected then evalAllSites s3 else s3
  expireSite (askIfIdle s4) g.num

/-- SET_SITE served. -/
def setSite (site parent lo hi hop timeout : Nat) (s : State) : Served :=
  match siteOf s site with
  | none => refuse s .notFound
  | some x =>
    let g : SiteGiven :=
      { num := site, parent := parent, lo := clamp 1 250 lo, hi := clamp 1 250 hi, hop := clamp 100 1500 hop
        timeout := clamp 30 600 timeout }
    if g.hi < g.lo then refuse s .badField
    else
      match siteChecks s site parent (g.lo, g.hi) with
      | some c => refuse s c
      | none =>
        (applySite s x g,
         { code := okOr (g.lo != lo || g.hi != hi || g.hop != hop || g.timeout != timeout), body := .none })

/-- SET_SITE (R151, R152). -/
def execSetSite (tag site parent lo hi hop timeout : Nat) (s : State) : Host.Outcome State Fault Refusal :=
  request 0x21 tag (setSite site parent lo hi hop timeout) s

/-! ## CLEAR_SITE (R153) -/

/-- The effects of CLEAR_SITE. -/
def applyClear (s : State) (n : Nat) : State :=
  let s1 := modSite s n fun x => { x with range := none, lastBeacon := none }
  let s2 := setSiteState s1 n .unused
  askIfIdle (evalAllSites (forceRouteChanges s s2))

/-- CLEAR_SITE served. -/
def clearSite (site : Nat) (s : State) : Served :=
  match siteOf s site with
  | none => refuse s .notFound
  | some x =>
    if x.used = false then refuse s .wrongState
    else if hasChildren s site then refuse s .inUse
    else (applyClear s site, { code := .ok, body := .none })

/-- CLEAR_SITE (R153). -/
def execClearSite (tag site : Nat) (s : State) : Host.Outcome State Fault Refusal :=
  request 0x22 tag (clearSite site) s

/-! ## SET_SITE_POLICY (R158) -/

/-- SET_SITE_POLICY served. -/
def setSitePolicy (policy : Nat) (s : State) : Served :=
  match policyOf policy with
  | none => refuse s .badField
  | some p =>
    (if p = s.policy then s else evalAllSites { s with policy := p }, { code := .ok, body := .none })

/-- SET_SITE_POLICY (R158). -/
def execSetSitePolicy (tag policy : Nat) (s : State) : Host.Outcome State Fault Refusal :=
  request 0x23 tag (setSitePolicy policy) s

/-! ## SET_ZONE_GRACE (R159) -/

/-- The zone table with the grace of the zones `first` to `last` set. -/
def setGraces (graces : List Nat) (first last grace : Nat) : List Nat :=
  (List.range 250).map fun i => if first ≤ i + 1 ∧ i + 1 ≤ last then grace else graces.getD i 0

/-- SET_ZONE_GRACE served. -/
def setZoneGrace (first last grace : Nat) (s : State) : Served :=
  let a := clamp 1 250 first
  let b := clamp 1 250 last
  let g := clamp 0 300 grace
  if b < a then refuse s .badField
  else
    ({ s with graces := setGraces s.graces a b g },
     { code := okOr (a != first || b != last || g != grace), body := .graces a b g })

/-- SET_ZONE_GRACE (R159). -/
def execSetZoneGrace (tag first last grace : Nat) (s : State) : Host.Outcome State Fault Refusal :=
  request 0x24 tag (setZoneGrace first last grace) s

/-! ## QUERY_SITES and QUERY_ZONE (R160) -/

/-- The home site as QUERY_SITES reports it (R149). -/
def homeReport : SiteReport :=
  { state := .up, parent := none, range := some (1, 250), hop := none, timeout := none, lastBeacon := none
    remaining := none, trucks := 0 }

/-- One of sites 1 to 7 as QUERY_SITES reports it (R160). -/
def siteReport (s : State) (x : Site) : SiteReport :=
  { state := x.state, parent := some x.parent, range := x.range, hop := some x.hop, timeout := some x.timeout
    lastBeacon := stampOpt s x.lastBeacon
    remaining := if x.state = .up then x.lastBeacon.map fun t => t + x.timeout - s.now else none
    trucks := (trucksWhere s fun t => (routeOf s t).contains x.num).length }

/-- QUERY_SITES served. -/
def querySites (s : State) : Served :=
  (s, { code := .ok, body := .sites s.policy (homeReport :: s.sites.map (siteReport s)) })

/-- QUERY_SITES (R160). -/
def execQuerySites (tag : Nat) (s : State) : Host.Outcome State Fault Refusal := request 0x25 tag querySites s

/-- QUERY_ZONE's report (R160). -/
def zoneReport (s : State) (z : Nat) : ZoneReport :=
  { grace := graceOf s z, serving := servingSite s z, route := routeOfZone s z
    passesDown := passesDown s (routeOfZone s z), trucks := trucksWhere s fun t => t.zone == some z }

/-- QUERY_ZONE served. -/
def queryZone (zone : Nat) (s : State) : Served :=
  if 1 ≤ zone ∧ zone ≤ 250 then (s, { code := .ok, body := .zone (zoneReport s zone) }) else refuse s .notFound

/-- QUERY_ZONE (R160). -/
def execQueryZone (tag zone : Nat) (s : State) : Host.Outcome State Fault Refusal :=
  request 0x26 tag (queryZone zone) s

end Sys2Proof.Machine
end

