-- ==== Sys2Proof/Machine/StepRequests.lean ====
section
/-!
DEFINITION. The requests of the Permit Unit on steps and points (spec/05_step_requests_points_and_holds.md):
DECIDE_STEP, QUERY_PENDING, SET_DECISION_TIMEOUT, SET_POINT, QUERY_POINT.
-/
namespace Sys2Proof.Machine

/-! ## DECIDE_STEP (R99) -/

/-- A standing entry refused by the dispatcher or by a check: the refusal is placed, the entry removed, the step
PENDING with the reason (R99). -/
def denyStep (s : State) (permit : Nat) (r : Reason) : Served :=
  (refusePending s permit r, { code := .ok, body := .decided .refuse (some r) })

/-- An approval of the entry of permit `p` for step `i`, as `x`: the checks once more, then the GRANT (R99, R95). -/
def approveStep (s : State) (p : Permit) (i : StepId) (x : StepRec) : Served :=
  match approvalChecks s p i x with
  | some r => denyStep s p.num r
  | none => (removeAsk (placeGrant s p i x) p.num, { code := .ok, body := .decided .grant none })

/-- DECIDE_STEP served. A list code that is neither isolate nor restore names no step, so that it meets NOT_FOUND or
TOO_LATE and not BAD_FIELD. DESIGN CHOICE: notes/assumptions/49.md. -/
def decideStep (permit : Nat) (step : StepId) (decision : Nat) (s : State) : Served :=
  match approvesOf decision with
  | none => refuse s .badField
  | some approve =>
    match permitOf s permit with
    | none => refuse s .notFound
    | some p =>
      match askOf s permit, p.step step with
      | some a, some x =>
        if a.step ≠ step then refuse s .tooLate
        else if canGive s p.holder (.answer permit) = false then refuse s .queueFull
        else if approve then approveStep s p step x
        else denyStep s permit .denied
      | _, _ => refuse s .tooLate

/-- DECIDE_STEP (R99). -/
def execDecideStep (tag permit : Nat) (step : StepId) (decision : Nat) (s : State) :
    Host.Outcome State Fault Refusal :=
  request 0x17 tag (decideStep permit step decision) s

/-! ## QUERY_PENDING and SET_DECISION_TIMEOUT (R98, R100) -/

/-- One entry of QUERY_PENDING's report (R98). -/
def askReport (s : State) (a : Ask) : AskReport :=
  { permit := a.permit, step := a.step, holder := a.holder, askTime := stamp s a.askTime, expiry := stamp s a.expiry
    point := (stepIn s a.permit a.step).map StepRec.point, action := (stepIn s a.permit a.step).map StepRec.action
    remaining := a.expiry - s.now }

/-- QUERY_PENDING served. -/
def queryPending (s : State) : Served := (s, { code := .ok, body := .asks (s.asks.map (askReport s)) })

/-- QUERY_PENDING (R98). -/
def execQueryPending (tag : Nat) (s : State) : Host.Outcome State Fault Refusal := request 0x18 tag queryPending s

/-- SET_DECISION_TIMEOUT served (R100). -/
def setDecisionTimeout (secs : Nat) (s : State) : Served :=
  let v := clamp 30 600 secs
  ({ s with timeouts := { s.timeouts with decision := v } }, { code := okOr (v != secs), body := .none })

/-- SET_DECISION_TIMEOUT (R100). -/
def execSetDecisionTimeout (tag secs : Nat) (s : State) : Host.Outcome State Fault Refusal :=
  request 0x19 tag (setDecisionTimeout secs) s

/-! ## SET_POINT and QUERY_POINT (R110, R111) -/

/-- SET_POINT served (R109, R110). -/
def setPoint (point position : Nat) (s : State) : Served :=
  match positionOf position with
  | none => refuse s .badField
  | some pos =>
    match pointOf s point with
    | none => refuse s .notFound
    | some _ =>
      (weigh (modPoint s point fun q => { q with position := pos }) point .telemetry, { code := .ok, body := .none })

/-- SET_POINT (R110). -/
def execSetPoint (tag point position : Nat) (s : State) : Host.Outcome State Fault Refusal :=
  request 0x1A tag (setPoint point position) s

/-- The VERIFY steps that are ANSWERED or EXECUTING on a point, by permit and step (R90, R111), the permits in ascending
number, each with its isolate list ahead of its restore list (DESIGN CHOICE: notes/assumptions/42.md). -/
def verifySteps (s : State) (point : Nat) : List BusyMark :=
  s.permits.flatMap fun p =>
    (p.steps.filter fun x =>
      x.2.point == point && x.2.action == .verify && (x.2.state == .answered || x.2.state == .executing)).map
      fun x => { permit := p.num, step := x.1 }

/-- QUERY_POINT's report (R111). -/
def pointReport (s : State) (q : Point) : PointReport :=
  { num := q.num, position := q.position, refCount := q.refCount, holds := q.holds, busy := q.busy
    verifying := verifySteps s q.num }

/-- QUERY_POINT served. -/
def queryPoint (point : Nat) (s : State) : Served :=
  match pointOf s point with
  | none => refuse s .notFound
  | some q => (s, { code := .ok, body := .point (pointReport s q) })

/-- QUERY_POINT (R111). -/
def execQueryPoint (tag point : Nat) (s : State) : Host.Outcome State Fault Refusal :=
  request 0x1B tag (queryPoint point) s

end Sys2Proof.Machine
end

