-- ==== Sys2Proof/Machine/SupervisionRequests.lean ====
section
/-!
DEFINITION. The requests of the Console Supervisor (spec/10_console_supervision.md): SET_SUPERVISION,
QUERY_SUPERVISION, RESUME.
-/
namespace Sys2Proof.Machine

/-- SET_SUPERVISION served (R173). -/
def setSupervision (mode window : Nat) (s : State) : Served :=
  match supModeOf mode with
  | none => refuse s .badField
  | some m =>
    let w := clamp 5 120 window
    ({ s with sup := { s.sup with
        mode := m, window := w, lapse := if m = .off then none else some (s.now + w) } },
     { code := okOr (w != window), body := .supSet m w s.sup.console })

/-- SET_SUPERVISION (R173). -/
def execSetSupervision (tag mode window : Nat) (s : State) : Host.Outcome State Fault Refusal :=
  request 0x2A tag (setSupervision mode window) s

/-- QUERY_SUPERVISION served (R173). -/
def querySupervision (s : State) : Served :=
  (s, { code := .ok
        body := .sup s.sup.mode s.sup.window s.sup.console (stampOpt s s.sup.lastValid)
          (s.sup.lapse.map (· - s.now)) })

/-- QUERY_SUPERVISION (R173). -/
def execQuerySupervision (tag : Nat) (s : State) : Host.Outcome State Fault Refusal :=
  request 0x2B tag querySupervision s

/-- The console ATTENDED again, with every ASSIST record removed; nothing where it is ATTENDED (R176). -/
def attend (s : State) : State :=
  if s.sup.console = .unattended then removeAssists { s with sup := { s.sup with console := .attended } } else s

/-- RESUME served (R176). -/
def resumeConsole (s : State) : Served := (attend s, { code := .ok, body := .resumed s.sup.console })

/-- RESUME (R176). -/
def execResume (tag : Nat) (s : State) : Host.Outcome State Fault Refusal := request 0x2C tag resumeConsole s

end Sys2Proof.Machine
end

