-- ==== Sys2Proof/Machine/WatchRequests.lean ====
section
/-!
DEFINITION. The requests of the Watch Unit (spec/03_lone_worker_watch.md): SET_WATCH, START_WATCH, STOP_WATCH,
CLOSE_ALARM, QUERY_WATCH.
-/
namespace Sys2Proof.Machine

/-- A seat brought within 1 to 2 (R41, R43). -/
def seatOf (seat : Nat) : Nat := clamp 1 2 seat

/-- OK, or CLAMPED where the seat was clamped. -/
def seatCode (seat : Nat) : Result := okOr (seatOf seat != seat)

/-! ## SET_WATCH (R41) -/

/-- A settings set given to a context: in force at once in IDLE, staged in every other state (R41). -/
def Watch.give (w : Watch) (set : Settings) : Watch :=
  if w.state = .idle then { w with set := set } else { w with staged := some set }

/-- SET_WATCH served. -/
def setWatch (truck seat : Nat) (set : SettingsIn) (s : State) : Served :=
  match settingsOf set with
  | none => refuse s .badField
  | some st =>
    match watchOf s truck (seatOf seat) with
    | none => refuse s .notFound
    | some w =>
      (modWatch s truck (seatOf seat) fun w => w.give st,
       { code := okOr (seatOf seat != seat || settingsClamped set), body := .setWatch (w.state != .idle) })

/-- SET_WATCH (R41). -/
def execSetWatch (tag truck seat : Nat) (set : SettingsIn) (s : State) : Host.Outcome State Fault Refusal :=
  request 0x0B tag (setWatch truck seat set) s

/-! ## START_WATCH (R43) -/

/-- The deadline and the warning time of a context as stamps. -/
def startReport (s : State) (truck seat : Nat) : ReplyBody :=
  match watchOf s truck seat with
  | some w => .started (stampOpt s w.deadline) (w.warnTime.map (stampInt s))
  | none => .none

/-- START_WATCH served. -/
def startWatch (truck seat : Nat) (s : State) : Served :=
  match watchOf s truck (seatOf seat) with
  | none => refuse s .notFound
  | some w =>
    if w.state ≠ .idle then refuse s .wrongState
    else
      let s1 := startContext s truck (seatOf seat) none .start
      (s1, { code := seatCode seat, body := startReport s1 truck (seatOf seat) })

/-- START_WATCH (R43). -/
def execStartWatch (tag truck seat : Nat) (s : State) : Host.Outcome State Fault Refusal :=
  request 0x0C tag (startWatch truck seat) s

/-! ## STOP_WATCH (R44) -/

/-- STOP_WATCH served. -/
def stopWatch (truck seat : Nat) (s : State) : Served :=
  match watchOf s truck (seatOf seat) with
  | none => refuse s .notFound
  | some w =>
    if w.state = .watch ∨ w.state = .warn then
      (stopContext s truck (seatOf seat) .stop, { code := seatCode seat, body := .none })
    else refuse s .wrongState

/-- STOP_WATCH (R44). -/
def execStopWatch (tag truck seat : Nat) (s : State) : Host.Outcome State Fault Refusal :=
  request 0x0D tag (stopWatch truck seat) s

/-! ## CLOSE_ALARM (R58) -/

/-- A context closed: IDLE, its alarm, its times and its starter gone, staged settings applied (R58). -/
def Watch.closed (w : Watch) : Watch :=
  { w.applyStaged.noDeadline with
    state := .idle, alarm := none, startTime := none, stillSince := none, stillAcc := 0, startedBy := none }

/-- The effects of CLOSE_ALARM (R58). -/
def closeContext (s : State) (truck seat : Nat) : State :=
  let s1 := removePrompt (modWatch s truck seat Watch.closed) truck seat .alarmed
  assistFor (postWatchState s1 truck seat .close) truck

/-- CLOSE_ALARM served. -/
def closeAlarm (truck seat : Nat) (s : State) : Served :=
  match watchOf s truck (seatOf seat) with
  | none => refuse s .notFound
  | some w =>
    if w.state = .alarm then (closeContext s truck (seatOf seat), { code := seatCode seat, body := .none })
    else refuse s .wrongState

/-- CLOSE_ALARM (R58). -/
def execCloseAlarm (tag truck seat : Nat) (s : State) : Host.Outcome State Fault Refusal :=
  request 0x0E tag (closeAlarm truck seat) s

/-! ## QUERY_WATCH (R59) -/

/-- The accumulated time reported: for a context still in STILLNESS mode, with the time since it became still (R59). -/
def Watch.reportedStill (now : Nat) (w : Watch) : Nat :=
  match w.stillSince with
  | some t => if w.set.timer = .stillness then w.stillAcc + (now - t) else w.stillAcc
  | none => w.stillAcc

/-- QUERY_WATCH's report (R59). -/
def watchReport (s : State) (seat : Nat) (w : Watch) : WatchReport :=
  { seat := seat, state := w.state, set := w.set, staged := w.staged, lastContact := stampOpt s w.lastContact
    startTime := stampOpt s w.startTime, deadline := stampOpt s w.deadline, warnTime := w.warnTime.map (stampInt s)
    grace := w.grace, allowance := w.allowance, stillAcc := w.reportedStill s.now
    stillSince := stampOpt s w.stillSince, startedBy := w.startedBy, warnCount := w.warnCount, flags := w.flags
    alarm := w.alarm.map fun a => { a with raised := stamp s a.raised }
    elapsed := w.lastContact.map (s.now - ·), remaining := w.deadline.map (· - s.now) }

/-- QUERY_WATCH served; the event flags become empty behind the reply. -/
def queryWatch (truck seat : Nat) (s : State) : Served :=
  match watchOf s truck (seatOf seat) with
  | none => refuse s .notFound
  | some w =>
    (modWatch s truck (seatOf seat) fun w => { w with flags := EventFlags.none },
     { code := seatCode seat, body := .watch (watchReport s (seatOf seat) w) })

/-- QUERY_WATCH (R59). -/
def execQueryWatch (tag truck seat : Nat) (s : State) : Host.Outcome State Fault Refusal :=
  request 0x0F tag (queryWatch truck seat) s

end Sys2Proof.Machine
end

