-- ==== Sys2Proof/Machine/Dispatch.lean ====
section
/-!
DEFINITION. Which meaning a command has: one arm for each command of spec/opcode_table.json, in the table's order.
-/
namespace Sys2Proof.Machine

def exec (i : Instr) (s : State) : Host.Outcome State Fault Refusal :=
  match i with
  | .enrollTruck tag truck => Sys2Proof.Machine.execEnrollTruck tag truck s
  | .removeTruck tag truck => Sys2Proof.Machine.execRemoveTruck tag truck s
  | .queryTruck tag truck => Sys2Proof.Machine.execQueryTruck tag truck s
  | .postOrder tag order prio loc desc cands profile => Sys2Proof.Machine.execPostOrder tag order prio loc desc cands profile s
  | .assignOrder tag order truck => Sys2Proof.Machine.execAssignOrder tag order truck s
  | .changeOrder tag order prio loc desc cands profile remove => Sys2Proof.Machine.execChangeOrder tag order prio loc desc cands profile remove s
  | .cancelOrder tag order => Sys2Proof.Machine.execCancelOrder tag order s
  | .retireOrder tag order => Sys2Proof.Machine.execRetireOrder tag order s
  | .queryOrder tag order => Sys2Proof.Machine.execQueryOrder tag order s
  | .setOfferTimeout tag secs => Sys2Proof.Machine.execSetOfferTimeout tag secs s
  | .setWatch tag truck seat set => Sys2Proof.Machine.execSetWatch tag truck seat set s
  | .startWatch tag truck seat => Sys2Proof.Machine.execStartWatch tag truck seat s
  | .stopWatch tag truck seat => Sys2Proof.Machine.execStopWatch tag truck seat s
  | .closeAlarm tag truck seat => Sys2Proof.Machine.execCloseAlarm tag truck seat s
  | .queryWatch tag truck seat => Sys2Proof.Machine.execQueryWatch tag truck seat s
  | .loadPermit tag permit holder linked iso rest => Sys2Proof.Machine.execLoadPermit tag permit holder linked iso rest s
  | .issuePermit tag permit => Sys2Proof.Machine.execIssuePermit tag permit s
  | .haltPermit tag permit => Sys2Proof.Machine.execHaltPermit tag permit s
  | .resumePermit tag permit => Sys2Proof.Machine.execResumePermit tag permit s
  | .cancelPermit tag permit => Sys2Proof.Machine.execCancelPermit tag permit s
  | .retirePermit tag permit => Sys2Proof.Machine.execRetirePermit tag permit s
  | .queryPermit tag permit => Sys2Proof.Machine.execQueryPermit tag permit s
  | .decideStep tag permit step decision => Sys2Proof.Machine.execDecideStep tag permit step decision s
  | .queryPending tag => Sys2Proof.Machine.execQueryPending tag s
  | .setDecisionTimeout tag secs => Sys2Proof.Machine.execSetDecisionTimeout tag secs s
  | .setPoint tag point position => Sys2Proof.Machine.execSetPoint tag point position s
  | .queryPoint tag point => Sys2Proof.Machine.execQueryPoint tag point s
  | .sendText tag truck text => Sys2Proof.Machine.execSendText tag truck text s
  | .setAnswerDiscard tag secs => Sys2Proof.Machine.execSetAnswerDiscard tag secs s
  | .queryQueue tag truck => Sys2Proof.Machine.execQueryQueue tag truck s
  | .setAir tag rate window slots budget => Sys2Proof.Machine.execSetAir tag rate window slots budget s
  | .queryAir tag => Sys2Proof.Machine.execQueryAir tag s
  | .setSite tag site parent lo hi hop timeout => Sys2Proof.Machine.execSetSite tag site parent lo hi hop timeout s
  | .clearSite tag site => Sys2Proof.Machine.execClearSite tag site s
  | .setSitePolicy tag policy => Sys2Proof.Machine.execSetSitePolicy tag policy s
  | .setZoneGrace tag first last grace => Sys2Proof.Machine.execSetZoneGrace tag first last grace s
  | .querySites tag => Sys2Proof.Machine.execQuerySites tag s
  | .queryZone tag zone => Sys2Proof.Machine.execQueryZone tag zone s
  | .setLoadBands tag t1 t2 t3 h => Sys2Proof.Machine.execSetLoadBands tag t1 t2 t3 h s
  | .setBandEntry tag band interval allowance => Sys2Proof.Machine.execSetBandEntry tag band interval allowance s
  | .queryLoad tag => Sys2Proof.Machine.execQueryLoad tag s
  | .setSupervision tag mode window => Sys2Proof.Machine.execSetSupervision tag mode window s
  | .querySupervision tag => Sys2Proof.Machine.execQuerySupervision tag s
  | .resume tag => Sys2Proof.Machine.execResume tag s
  | .status tag => Sys2Proof.Machine.execStatus tag s
  | .identify tag => Sys2Proof.Machine.execIdentify tag s
  | .setTime tag value => Sys2Proof.Machine.execSetTime tag value s
  | .setLink tag rate => Sys2Proof.Machine.execSetLink tag rate s
  | .keepalive tag => Sys2Proof.Machine.execKeepalive tag s
  | .restart tag => Sys2Proof.Machine.execRestart tag s
  | .unknownRequest kind tag => Sys2Proof.Machine.execUnknownRequest kind tag s
  | .failedFrame why => Sys2Proof.Machine.execFailedFrame why s
  | .octetGap => Sys2Proof.Machine.execOctetGap s
  | .replySent receiving => Sys2Proof.Machine.execReplySent receiving s
  | .noticeSent => Sys2Proof.Machine.execNoticeSent s
  | .warmReset => Sys2Proof.Machine.execWarmReset s
  | .coldReset => Sys2Proof.Machine.execColdReset s
  | .carrierOn => Sys2Proof.Machine.execCarrierOn s
  | .carrierOff => Sys2Proof.Machine.execCarrierOff s
  | .reply hdr acks items => Sys2Proof.Machine.execReply hdr acks items s
  | .burst hdr item => Sys2Proof.Machine.execBurst hdr item s
  | .beacon relay site => Sys2Proof.Machine.execBeacon relay site s
  | .rejectedFrame => Sys2Proof.Machine.execRejectedFrame s
  | .offerTimeout order => Sys2Proof.Machine.execOfferTimeout order s
  | .warning truck seat => Sys2Proof.Machine.execWarning truck seat s
  | .deadline truck seat => Sys2Proof.Machine.execDeadline truck seat s
  | .decisionTimeout permit => Sys2Proof.Machine.execDecisionTimeout permit s
  | .discardTime truck permit => Sys2Proof.Machine.execDiscardTime truck permit s
  | .lapse => Sys2Proof.Machine.execLapse s
  | .beaconTimeout site => Sys2Proof.Machine.execBeaconTimeout site s
  | .cycleStart => Sys2Proof.Machine.execCycleStart s
  | .openWindowEnd => Sys2Proof.Machine.execOpenWindowEnd s
  | .windowClosing => Sys2Proof.Machine.execWindowClosing s
  | .periodEnd => Sys2Proof.Machine.execPeriodEnd s
  | .resetLineAssertion => Sys2Proof.Machine.execResetLineAssertion s

end Sys2Proof.Machine
end

