-- ==== Sys2Proof/Machine/Wire.lean ====
section
/-!
DEFINITION. The octets of the console link and of the air frames (spec/11_the_console_link.md section 11.5): the check,
the field types, and reading fields from octets. Sys2Proof/Machine/WireIn.lean reads commands from octets, and
Sys2Proof/Machine/WireOut.lean writes replies, notices and downlink frames; the meanings take typed commands
(notes/assumptions/7.md).
-/
namespace Sys2Proof.Machine

/-! ## The check -/

/-- One bit of the division by x^16 + x^12 + x^5 + 1. -/
def crcBit (r : BitVec 16) : BitVec 16 := if r.msb then (r <<< 1) ^^^ 0x1021 else r <<< 1

/-- One octet taken into the check. -/
def crcOctet (r : BitVec 16) (b : Octet) : BitVec 16 :=
  let r0 := r ^^^ (b.setWidth 16 <<< 8)
  crcBit (crcBit (crcBit (crcBit (crcBit (crcBit (crcBit (crcBit r0)))))))

/-- CRC-16 with initial value 0xFFFF, no reflection and no final XOR. -/
def crc (l : List Octet) : BitVec 16 := l.foldl crcOctet 0xFFFF

/-! ## Writing fields -/

/-- A count: one octet. -/
def put8 (n : Nat) : List Octet := [BitVec.ofNat 8 n]

/-- A number: two octets, most significant first. -/
def put16 (n : Nat) : List Octet := [BitVec.ofNat 8 (n / 256), BitVec.ofNat 8 n]

/-- A time: four octets, most significant first. -/
def put32 (n : Nat) : List Octet := put16 (n / 65536) ++ put16 n

/-- A count that may be none: 0xFF. -/
def putOpt8 (n : Option Nat) : List Octet := put8 (n.getD 0xFF)

/-- An identifier that may be none: 0. -/
def putId (n : Option Nat) : List Octet := put16 (n.getD 0)

/-- A number that may be none: 0xFFFF. -/
def putOpt16 (n : Option Nat) : List Octet := put16 (n.getD 0xFFFF)

/-- A time that may be none: 0xFFFFFFFF. -/
def putTime (n : Option Nat) : List Octet := put32 (n.getD 0xFFFFFFFF)

/-- A yes-or-no field. -/
def putBool (b : Bool) : List Octet := put8 b.toNat

/-- A text behind its length. -/
def putText (t : Text) : List Octet := put8 t.length ++ t

/-- A list behind its count. -/
def putList {α : Type} (f : α → List Octet) (l : List α) : List Octet := put8 l.length ++ l.flatMap f

/-- A group of fields that may be none: a yes-or-no octet, then the fields where it is given
(notes/assumptions/25.md). -/
def putGroup {α : Type} (f : α → List Octet) : Option α → List Octet
  | some a => putBool true ++ f a
  | none => putBool false

/-- A set: bit i for the i-th value. -/
def putSet (l : List Bool) : List Octet := put8 (l.foldr (fun b n => b.toNat + 2 * n) 0)

/-- A millisecond offset: four octets in two's complement. -/
def putOffset (x : Int) : List Octet := put32 (x % 4294967296).toNat

/-! ## Reading fields -/

/-- A reader takes fields from the front of a body, none where the octets run out. -/
abbrev Reader (α : Type) := List Octet → Option (α × List Octet)

def get8 : Reader Nat
  | a :: l => some (a.toNat, l)
  | [] => none

def get16 : Reader Nat
  | a :: b :: l => some (a.toNat * 256 + b.toNat, l)
  | _ => none

def get32 : Reader Nat
  | a :: b :: c :: d :: l => some (((a.toNat * 256 + b.toNat) * 256 + c.toNat) * 256 + d.toNat, l)
  | _ => none

/-- So many octets. -/
def getOctets (n : Nat) : Reader (List Octet) := fun l =>
  if l.length < n then none else some (l.take n, l.drop n)

/-- A reader whose value chooses the next one. -/
def Reader.andThen {α β : Type} (p : Reader α) (f : α → Reader β) : Reader β := fun l =>
  match p l with
  | some (a, rest) => f a rest
  | none => none

/-- A reader's value changed. -/
def Reader.as {α β : Type} (p : Reader α) (f : α → β) : Reader β := fun l =>
  match p l with
  | some (a, rest) => some (f a, rest)
  | none => none

/-- A value without octets. -/
def found {α : Type} (a : α) : Reader α := fun l => some (a, l)

/-- `n` items one behind the other. -/
def getMany {α : Type} (p : Reader α) : Nat → Reader (List α)
  | 0 => found []
  | n + 1 => p.andThen fun a => (getMany p n).as (a :: ·)

/-- A text behind its length. -/
def getText : Reader Text := get8.andThen getOctets

/-- A list behind its count. -/
def getList {α : Type} (p : Reader α) : Reader (List α) := get8.andThen (getMany p)

/-- A field given or not, by its presence bit. -/
def getIf {α : Type} (given : Bool) (p : Reader α) : Reader (Option α) :=
  if given then p.as some else found none

/-- The whole body read, none where octets are missing or left over. -/
def readAll {α : Type} (p : Reader α) (l : List Octet) : Option α :=
  match p l with
  | some (a, []) => some a
  | _ => none

end Sys2Proof.Machine
end

