-- ==== Sys2Proof/Machine/WireIn.lean ====
section
/-!
DEFINITION. Commands read from octets: console frames on CRX (R177) and air frames from the transceiver (R131, R154),
by the layouts of spec/11_the_console_link.md section 11.5.
-/
namespace Sys2Proof.Machine

/-! ## Request bodies -/

def getSettings : Reader SettingsIn :=
  get8.andThen fun timer => get8.andThen fun alarm => get16.andThen fun interval => get16.andThen fun lead =>
  get16.andThen fun task => get16.as fun still =>
    { timer := timer, alarm := alarm, interval := interval, lead := lead, task := task, still := still }

def getProfile : Reader ProfileIn := get8.andThen fun seat => getSettings.as fun set => { seat := seat, set := set }

def getStepId : Reader StepId := get8.andThen fun list => get8.as fun num => { list := list, num := num }

/-- A step of LOAD_PERMIT: point, action, required position (0xFF none), and the flags HOLD and CONFIRM; the other bits of
the flags are ignored (DESIGN CHOICE: notes/assumptions/45.md). -/
def getStep : Reader StepIn :=
  get16.andThen fun point => get8.andThen fun action => get8.andThen fun required => get8.as fun flags =>
    { point := point, action := action, required := if required = 0xFF then none else some required
      hold := flags.testBit 0, confirm := flags.testBit 1 }

/-- An identifier that may be none, which travels as 0. -/
def getId : Reader (Option Nat) := get16.as fun n => if n = 0 then none else some n

/-- POST_ORDER: presence bit 0 is the watch profile; the other bits are ignored (DESIGN CHOICE:
notes/assumptions/45.md). -/
def getPostOrder (tag : Nat) : Reader Instr :=
  get8.andThen fun given => get16.andThen fun order => get8.andThen fun prio => getText.andThen fun loc =>
  getText.andThen fun desc => (getList get16).andThen fun cands => (getIf (given.testBit 0) getProfile).as fun profile =>
    .postOrder tag order prio loc desc cands profile

/-- CHANGE_ORDER: the presence bits are priority, location, description, candidate list, profile, removal; bits 6 and 7
are ignored (DESIGN CHOICE: notes/assumptions/45.md). -/
def getChangeOrder (tag : Nat) : Reader Instr :=
  get8.andThen fun given => get16.andThen fun order => (getIf (given.testBit 0) get8).andThen fun prio =>
  (getIf (given.testBit 1) getText).andThen fun loc => (getIf (given.testBit 2) getText).andThen fun desc =>
  (getIf (given.testBit 3) (getList get16)).andThen fun cands =>
  (getIf (given.testBit 4) getProfile).as fun profile =>
    .changeOrder tag order prio loc desc cands profile (given.testBit 5)

def getSetWatch (tag : Nat) : Reader Instr :=
  get16.andThen fun truck => get8.andThen fun seat => getSettings.as fun set => .setWatch tag truck seat set

/-- A truck and a seat. -/
def getSeat (f : Nat → Nat → Instr) : Reader Instr := get16.andThen fun truck => get8.as fun seat => f truck seat

def getLoadPermit (tag : Nat) : Reader Instr :=
  get16.andThen fun permit => get16.andThen fun holder => getId.andThen fun linked =>
  (getList getStep).andThen fun iso => (getList getStep).as fun rest => .loadPermit tag permit holder linked iso rest

def getDecideStep (tag : Nat) : Reader Instr :=
  get16.andThen fun permit => getStepId.andThen fun step => get8.as fun decision => .decideStep tag permit step decision

def getSetAir (tag : Nat) : Reader Instr :=
  get8.andThen fun rate => get16.andThen fun window => get8.andThen fun slots => get8.as fun budget =>
    .setAir tag rate window slots budget

def getSetSite (tag : Nat) : Reader Instr :=
  get8.andThen fun site => get8.andThen fun parent => get8.andThen fun lo => get8.andThen fun hi =>
  get16.andThen fun hop => get16.as fun timeout => .setSite tag site parent lo hi hop timeout

def getZoneGrace (tag : Nat) : Reader Instr :=
  get8.andThen fun first => get8.andThen fun last => get16.as fun grace => .setZoneGrace tag first last grace

def getLoadBands (tag : Nat) : Reader Instr :=
  get16.andThen fun t1 => get16.andThen fun t2 => get16.andThen fun t3 => get8.as fun h => .setLoadBands tag t1 t2 t3 h

def getBandEntry (tag : Nat) : Reader Instr :=
  get8.andThen fun band => get16.andThen fun interval => get16.as fun allowance =>
    .setBandEntry tag band interval allowance

/-- The body of a request by its kind code (spec/11 section 11.5); a kind that names no request has fields that cannot
be known, and any body will do (R177). -/
def getRequest (kind tag : Nat) : Reader Instr :=
  match kind with
  | 0x01 => get16.as fun n => .enrollTruck tag n
  | 0x02 => get16.as fun n => .removeTruck tag n
  | 0x03 => get16.as fun n => .queryTruck tag n
  | 0x04 => getPostOrder tag
  | 0x05 => get16.andThen fun order => get16.as fun truck => .assignOrder tag order truck
  | 0x06 => getChangeOrder tag
  | 0x07 => get16.as fun n => .cancelOrder tag n
  | 0x08 => get16.as fun n => .retireOrder tag n
  | 0x09 => get16.as fun n => .queryOrder tag n
  | 0x0A => get16.as fun n => .setOfferTimeout tag n
  | 0x0B => getSetWatch tag
  | 0x0C => getSeat (.startWatch tag)
  | 0x0D => getSeat (.stopWatch tag)
  | 0x0E => getSeat (.closeAlarm tag)
  | 0x0F => getSeat (.queryWatch tag)
  | 0x10 => getLoadPermit tag
  | 0x11 => get16.as fun n => .issuePermit tag n
  | 0x12 => get16.as fun n => .haltPermit tag n
  | 0x13 => get16.as fun n => .resumePermit tag n
  | 0x14 => get16.as fun n => .cancelPermit tag n
  | 0x15 => get16.as fun n => .retirePermit tag n
  | 0x16 => get16.as fun n => .queryPermit tag n
  | 0x17 => getDecideStep tag
  | 0x18 => found (.queryPending tag)
  | 0x19 => get16.as fun n => .setDecisionTimeout tag n
  | 0x1A => get16.andThen fun point => get8.as fun position => .setPoint tag point position
  | 0x1B => get16.as fun n => .queryPoint tag n
  | 0x1C => get16.andThen fun truck => getText.as fun text => .sendText tag truck text
  | 0x1D => get16.as fun n => .setAnswerDiscard tag n
  | 0x1E => get16.as fun n => .queryQueue tag n
  | 0x1F => getSetAir tag
  | 0x20 => found (.queryAir tag)
  | 0x21 => getSetSite tag
  | 0x22 => get8.as fun n => .clearSite tag n
  | 0x23 => get8.as fun n => .setSitePolicy tag n
  | 0x24 => getZoneGrace tag
  | 0x25 => found (.querySites tag)
  | 0x26 => get8.as fun n => .queryZone tag n
  | 0x27 => getLoadBands tag
  | 0x28 => getBandEntry tag
  | 0x29 => found (.queryLoad tag)
  | 0x2A => get8.andThen fun mode => get16.as fun window => .setSupervision tag mode window
  | 0x2B => found (.querySupervision tag)
  | 0x2C => found (.resume tag)
  | 0x2D => found (.status tag)
  | 0x2E => found (.identify tag)
  | 0x2F => get32.as fun n => .setTime tag n
  | 0x30 => get8.as fun n => .setLink tag n
  | 0x31 => found (.keepalive tag)
  | 0x32 => found (.restart tag)
  | _ => fun _ => some (.unknownRequest kind tag, [])

/-! ## Console frames (R177) -/

/-- A length the envelope admits (R177). -/
def lengthSound (n : Nat) : Bool := 2 ≤ n && n ≤ 402

/-- The command of a console frame from its octets behind the start octet: two of length, then kind, tag and body, then
two of CRC. -/
def frameCommand (l : List Octet) : Instr :=
  match get16 l with
  | none => .failedFrame .length
  | some (n, rest) =>
    if lengthSound n = false ∨ rest.length ≠ n + 2 then .failedFrame .length
    else if get16 (rest.drop n) ≠ some ((crc (l.take (n + 2))).toNat, []) then .failedFrame .crc
    else
      match rest.take n with
      | kind :: tag :: body =>
        match readAll (getRequest kind.toNat tag.toNat) body with
        | some c => c
        | none => .failedFrame .body
      | _ => .failedFrame .length

/-- The length of the frame being received, once its two octets stand. -/
def frameLength (got : List Octet) : Option Nat := (get16 got).map Prod.fst

/-- An octet received on CRX at time `t` (ms), with the command it completes, if any (R177): between frames all but the
start octet 0xD1 are discarded; a length out of bounds fails as soon as it stands; the frame is complete with its two
CRC octets. -/
def Rx.octet (x : Rx) (t : Nat) (b : Octet) : Rx × Option Instr :=
  match x with
  | .hunting => if b = 0xD1 then (.within [] t, none) else (.hunting, none)
  | .within got _ =>
    let l := got ++ [b]
    match frameLength l with
    | none => (.within l t, none)
    | some n =>
      if lengthSound n = false then (.hunting, some (.failedFrame .length))
      else if l.length = n + 4 then (.hunting, some (frameCommand l))
      else (.within l t, none)

/-- The gap check at time `t` (ms): more than 50 ms after the last octet of an unfinished frame it fails (R177). -/
def Rx.gap (x : Rx) (t : Nat) : Rx × Option Instr := if x.overdue t then (.hunting, some .octetGap) else (x, none)

/-- An octet received on CRX now, behind the gap check; a command it completes joins the queue. A part held in reset
receives nothing (R177, R184; notes/assumptions/6.md and 11.md). -/
def crxOctet (s : State) (b : Octet) : State :=
  if s.held then s
  else
    let g := s.port.rx.gap s.nowMs
    let r := g.1.octet s.nowMs b
    { s with port := { s.port with rx := r.1 }, pending := s.pending ++ g.2.toList ++ r.2.toList }

/-- Octets received on CRX within one ms. -/
def crxOctets (s : State) (l : List Octet) : State := l.foldl crxOctet s

/-! ## Uplink air frames (R131, R154) -/

/-- An item's fields by its code, where they have the length the code gives them; any other is skipped
(notes/assumptions/26.md). -/
def itemOf (code : Nat) (fields : List Octet) : Item :=
  let item : Option Item :=
    match code with
    | 0x01 => readAll (found .register) fields
    | 0x02 => readAll (get8.as .checkIn) fields
    | 0x03 => readAll (get8.andThen fun seat => get8.as (.motion seat)) fields
    | 0x04 => readAll (get8.as .taskDone) fields
    | 0x05 => readAll (get8.as .emergency) fields
    | 0x06 => readAll (get16.andThen fun order => get8.as (.orderReply order)) fields
    | 0x07 => readAll (get16.as .permitAccept) fields
    | 0x08 => readAll (get16.as .workDone) fields
    | 0x09 =>
      readAll (get16.andThen fun permit => getStepId.andThen fun step => get16.andThen fun point =>
        get8.as (.stepAsk permit step point)) fields
    | 0x0A => readAll (get16.andThen fun permit => getStepId.andThen fun step => get8.as (.stepDone permit step)) fields
    | _ => none
  item.getD (.other code fields.length)

/-- One item: kind, length, fields. -/
def getItem : Reader Item := get8.andThen fun code => getText.as fun fields => itemOf code fields

/-- The header with its uplink number, of a frame that arrived along `relay`. -/
def getHeader (relay : List Nat) : Reader Header :=
  get16.andThen fun truck => get8.andThen fun zone => get8.as fun uplink =>
    { relay := relay, truck := truck, zone := zone, uplink := uplink }

/-- The frame kind and body behind any route, none for a kind that is no uplink frame's (R144). -/
def getUplink (relay : List Nat) : Reader (Option Instr) :=
  get8.andThen fun kind =>
    match kind with
    | 0x03 =>
      (getHeader relay).andThen fun h => (getList get8).andThen fun acks => (getList getItem).as fun items =>
        some (.reply h acks items)
    | 0x04 => (getHeader relay).andThen fun h => getItem.as fun item => some (.burst h item)
    | 0x05 => get8.as fun site => some (.beacon relay site)
    | _ => fun _ => some (none, [])

/-- The route of a relayed frame: one octet 0x81 or 0x82, then one or two site numbers; a direct frame has none. -/
def getRoute : Reader (List Nat)
  | b :: l =>
    if b = 0x81 then getMany get8 1 l else if b = 0x82 then getMany get8 2 l else some ([], b :: l)
  | [] => none

/-- The command of an air frame as the transceiver delivers it, its two check octets verified already: a frame whose
length disagrees with its octets, or that does not hold together, is a rejected frame (R146). Octets left over behind
the body make it one too (DESIGN CHOICE: notes/assumptions/43.md), and a frame longer than R162's 420 octets is read like
any other (DESIGN CHOICE: notes/assumptions/44.md). -/
def airCommand (l : List Octet) : Instr :=
  match get16 l with
  | none => .rejectedFrame
  | some (n, rest) =>
    if rest.length ≠ n ∨ n < 2 then .rejectedFrame
    else
      match readAll (getRoute.andThen getUplink) (rest.take (n - 2)) with
      | some (some c) => c
      | _ => .rejectedFrame

end Sys2Proof.Machine
end

