-- ==== Sys2Proof/Safety.lean ====
section
/-!
DEFINITION. The terms the statements use: when a console request is served, what a served request leaves besides its own
effect, and the invariants a step keeps.
-/
namespace Sys2Proof.Machine

/-! ## Serving a request -/

/-- Between events, with the reset line released. -/
def Live (s : State) : Prop := s.held = false ∧ s.askArb = false

/-- A console request accepted now is served: no RESTART has been served and fewer than four requests are buffered
(R178). -/
def Ready (s : State) : Prop :=
  s.held = false ∧ s.askArb = false ∧ s.port.restart = .running ∧ s.port.buffer.length < 4

/-- The state with the window armed and a reply in the buffer: all a request leaves besides its own effect (R172,
R178). -/
def answered (s : State) (kind tag : Nat) (code : Result) (body : ReplyBody) : State :=
  attach (armWindow s) kind tag { code := code, body := body }

/-- Notices posted one after another. -/
def posted (s : State) (l : List NoticeBody) : State := l.foldl post s

/-- The kind code and the tag of the console requests (spec/11_the_console_link.md section 11.5); none for the other
commands. -/
def kindTag : Instr → Option (Nat × Nat)
  | .enrollTruck tag _ => some (0x01, tag)
  | .removeTruck tag _ => some (0x02, tag)
  | .queryTruck tag _ => some (0x03, tag)
  | .postOrder tag .. => some (0x04, tag)
  | .assignOrder tag _ _ => some (0x05, tag)
  | .changeOrder tag .. => some (0x06, tag)
  | .cancelOrder tag _ => some (0x07, tag)
  | .retireOrder tag _ => some (0x08, tag)
  | .queryOrder tag _ => some (0x09, tag)
  | .setOfferTimeout tag _ => some (0x0A, tag)
  | .setWatch tag .. => some (0x0B, tag)
  | .startWatch tag _ _ => some (0x0C, tag)
  | .stopWatch tag _ _ => some (0x0D, tag)
  | .closeAlarm tag _ _ => some (0x0E, tag)
  | .queryWatch tag _ _ => some (0x0F, tag)
  | .loadPermit tag .. => some (0x10, tag)
  | .issuePermit tag _ => some (0x11, tag)
  | .haltPermit tag _ => some (0x12, tag)
  | .resumePermit tag _ => some (0x13, tag)
  | .cancelPermit tag _ => some (0x14, tag)
  | .retirePermit tag _ => some (0x15, tag)
  | .queryPermit tag _ => some (0x16, tag)
  | .decideStep tag .. => some (0x17, tag)
  | .queryPending tag => some (0x18, tag)
  | .setDecisionTimeout tag _ => some (0x19, tag)
  | .setPoint tag _ _ => some (0x1A, tag)
  | .queryPoint tag _ => some (0x1B, tag)
  | .sendText tag _ _ => some (0x1C, tag)
  | .setAnswerDiscard tag _ => some (0x1D, tag)
  | .queryQueue tag _ => some (0x1E, tag)
  | .setAir tag .. => some (0x1F, tag)
  | .queryAir tag => some (0x20, tag)
  | .setSite tag .. => some (0x21, tag)
  | .clearSite tag _ => some (0x22, tag)
  | .setSitePolicy tag _ => some (0x23, tag)
  | .setZoneGrace tag .. => some (0x24, tag)
  | .querySites tag => some (0x25, tag)
  | .queryZone tag _ => some (0x26, tag)
  | .setLoadBands tag .. => some (0x27, tag)
  | .setBandEntry tag .. => some (0x28, tag)
  | .queryLoad tag => some (0x29, tag)
  | .setSupervision tag _ _ => some (0x2A, tag)
  | .querySupervision tag => some (0x2B, tag)
  | .resume tag => some (0x2C, tag)
  | .status tag => some (0x2D, tag)
  | .identify tag => some (0x2E, tag)
  | .setTime tag _ => some (0x2F, tag)
  | .setLink tag _ => some (0x30, tag)
  | .keepalive tag => some (0x31, tag)
  | .restart tag => some (0x32, tag)
  | .unknownRequest kind tag => some (kind, tag)
  | _ => none

/-- The console request `c` is refused with a code: its reply carries the code alone, and but for the armed window and the
buffered reply the state is as it was (R179, spec/00_scope.md section 4.5). -/
def Refuses (c : Instr) (s : State) (code : Result) : Prop :=
  ∃ k tag, kindTag c = some (k, tag) ∧ exec c s = .next (answered s k tag code .none)

/-! ## Reachability and routes -/

/-- The trucks forced by a change of the site table from that of `s` to that of `w` (R10, R152 step 3): where a truck's
route newly passes a DOWN site it becomes LOST with miss count 6 unless ABSENT; where it no longer does, a LOST truck
becomes MISSED with miss count 3; every other truck, and everything else of a truck, is as it was. -/
def RoutesForced (s w : State) : Prop :=
  ∀ k : Nat,
    match truckOf s k with
    | none => truckOf w k = none
    | some t =>
      let before := (routeOf s t).any (isDown s)
      let after := (routeOf { s with sites := w.sites } t).any (isDown { s with sites := w.sites })
      truckOf w k = some
        (if before = false ∧ after = true ∧ t.reach ≠ .absent then { t with reach := .lost, miss := 6 }
         else if before = true ∧ after = false ∧ t.reach = .lost then { t with reach := .missed, miss := 3 }
         else t)

/-- The TRUCK_STATE notices of those trucks, in ascending truck number (R11, R152 step 3): one where the reachability
changes, with the zone as it stands. -/
def forcedNotices (s : State) (sites : List Site) : List NoticeBody :=
  s.trucks.filterMap fun t =>
    let before := (routeOf s t).any (isDown s)
    let after := (routeOf { s with sites := sites } t).any (isDown { s with sites := sites })
    if before = false ∧ after = true ∧ (t.reach = .reachable ∨ t.reach = .missed) then
      some (.truckState t.num .lost 6 t.zone)
    else if before = true ∧ after = false ∧ t.reach = .lost then some (.truckState t.num .missed 3 t.zone)
    else none

/-! ## What stays -/

/-- From `s` to `u` no truck but `n` changes, and of truck `n` only the outbound queue with its sequence counter, and in
that queue only the record for the subject `x`. -/
def OnlyRecord (s u : State) (n : Nat) (x : Subject) : Prop :=
  (∀ m, m ≠ n → truckOf u m = truckOf s m) ∧
  ∀ k, truckOf s n = some k → ∃ k', truckOf u n = some k' ∧ k' = { k with queue := k'.queue, seqCtr := k'.seqCtr } ∧
    ∀ y, y ≠ x → recFor k'.queue y = recFor k.queue y

/-- From `s` to `u` no permit but `n` changes, and of permit `n` only the step `i`, which becomes `f` of what it was. -/
def OnlyStep (s u : State) (n : Nat) (i : StepId) (f : StepRec → StepRec) : Prop :=
  (∀ m, m ≠ n → permitOf u m = permitOf s m) ∧
  ∀ p, permitOf s n = some p → ∃ q, permitOf u n = some q ∧ q = { p with iso := q.iso, rest := q.rest } ∧
    q.step i = (p.step i).map f ∧ ∀ j, j ≠ i → q.step j = p.step j

/-- A queue as R116 keeps it in two parts: the urgent run at its head, and the routine part, which a routine record
leads or which is empty. -/
def InTwoParts (q run rest : List Rec) : Prop :=
  q = run ++ rest ∧ (∀ r ∈ run, r.content.urgent = true) ∧ ∀ r, rest.head? = some r → r.content.urgent = false

/-! ## Tables -/

/-- The keys of a table in strictly ascending order: at most one record a key. -/
def ascending {α : Type} (key : α → Nat) (l : List α) : Prop := (l.map key).Pairwise (· < ·)

/-- The tables hold at most one record a number, within their sizes (R1, R17, R65, R88, R98, R178, R180). -/
structure TablesInv (s : State) : Prop where
  trucks : ascending Truck.num s.trucks
  orders : ascending Order.num s.orders
  permits : ascending Permit.num s.permits
  points : ascending Point.num s.points
  truckRange : ∀ t ∈ s.trucks, 1 ≤ t.num ∧ t.num ≤ 999
  truckRoom : s.trucks.length ≤ 64
  orderRoom : s.orders.length ≤ 128
  permitRoom : s.permits.length ≤ 32
  pointRoom : s.points.length ≤ 256
  askRoom : s.asks.length ≤ 16
  bufferRoom : s.port.buffer.length ≤ 4
  noticeRoom : s.port.notices.length ≤ 64

/-- The permits of the table that name a point. -/
def namers (s : State) (n : Nat) : List Permit := s.permits.filter fun p => p.points.contains n

/-- Each point counts the permits that name it, at least one; each point a permit names is in the table (R88). -/
structure RefCountInv (s : State) : Prop where
  permits : ascending Permit.num s.permits
  points : ascending Point.num s.points
  count : ∀ q ∈ s.points, q.refCount = (namers s q.num).length ∧ 1 ≤ q.refCount
  present : ∀ p ∈ s.permits, ∀ n ∈ p.points, (pointOf s n).isSome = true

/-! ## Queues and slots -/

/-- `b` stands immediately behind `a` in a list of subjects. -/
def standsBehind (a b : Subject) (l : List Subject) : Prop := ∃ l1 l2, l = l1 ++ a :: b :: l2

/-- One outbound queue as R112, R115 and R117 keep it: at most 12 records, one a subject, no two of one sequence number,
and an ANSWER immediately behind its PERMIT record where both stand. -/
structure QueueWf (q : List Rec) : Prop where
  room : q.length ≤ 12
  subjects : (q.map Rec.subject).Nodup
  seqs : (q.map Rec.seq).Nodup
  seqRange : ∀ r ∈ q, r.seq < 256
  answers : ∀ p, .permit p ∈ q.map Rec.subject → .answer p ∈ q.map Rec.subject →
    standsBehind (.permit p) (.answer p) (q.map Rec.subject)

/-- Every outbound queue is well formed and every sequence counter is 0 to 255. -/
def QueuesInv (s : State) : Prop := ∀ t ∈ s.trucks, QueueWf t.queue ∧ t.seqCtr < 256

/-- The reachability and the miss count of a truck, as R4's table pairs them. -/
def reachFits : Reach → Nat → Prop
  | .absent, c => c = 0
  | .reachable, c => c ≤ 2
  | .missed, c => 3 ≤ c ∧ c ≤ 5
  | .lost, c => c = 6

/-- The slot lists, the uplink numbers and the reachability of every truck (R4, R12, R13, R132). -/
def SlotsInv (s : State) : Prop :=
  ∀ t ∈ s.trucks, t.orderSlots.Nodup ∧ t.orderSlots.length ≤ 4 ∧ t.permitSlots.Nodup ∧ t.permitSlots.length ≤ 2
    ∧ t.upAcks.Nodup ∧ t.upAcks.length ≤ 4 ∧ reachFits t.reach t.miss

/-- The candidate and tried lists of every order (R17). -/
def TriedInv (s : State) : Prop :=
  ∀ o ∈ s.orders, o.cands.Nodup ∧ o.cands.length ≤ 4 ∧ o.tried.Nodup ∧ ∀ n ∈ o.tried, n ∈ o.cands

/-! ## Points and permits -/

/-- All holds of a point name one position, there are at most four, and no permit holds a point twice (R89). -/
structure HoldsInv (s : State) : Prop where
  points : ascending Point.num s.points
  holds : ∀ q ∈ s.points, q.holds.length ≤ 4 ∧ (q.holds.map Hold.permit).Nodup ∧
    ∃ x, ∀ h ∈ q.holds, h.position = x

/-- A permit that is CLOSED or CANCELLED has no halt cause, and one that is LOADED or ISSUED does not have SITE (R78,
R83). -/
structure CausesInv (s : State) : Prop where
  permits : ascending Permit.num s.permits
  ended : ∀ p ∈ s.permits, p.state.isOpen = false → p.causes = Causes.none
  early : ∀ p ∈ s.permits, p.state = .loaded ∨ p.state = .issued → p.causes.site = false

/-- How far a permit has come in its lifecycle (spec/04_switching_permits.md section 4.3). -/
def PermitState.rank : PermitState → Nat
  | .loaded => 0
  | .issued => 1
  | .isolating => 2
  | .cleared => 3
  | .restoring => 4
  | .closed => 5
  | .cancelled => 5

/-- Every GRANT in a queue names a step of a permit the truck holds; while the console is UNATTENDED none stands for an
energizing or CONFIRM-flagged step, and no request is pending (R104). -/
structure UnattendedInv (s : State) : Prop where
  trucks : ascending Truck.num s.trucks
  permits : ascending Permit.num s.permits
  subjects : ∀ t ∈ s.trucks, (t.queue.map Rec.subject).Nodup
  grants : ∀ t ∈ s.trucks, ∀ r ∈ t.queue, ∀ c, r.content = .answer c → c.kind = .grant →
    ∃ p x, permitOf s c.permit = some p ∧ p.holder = t.num ∧ p.step c.step = some x ∧
      (s.sup.console = .unattended → x.action.energizing = false ∧ x.confirm = false)
  asks : s.sup.console = .unattended → s.asks = []

/-! ## Watch contexts -/

/-- The deadline of a running context against its last contact or its start (R45). -/
def deadlineFits (w : Watch) : Prop :=
  w.state = .watch ∨ w.state = .warn →
    match w.set.timer with
    | .interval => ∃ c d, w.lastContact = some c ∧ w.deadline = some d ∧ d ≤ c + w.set.interval + w.set.interval / 2
    | .task => ∃ c d, w.startTime = some c ∧ w.deadline = some d ∧ d ≤ c + w.set.task + w.set.task / 2
    | .stillness => True

/-- Every running context's deadline lies within R45's bound. -/
structure DeadlineInv (s : State) : Prop where
  trucks : ascending Truck.num s.trucks
  fits : ∀ t ∈ s.trucks, deadlineFits t.w1 ∧ deadlineFits t.w2

/-! ## Load, sites, cycle -/

/-- The conditions of R167 on a set of thresholds. -/
def thresholdsFit (x : Thresholds) : Prop := x.t1 + x.h ≤ x.t2 ∧ x.t2 + x.h ≤ x.t3 ∧ x.t3 + x.h ≤ 1000

/-- The band held fits the load figure, for the thresholds in force; a staged set fits too (R166, R167). -/
structure BandInv (s : State) : Prop where
  level : s.load.level ≤ 1000
  inForce : thresholdsFit s.load.thr
  staged : ∀ x, s.load.thrStaged = some x → thresholdsFit x
  band : s.load.band ≤ 3
  lower : s.load.thr.at s.load.band ≤ s.load.level
  upper : s.load.band < 3 → s.load.level < s.load.thr.at (s.load.band + 1) + s.load.thr.h

/-- The structure of the site table (R149 to R151): sites 1 to 7, a used site's range within 1 to 250 and within its
parent's, its parent 0 or a used site of depth 1, and sibling ranges apart. -/
structure SitesInv (s : State) : Prop where
  numbers : s.sites.map Site.num = [1, 2, 3, 4, 5, 6, 7]
  range : ∀ x ∈ s.sites, x.used = true → ∃ lo hi, x.range = some (lo, hi) ∧ 1 ≤ lo ∧ lo ≤ hi ∧ hi ≤ 250
  parent : ∀ x ∈ s.sites, x.used = true → x.parent ≠ 0 →
    ∃ y ∈ s.sites, y.num = x.parent ∧ y.used = true ∧ y.parent = 0 ∧ ∀ z, x.covers z = true → y.covers z = true
  siblings : ∀ x ∈ s.sites, ∀ y ∈ s.sites, x.used = true → y.used = true → x.num ≠ y.num → x.parent = y.parent →
    ∀ z, ¬(x.covers z = true ∧ y.covers z = true)

/-- The phase and the turn in flight (R134, R136, R142, R143). -/
structure SchedulerInv (s : State) : Prop where
  list : s.air.phase = .list → s.air.turn.isSome = true
  window : s.air.phase = .window → s.air.turn = none
  gap : s.air.phase = .gap → s.air.startReached = true → s.air.turn.isSome = true

end Sys2Proof.Machine
end

