-- ==== Sys2Proof/Certificates/Slice0/Obligations.lean ====
section
/-!
DEFINITION. The statements about the part, for the provers. The titles, their sources and their quotes are in
OBLIGATIONS.json.
-/

open Sys2Proof Sys2Proof.Machine

/-! ## Stepping -/

/-- A step takes the command at the front of the queue and runs it with the queue's rest. -/
def Obligations.StepRunsFrontCommand : Prop :=
  ∀ (c : Instr) (l : List Instr) (s : State), s.pending = c :: l → step s = exec c { s with pending := l }

/-- On an empty queue: a part held in reset stays as it is; with no timer reached the mission clock moves on by one
millisecond (R182); otherwise one of the timers reached is put into the queue (the model's own choices:
notes/assumptions/1.md, 2.md and 11.md). And which timers are reached: each exactly when the moment its rule names has
come (R25, R46, R52, R54, R100, R124, R156, R174, R143, R142, R139, R165, R184, R177). -/
def Obligations.IdleStepTicksOrTakesDueTimer : Prop :=
  (∀ s : State, s.pending = [] →
     if s.held = true then step s = .next s
     else if dueEvents s = [] then
       if s.clock.ms < 999 then step s = .next { s with clock := { s.clock with ms := s.clock.ms + 1 } }
       else if s.clock.sec < 4294967294 then
         step s = .next { s with clock := { s.clock with sec := s.clock.sec + 1, ms := 0 } }
       else ∃ n, n ≤ 4294967294 ∧ step s = .next { s with clock := { s.clock with sec := n, ms := 0 } }
     else ∃ c ∈ dueEvents s, step s = .next { s with pending := [c], choices := s.choices + 1 }) ∧
  (∀ s : State, TablesInv s →
     (∀ n, .offerTimeout n ∈ dueEvents s ↔
       ∃ o e, orderOf s n = some o ∧ o.state = .offered ∧ o.offerExpiry = some e ∧ e ≤ s.now) ∧
     (∀ n seat, .warning n seat ∈ dueEvents s ↔ (seat = 1 ∨ seat = 2) ∧
       ∃ w d, watchOf s n seat = some w ∧ w.state = .watch ∧ w.warnTime = some d ∧ d ≤ (s.now : Int)) ∧
     (∀ n seat, .deadline n seat ∈ dueEvents s ↔ (seat = 1 ∨ seat = 2) ∧
       ∃ w d, watchOf s n seat = some w ∧ (w.state = .watch ∨ w.state = .warn) ∧ w.deadline = some d ∧ d ≤ s.now) ∧
     (∀ n, .decisionTimeout n ∈ dueEvents s ↔ ∃ a ∈ s.asks, a.permit = n ∧ a.expiry ≤ s.now) ∧
     (∀ n p, .discardTime n p ∈ dueEvents s ↔
       ∃ t, truckOf s n = some t ∧ ∃ r ∈ t.queue, r.subject = .answer p ∧ ∃ d, r.discard = some d ∧ d ≤ s.now) ∧
     (∀ n, .beaconTimeout n ∈ dueEvents s ↔
       ∃ x ∈ s.sites, x.num = n ∧ x.state = .up ∧ ∃ b, x.lastBeacon = some b ∧ b + x.timeout ≤ s.now) ∧
     (.lapse ∈ dueEvents s ↔ ∃ e, s.sup.lapse = some e ∧ e ≤ s.now) ∧
     (.cycleStart ∈ dueEvents s ↔ s.air.nextStart ≤ s.nowMs ∧ s.air.startReached = false) ∧
     (.openWindowEnd ∈ dueEvents s ↔ s.air.phase = .window ∧ s.air.winEnd ≤ s.nowMs) ∧
     (.windowClosing ∈ dueEvents s ↔ ∃ t, s.air.turn = some t ∧ t.winClose ≤ s.nowMs) ∧
     (.periodEnd ∈ dueEvents s ↔ s.load.periodStart + 10000 ≤ s.nowMs) ∧
     (.warmReset ∈ dueEvents s ↔ s.port.restart = .replied) ∧
     (.octetGap ∈ dueEvents s ↔ ∃ got last, s.port.rx = .within got last ∧ last + 50 < s.nowMs))

/-- Every command completes: it ends in a next state, and takes or adds no command. -/
def Obligations.EveryCommandCompletes : Prop :=
  ∀ (c : Instr) (s : State), ∃ t, exec c s = .next t ∧ t.pending = s.pending ∧ t.choices = s.choices

/-! ## Reset -/

/-- The reset line and the cold reset (R184): asserted, the part is held and a frame being received or sent is
lost, with no flag; while it is held no other command has an effect; the cold reset gives the cold-reset values, whatever came before (the model's own fields
`pending` and `choices` are kept: notes/assumptions/36.md). Those values are as the chapters give them. The first cycle has begun (R134, R135): its list is empty,
so its open window of 4 slots runs from the end of an OPEN frame of 32 ms (R142, R162; notes/assumptions/12.md). -/
def Obligations.ColdResetValues : Prop :=
  State.reset.clock = { sec := 0, ms := 0, offset := 0 } ∧
  State.reset.trucks = [] ∧ State.reset.orders = [] ∧ State.reset.permits = [] ∧ State.reset.points = [] ∧
  State.reset.asks = [] ∧
  State.reset.timeouts = { offer := 120, decision := 120, discard := 300 } ∧
  State.reset.sup = { mode := .act, window := 30, console := .unattended, lastValid := none, lapse := some 30 } ∧
  State.reset.port.buffer = [] ∧ State.reset.port.notices = [] ∧ State.reset.port.rx = .hunting ∧
  State.reset.port.ctx = none ∧ State.reset.port.rate = 115200 ∧
  State.reset.port.sticky = { restarted := true, linkFault := false, lapsed := false, noticesLost := false } ∧
  State.reset.air.rate = 9600 ∧ State.reset.air.replyWindow = 600 ∧ State.reset.air.slots = 4 ∧
  State.reset.air.budget = 6 ∧ State.reset.air.cycle = 0 ∧ State.reset.air.turn = none ∧
  State.reset.air.nextStart = 30000 ∧ State.reset.air.phase = .window ∧ State.reset.air.winEnd = 32 + 4 * 300 ∧
  State.reset.air.overruns = 0 ∧ State.reset.air.missedTurns = 0 ∧ State.reset.air.rejected = 0 ∧
  State.reset.air.skipped = 0 ∧
  (∀ n, 1 ≤ n → n ≤ 7 → siteOf State.reset n =
    some { num := n, state := .unused, parent := 0, range := none, hop := 300, timeout := 90, lastBeacon := none }) ∧
  State.reset.policy = .affected ∧ (∀ z, 1 ≤ z → z ≤ 250 → graceOf State.reset z = 0) ∧
  State.reset.load.periodStart = 0 ∧ State.reset.load.busy = 0 ∧ State.reset.load.carrier = none ∧
  State.reset.load.sample = none ∧ State.reset.load.level = 0 ∧ State.reset.load.band = 0 ∧
  State.reset.load.thr = { t1 := 300, t2 := 550, t3 := 750, h := 40 } ∧ State.reset.load.thrStaged = none ∧
  State.reset.load.table = [⟨30, 0⟩, ⟨60, 10⟩, ⟨120, 20⟩, ⟨240, 30⟩] ∧
  State.reset.load.staged = [none, none, none, none] ∧
  (∀ s : State, exec .resetLineAssertion s =
    .next { s with held := true, port := { s.port with rx := .hunting, ctx := none } }) ∧
  (∀ s : State, exec .coldReset s = .next { State.reset with pending := s.pending, choices := s.choices }) ∧
  (∀ (c : Instr) (s : State), s.held = true → c ≠ .coldReset → c ≠ .resetLineAssertion → exec c s = .next s)

/-- The warm reset, due when the last octet of RESTART's reply has been sent (R184, R134, R149, R161, R171): tables and
lists empty, a frame being received lost with no flag, configuration kept, the console UNATTENDED with its window
running, RESTARTED set, LAPSED kept, and a first
cycle with an empty list, at whose start the staged band entries come into force (R135, R168) and the staged thresholds
wait on for the period end (R167). That before RESTART's reply has gone it has no effect is an inference
(notes/assumptions/3.md and 10.md). -/
def Obligations.WarmResetKeepsConfiguration : Prop :=
  ∀ s : State, Live s →
    if s.port.restart = .replied then
      ∃ t, exec .warmReset s = .next t ∧
        t.trucks = [] ∧ t.orders = [] ∧ t.permits = [] ∧ t.points = [] ∧ t.asks = [] ∧
        t.clock = s.clock ∧ t.timeouts = s.timeouts ∧ t.policy = s.policy ∧ t.graces = s.graces ∧
        t.sites = (s.sites.map fun x => if x.used then { x with lastBeacon := some s.now } else x) ∧
        t.sup = { s.sup with
          console := .unattended, lapse := if s.sup.mode = .off then none else some (s.now + s.sup.window) } ∧
        t.port =
          { rx := .hunting, buffer := [], notices := [], ctx := none
            sticky := { restarted := true, linkFault := false, lapsed := s.port.sticky.lapsed, noticesLost := false }
            rate := s.port.rate, rateToCome := none, restart := .running } ∧
        t.air.cycle = 0 ∧ t.air.list = [] ∧ t.air.turn = none ∧ t.air.startTime = s.nowMs ∧
        t.air.nextStart = s.nowMs + (bandEntryInForce s).interval * 1000 ∧
        t.air.rate = s.air.rateWaiting.getD s.air.rate ∧ t.air.rateWaiting = none ∧
        t.air.replyWindow = s.air.replyWindow ∧ t.air.slots = s.air.slots ∧ t.air.budget = s.air.budget ∧
        t.air.overruns = 0 ∧ t.air.missedTurns = 0 ∧ t.air.rejected = 0 ∧ t.air.skipped = 0 ∧
        t.air.phase = (if s.air.slots = 0 then .gap else .window) ∧
        t.load.periodStart = s.nowMs ∧ t.load.busy = 0 ∧ t.load.sample = none ∧ t.load.level = s.load.level ∧
        t.load.band = s.load.band ∧ t.load.thr = s.load.thr ∧ t.load.thrStaged = s.load.thrStaged ∧
        t.load.table = List.zipWith (fun e x => x.getD e) s.load.table s.load.staged ∧
        t.load.staged = s.load.staged.map (fun _ => none) ∧
        t.load.carrier = s.load.carrier.map fun _ => s.nowMs
    else exec .warmReset s = .next s

/-! ## The console link -/

/-- Every accepted console frame arms the supervision window, whatever becomes of the request; a failed frame arms
nothing; a request that changes the window acts on the window just armed (R172). -/
def Obligations.AcceptedFrameArmsWindow : Prop :=
  (∀ (c : Instr) (k tag : Nat) (s : State), kindTag c = some (k, tag) → s.held = false →
    ∃ t, exec c s = .next t ∧ t.sup.lastValid = some s.now ∧
      ((∀ tag mode window, c ≠ .setSupervision tag mode window) →
        t.sup.mode = s.sup.mode ∧ t.sup.window = s.sup.window ∧
        t.sup.lapse = if s.sup.mode = .off then s.sup.lapse else some (s.now + s.sup.window)) ∧
      ((∀ tag, c ≠ .resume tag) → t.sup.console = s.sup.console)) ∧
  (∀ (why : FrameFault) (s : State), ∃ t, exec (.failedFrame why) s = .next t ∧ t.sup = s.sup) ∧
  (∀ s : State, ∃ t, exec .octetGap s = .next t ∧ t.sup = s.sup) ∧
  (∀ (s : State) (tag mode window : Nat), Ready s → mode = 1 ∨ mode = 2 →
    ∃ t, exec (.setSupervision tag mode window) s = .next t ∧ t.sup.lapse = some (s.now + clamp 5 120 window))

/-- Every request that is served gets exactly one reply, of its kind and tag, at the tail of the buffer; a refused one
carries its result code alone and leaves the part as it was, but for the window its frame has armed (R178, R179,
spec/00_scope.md section 4.5). An accepted frame that is not served arms the window and is dropped without reply: with
four requests buffered LINK_FAULT is set, after RESTART's service no flag is set (R178, R172). That the reply is attached
before CTX chooses its next frame, so that no notice goes out between the arming and the reply, is an inference
(notes/assumptions/8.md); this and every statement that names the state `answered` rest on it. -/
def Obligations.ServedRequestGetsOneReply : Prop :=
  (∀ (c : Instr) (k tag : Nat) (s : State), kindTag c = some (k, tag) → Ready s →
    ∃ t e, exec c s = .next t ∧ t.port.buffer = s.port.buffer ++ [e] ∧ e.kind = k ∧ e.tag = tag ∧
      (e.code ≠ .ok → e.code ≠ .clamped → e.body = .none ∧ t = answered s k tag e.code .none)) ∧
  (∀ (c : Instr) (k tag : Nat) (s : State), kindTag c = some (k, tag) → s.held = false →
    (s.port.restart ≠ .running → exec c s = .next (armWindow s)) ∧
    (s.port.restart = .running → 4 ≤ s.port.buffer.length →
      exec c s = .next { armWindow s with
        port := { s.port with sticky := { s.port.sticky with linkFault := true } } }))

/-- A notice posted to the queue (R180): with fewer than 64 notices it joins the tail; at a full queue the oldest ROUTINE
notice gives way to it, and where every notice is of the ALARM class it is discarded; either loss sets NOTICES_LOST.
ALARM, CONTACT, HOLD_CONFLICT and CONSOLE_LAPSED alone are of the ALARM class, and both resets leave the queue empty. A
notice is posted with the stamp of the moment; where CTX is free the next frame is then chosen (R179). That the stamp takes
the offset in force at the posting, not at the sending, is the model's choice (notes/assumptions/52.md). -/
def Obligations.NoticeOverflowByClass : Prop :=
  (∀ (s : State) (b : NoticeBody), post s b = kick { s with
    port := s.port.enqueue { stamp := (s.now + s.clock.offset) % 4294967295, body := b } }) ∧
  (∀ (p : Port) (n : Notice),
    (p.notices.length < 64 → p.enqueue n = { p with notices := p.notices ++ [n] }) ∧
    (64 ≤ p.notices.length → (∀ m ∈ p.notices, m.body.isAlarmClass = true) →
      p.enqueue n = { p with sticky := { p.sticky with noticesLost := true } }) ∧
    (∀ a r b, 64 ≤ p.notices.length → p.notices = a ++ r :: b → (∀ m ∈ a, m.body.isAlarmClass = true) →
      r.body.isAlarmClass = false →
      p.enqueue n = { p with notices := a ++ b ++ [n], sticky := { p.sticky with noticesLost := true } })) ∧
  (∀ b : NoticeBody, b.isAlarmClass = true ↔
    ((∃ t u c m z l d, b = .alarm t u c m z l d) ∨ (∃ t u i l, b = .contact t u i l) ∨
     (∃ q x y l c, b = .holdConflict q x y l c) ∨ (∃ l w a x n, b = .consoleLapsed l w a x n))) ∧
  (∀ s t : State, exec .coldReset s = .next t → t.port.notices = []) ∧
  (∀ s t : State, Live s → s.port.restart = .replied → exec .warmReset s = .next t →
    t.port.notices = [] ∧ t.port.sticky.noticesLost = false)

/-- Which frame CTX sends next, where it is free and no warm reset is due: the reply of the oldest buffered request;
with none buffered the head notice, which leaves the queue, while the flow is open; otherwise none. A frame being sent
is never interrupted (R179).
The end of a frame on CTX. A reply's request leaves the buffer, a SET_LINK's rate comes into force and cuts a frame
being received with LINK_FAULT, RESTART's makes the warm reset due; a notice's leaves CTX free; the next frame is then
chosen (R178, R179, R183, R184). That with no such frame on CTX REPLY_SENT and NOTICE_SENT change nothing, as the moments
at which frames end come from outside, is the model's choice (notes/assumptions/5.md), as is the operand `receiving` by
which REPLY_SENT says whether a frame is being received whose octets are not given one by one (notes/assumptions/6.md).
A frame that fails its checks, and one cut by a gap of more than 50 ms, is dropped without reply and sets LINK_FAULT
and nothing else (R177). An octet on CRX (R177): between frames all but the start octet are discarded; after a gap of more
than 50 ms the frame fails and the octet is one between frames; a length out of bounds fails as soon as it stands; with its
two CRC octets the frame is complete, and it fails for a wrong CRC or for a body that is not its kind's. That a command an
octet completes joins the queue is the model's own form (notes/assumptions/6.md), and that a held part receives nothing its
choice (notes/assumptions/11.md). And a delivered air frame the part cannot read raises the rejected-frame count, saturating
at 65535, and nothing else (R146). That no frame is chosen between RESTART's reply and the warm reset, that the rate is kept for a
further SET_LINK, and that a frame is cut at an equal rate too are inferences (notes/assumptions/10.md and 28.md). -/
def Obligations.FramesLeaveCtxInOrder : Prop :=
  (∀ s : State,
     (s.port.ctx.isSome = true ∨ s.port.restart = .replied → kick s = s) ∧
     (s.port.ctx = none → s.port.restart ≠ .replied →
       (∀ e l, s.port.buffer = e :: l → kick s = { s with port := { s.port with ctx := some (.reply e) } }) ∧
       (∀ n l v, s.port.buffer = [] → s.port.notices = n :: l → s.sup.lastValid = some v →
         s.now < v + s.sup.window →
         kick s = { s with port := { s.port with ctx := some (.notice n), notices := l } }) ∧
       (∀ v, s.port.buffer = [] → s.sup.lastValid = some v → v + s.sup.window ≤ s.now → kick s = s) ∧
       (s.port.buffer = [] → s.sup.lastValid = none → kick s = s) ∧
       (s.port.buffer = [] → s.port.notices = [] → kick s = s))) ∧
  (∀ s : State, Live s →
     (∀ e l receiving, s.port.ctx = some (.reply e) → s.port.buffer = e :: l →
       exec (.replySent receiving) s = .next (kick { s with port :=
         { s.port with
           rx := if e.kind = 0x30 ∧ e.code = .ok then .hunting else s.port.rx
           buffer := l, ctx := none
           rate := if e.kind = 0x30 ∧ e.code = .ok then s.port.rateToCome.getD s.port.rate else s.port.rate
           rateToCome :=
             if e.kind = 0x30 ∧ e.code = .ok then
               (if l.any (fun x => x.kind == 0x30 && x.code == .ok) then s.port.rateToCome else none)
             else s.port.rateToCome
           sticky :=
             if e.kind = 0x30 ∧ e.code = .ok ∧ (receiving = true ∨ s.port.rx ≠ .hunting) then
               { s.port.sticky with linkFault := true }
             else s.port.sticky
           restart := if e.kind = 0x32 ∧ e.code = .ok then .replied else s.port.restart } })) ∧
     (∀ n, s.port.ctx = some (.notice n) →
       exec .noticeSent s = .next (kick { s with port := { s.port with ctx := none } })) ∧
     ((∀ e, s.port.ctx ≠ some (.reply e)) → ∀ receiving, exec (.replySent receiving) s = .next s) ∧
     ((∀ n, s.port.ctx ≠ some (.notice n)) → exec .noticeSent s = .next s)) ∧
  (∀ s : State, Live s →
     (∀ why, exec (.failedFrame why) s = .next { s with
       port := { s.port with sticky := { s.port.sticky with linkFault := true } } }) ∧
     exec .octetGap s = .next { s with
       port := { s.port with
         rx := (match s.port.rx with
           | .within got last => if last + 50 < s.nowMs then .hunting else .within got last
           | .hunting => .hunting)
         sticky := { s.port.sticky with linkFault := true } } } ∧
     exec .rejectedFrame s = .next { s with air := { s.air with rejected := min (s.air.rejected + 1) 65535 } }) ∧
  (∀ (s : State) (b : Octet),
     let rx (x : Rx) (l : List Instr) : State := { s with port := { s.port with rx := x }, pending := s.pending ++ l }
     (s.held = true → crxOctet s b = s) ∧
     (s.held = false → s.port.rx = .hunting → crxOctet s b = if b = 0xD1 then rx (.within [] s.nowMs) [] else s) ∧
     (∀ got last, s.held = false → s.port.rx = .within got last →
       if last + 50 < s.nowMs then crxOctet s b = crxOctet (rx .hunting [.octetGap]) b
       else
         match got ++ [b] with
         | hi :: lo :: rest =>
           let n := hi.toNat * 256 + lo.toNat
           if n < 2 ∨ 402 < n then crxOctet s b = rx .hunting [.failedFrame .length]
           else if rest.length = n + 2 then crxOctet s b = rx .hunting [frameCommand (hi :: lo :: rest)]
           else crxOctet s b = rx (.within (hi :: lo :: rest) s.nowMs) []
         | l => crxOctet s b = rx (.within l s.nowMs) [])) ∧
  (∀ (kind tag hi lo : Octet) (body : List Octet), body.length ≤ 400 →
     let l := put16 (body.length + 2) ++ kind :: tag :: body
     frameCommand (l ++ [hi, lo]) =
       if hi.toNat * 256 + lo.toNat = (crc l).toNat then
         (if kind.toNat = 0 ∨ 0x33 ≤ kind.toNat then .unknownRequest kind.toNat tag.toNat
          else (readAll (getRequest kind.toNat tag.toNat) body).getD (.failedFrame .body))
       else .failedFrame .crc)

/-- STATUS reports what the part holds and then clears the sticky flags; SET_TIME sets the offset so that a stamp taken
now equals the value given; SET_LINK holds the rate until its reply has gone; after RESTART no request is served; IDENTIFY
and KEEPALIVE answer and change nothing; a kind that names no request is answered UNKNOWN_REQUEST (R181 to R184, R177). A
stamp is the time plus the offset modulo 4294967295 (R182); that of a time before second 0 is so too, the model's choice
(notes/assumptions/18.md). -/
def Obligations.HousekeepingRequests : Prop :=
  ∀ (s : State) (tag : Nat), Ready s →
    (∃ (r : StatusReport) (t : State), exec (.status tag) s = .next t ∧
      t = { answered s 0x2D tag .ok (.status r) with port := { (answered s 0x2D tag .ok (.status r)).port with
        sticky := { restarted := false, linkFault := false, lapsed := false, noticesLost := false } } } ∧
      r.console = s.sup.console ∧ r.level = s.load.level ∧ r.band = s.load.band ∧ r.overruns = s.air.overruns ∧
      r.trucks = s.trucks.length ∧ r.orders = s.orders.length ∧ r.permits = s.permits.length ∧
      r.points = s.points.length ∧ r.asks = s.asks.length ∧ r.notices = s.port.notices.length ∧
      r.sticky = s.port.sticky ∧
      (r.derived.alarmOpen = true ↔ ∃ t ∈ s.trucks, t.w1.state = .alarm ∨ t.w2.state = .alarm) ∧
      (r.derived.warnOpen = true ↔ ∃ t ∈ s.trucks, t.w1.state = .warn ∨ t.w2.state = .warn) ∧
      (r.derived.permitHalted = true ↔ ∃ p ∈ s.permits, ∃ c, p.causes.has c = true) ∧
      (r.derived.siteDown = true ↔ ∃ x ∈ s.sites, x.state = .down) ∧
      (r.derived.truckLost = true ↔ ∃ t ∈ s.trucks, t.reach = .lost)) ∧
    ((∀ x, stamp s x = (x + s.clock.offset) % 4294967295) ∧ (∀ x, stampOpt s x = x.map (stamp s)) ∧
      ∀ x : Int, (stampInt s x : Int) = (x + (s.clock.offset : Int)) % 4294967295) ∧
    (∀ v, v ≤ 4294967295 →
      ∃ t, exec (.setTime tag v) s = .next t ∧ stamp t t.now = min v 4294967294 ∧
        t = { answered s 0x2F tag (if v = 4294967295 then .clamped else .ok) (.time s.clock.sec) with
          clock := { s.clock with offset := t.clock.offset } }) ∧
    (∀ rate r, [57600, 115200, 230400, 460800][rate]? = some r →
      exec (.setLink tag rate) s = .next { answered s 0x30 tag .ok (.link r) with
        port := { (answered s 0x30 tag .ok (.link r)).port with rateToCome := some r } }) ∧
    (∀ rate, 4 ≤ rate → Refuses (.setLink tag rate) s .badField) ∧
    exec (.restart tag) s = .next { answered s 0x32 tag .ok .none with
      port := { (answered s 0x32 tag .ok .none).port with restart := .served } } ∧
    (∃ vendor revision, exec (.identify tag) s = .next (answered s 0x2E tag .ok
      (.identity vendor [0x44, 0x58, 0x36, 0x32, 0x30] revision
        [64, 2, 128, 4, 32, 2, 16, 256, 4, 16, 12, 8, 250, 64]))) ∧
    exec (.keepalive tag) s = .next (answered s 0x31 tag .ok .none) ∧
    (∀ kind, exec (.unknownRequest kind tag) s = .next (answered s kind tag .unknownRequest .none))

/-! ## The crew -/

/-- ENROLL_TRUCK (R2): DUPLICATE before TABLE_FULL; otherwise a fresh record, and nothing else but the reply. -/
def Obligations.EnrollTruckCreatesFreshRecord : Prop :=
  ∀ (s : State) (tag m : Nat), Ready s →
    let n := clamp 1 999 m
    if (truckOf s n).isSome = true then Refuses (.enrollTruck tag m) s .duplicate
    else if 64 ≤ s.trucks.length then Refuses (.enrollTruck tag m) s .tableFull
    else ∃ t u, exec (.enrollTruck tag m) s = .next u ∧
      truckOf u n = some t ∧ t.num = n ∧ t.reach = .absent ∧ t.miss = 0 ∧ t.zone = none ∧ t.lastHeard = none ∧
      t.w1 = t.w2 ∧ t.w1.state = .idle ∧ t.w1.staged = none ∧ t.w1.alarm = none ∧ t.w1.deadline = none ∧
      t.w1.set = { timer := .interval, alarm := .latched, interval := 900, lead := 120, task := 3600, still := 120 } ∧
      t.orderSlots = [] ∧ t.permitSlots = [] ∧ t.queue = [] ∧ t.seqCtr = 0 ∧ t.upAcks = [] ∧
      (∀ k, k ≠ n → truckOf u k = truckOf s k) ∧ u.trucks.length = s.trucks.length + 1 ∧
      u = { answered s 0x01 tag (if n = m then .ok else .clamped) (if n = m then .none else .truckNumber n) with
        trucks := u.trucks }

/-- REMOVE_TRUCK (R14 to R16): refused while a permit slot is held or a context is in ALARM. Otherwise the record goes
with its contexts and queue; a turn in flight for it is abandoned and its cycle-list entries name it no more; each
order of its slots, in slot order, that is OFFERED to ON_SITE with it returns to QUEUED with its notice and rolls
over, and every other order is left. That the offer time of an order it had taken is kept is an inference
(notes/assumptions/30.md). -/
def Obligations.RemoveTruckFreesRecord : Prop :=
  (∀ (s : State) (tag n : Nat), Ready s →
    match truckOf s n with
    | none => Refuses (.removeTruck tag n) s .notFound
    | some t =>
      if t.permitSlots ≠ [] then Refuses (.removeTruck tag n) s .inUse
      else if t.w1.state = .alarm ∨ t.w2.state = .alarm then Refuses (.removeTruck tag n) s .inUse
      else ∃ u v, exec (.removeTruck tag n) s = .next (settleEvent u) ∧
        u = t.orderSlots.foldl (orderLosesTruck n) v ∧
        (∀ m, truckOf v m = if m = n then none else truckOf s m) ∧
        v = { answered s 0x02 tag .ok .none with
          trucks := v.trucks
          air := { s.air with
            list := s.air.list.map fun e => if e.truck = n then { e with live := false } else e
            turn := s.air.turn.map fun x => if x.truck = n then { x with abandoned := true } else x } } ∧
        u.port.buffer = s.port.buffer ++ [{ kind := 0x02, tag := tag, code := .ok, body := .none }] ∧
        truckOf u n = none ∧
        (∀ k a, k ≠ n → truckOf s k = some a → ∃ b, truckOf u k = some b ∧
          b = { a with orderSlots := b.orderSlots, queue := b.queue, seqCtr := b.seqCtr }) ∧
        (∀ m o, orderOf s m = some o →
          if m ∈ t.orderSlots ∧ o.assigned = some n ∧ (o.state = .offered ∨ o.state.isTaken = true) then
            ∃ o', orderOf u m = some o' ∧ o'.assigned ≠ some n ∧ (o'.state = .queued ∨ o'.state = .offered)
          else orderOf u m = some o) ∧
        (∀ x, s.air.turn = some x → u.air.turn = some { x with abandoned := x.abandoned || x.truck == n }) ∧
        (s.air.turn = none → u.air.turn = none) ∧
        u.air.list = s.air.list.map (fun e => if e.truck = n then { e with live := false } else e) ∧
        u = { s with
          port := u.port, sup := (armWindow s).sup, trucks := u.trucks, orders := u.orders
          air := { s.air with turn := u.air.turn, list := u.air.list }, askArb := u.askArb }) ∧
  (∀ (a : State) (n m : Nat),
    match orderOf a m with
    | none => orderLosesTruck n a m = a
    | some o =>
      if o.assigned = some n ∧ (o.state = .offered ∨ o.state = .accepted ∨ o.state = .enRoute ∨ o.state = .onSite) then
        ∃ w, orderLosesTruck n a m = rollover w m ∧
          orderOf w m = some { o with
            state := .queued, assigned := none, offerTime := if o.state = .offered then none else o.offerTime
            offerExpiry := none } ∧
          (∀ k, k ≠ m → orderOf w k = orderOf a k) ∧
          w = { posted a [.orderState m .queued none] with orders := w.orders }
      else orderLosesTruck n a m = a)

/-- QUERY_TRUCK, QUERY_ORDER, QUERY_PERMIT, QUERY_POINT and QUERY_QUEUE (R3, R36, R87, R111, R130): NOT_FOUND for a number
that names no record; otherwise the record's fields, and nothing changes but the reply. -/
def Obligations.TableQueriesReportRecord : Prop :=
  ∀ (s : State) (tag n : Nat), Ready s →
    (match truckOf s n with
      | none => Refuses (.queryTruck tag n) s .notFound
      | some t => exec (.queryTruck tag n) s = .next (answered s 0x03 tag .ok (.truck
          { num := t.num, reach := t.reach, miss := t.miss, zone := t.zone, lastHeard := stampOpt s t.lastHeard
            orderSlots := t.orderSlots, permitSlots := t.permitSlots
            ctx1 := (t.w1.state, t.w1.set.timer, t.w1.set.alarm), ctx2 := (t.w2.state, t.w2.set.timer, t.w2.set.alarm)
            queued := t.queue.length }))) ∧
    (match orderOf s n with
      | none => Refuses (.queryOrder tag n) s .notFound
      | some o => exec (.queryOrder tag n) s = .next (answered s 0x09 tag .ok (.order
          { num := o.num, prio := o.prio, loc := o.loc, desc := o.desc, state := o.state, assigned := o.assigned
            cands := o.cands, tried := o.tried, profile := o.profile, linked := o.linked
            offerTime := stampOpt s o.offerTime
            remaining := if o.state = .offered then o.offerExpiry.map (· - s.now) else none }))) ∧
    (match permitOf s n with
      | none => Refuses (.queryPermit tag n) s .notFound
      | some p => exec (.queryPermit tag n) s = .next (answered s 0x16 tag .ok (.permit
          { num := p.num, holder := p.holder, linked := p.linked, state := p.state
            issueTime := stampOpt s p.issueTime, causes := p.causes, iso := p.iso, rest := p.rest
            record := (recOf s p.holder (.permit p.num)).map Rec.inFlight
            asked := s.asks.any fun a => a.permit == p.num }))) ∧
    (match pointOf s n with
      | none => Refuses (.queryPoint tag n) s .notFound
      | some q => ∃ v, exec (.queryPoint tag n) s = .next (answered s 0x1B tag .ok (.point
          { num := q.num, position := q.position, refCount := q.refCount, holds := q.holds, busy := q.busy
            verifying := v })) ∧
          ∀ b : BusyMark, b ∈ v ↔ ∃ p ∈ s.permits, p.num = b.permit ∧ ∃ x, (b.step, x) ∈ p.steps ∧ x.point = q.num ∧
            x.action = .verify ∧ (x.state = .answered ∨ x.state = .executing)) ∧
    (match truckOf s n with
      | none => Refuses (.queryQueue tag n) s .notFound
      | some t => exec (.queryQueue tag n) s = .next (answered s 0x1E tag .ok (.queue
          { seqCtr := t.seqCtr, budget := s.air.budget, leading := leading s.air.budget t.queue
            recs := t.queue.map fun r =>
              { subject := r.subject, urgent := r.urgent, units := r.content.units, seq := r.seq
                attempts := r.attempts, inFlight := r.inFlight, entry := stamp s r.entry
                discard := stampOpt s r.discard, origin := r.origin, summary := r.content.summary } })))

/-- QUERY_PENDING, QUERY_AIR, QUERY_SITES, QUERY_ZONE, QUERY_LOAD and QUERY_SUPERVISION report what is held and change
nothing (R98, R148, R160, R170, R173). QUERY_SITES reports the home site first; QUERY_LOAD's busy time holds the carrier
time of an open interval so far, shown with no counted frame in it and with one (of a frame that ends at this very moment
the order is free: notes/assumptions/14.md). That the milliseconds left in the open window run to the window's end while
its OPEN frame is still on the air, where R148 states no value, is the model's choice (notes/assumptions/47.md). -/
def Obligations.StateQueriesChangeNothing : Prop :=
  ∀ (s : State) (tag : Nat), Ready s →
    (∃ l : List AskReport, exec (.queryPending tag) s = .next (answered s 0x18 tag .ok (.asks l)) ∧ l.length = s.asks.length ∧
      ∀ (i : Nat) (a : Ask) (r : AskReport), s.asks[i]? = some a → l[i]? = some r →
        r.permit = a.permit ∧ r.step = a.step ∧ r.holder = a.holder ∧ r.askTime = stamp s a.askTime ∧
        r.expiry = stamp s a.expiry ∧ r.remaining = a.expiry - s.now ∧
        ∀ x, stepIn s a.permit a.step = some x → r.point = some x.point ∧ r.action = some x.action) ∧
    (∃ r : AirReport, exec (.queryAir tag) s = .next (answered s 0x20 tag .ok (.air r)) ∧
      r.rate = s.air.rate ∧ r.replyWindow = s.air.replyWindow ∧ r.slots = s.air.slots ∧ r.budget = s.air.budget ∧
      r.rateWaiting = s.air.rateWaiting ∧ r.phase = s.air.phase ∧ r.cycle = s.air.cycle ∧
      r.startTime = stamp s (s.air.startTime / 1000) ∧ r.nextStart = stamp s (s.air.nextStart / 1000) ∧
      r.list = s.air.list.map ListEntry.truck ∧ (r.turn.isSome = s.air.turn.isSome) ∧
      (∀ x, s.air.turn = some x → ∃ y, r.turn = some y ∧ y.truck = x.truck ∧ y.kind = x.kind ∧ y.route = x.route ∧
        y.abandoned = x.abandoned ∧ y.opening = (x.winOpen : Int) - (s.nowMs : Int) ∧
        y.closing = (x.winClose : Int) - (s.nowMs : Int)) ∧
      (s.air.phase = .window → r.window = some (s.air.winSlots, s.air.winEnd - s.nowMs)) ∧
      (s.air.phase ≠ .window → r.window = none) ∧
      r.overruns = s.air.overruns ∧ r.missedTurns = s.air.missedTurns ∧ r.rejected = s.air.rejected ∧
      r.skipped = s.air.skipped) ∧
    (∃ l : List SiteReport, exec (.querySites tag) s = .next (answered s 0x25 tag .ok (.sites s.policy l)) ∧
      l.length = s.sites.length + 1 ∧
      l[0]? = some { state := .up, parent := none, range := some (1, 250), hop := none, timeout := none
                     lastBeacon := none, remaining := none, trucks := 0 } ∧
      ∀ (i : Nat) (x : Site) (r : SiteReport), s.sites[i]? = some x → l[i + 1]? = some r →
        r.state = x.state ∧ r.parent = some x.parent ∧ r.range = x.range ∧ r.hop = some x.hop ∧
        r.timeout = some x.timeout ∧ r.lastBeacon = stampOpt s x.lastBeacon ∧
        r.remaining = (if x.state = .up then x.lastBeacon.map fun b => b + x.timeout - s.now else none) ∧
        r.trucks = (s.trucks.filter fun t => (routeOf s t).contains x.num).length) ∧
    (∀ z, 1 ≤ z → z ≤ 250 → exec (.queryZone tag z) s = .next (answered s 0x26 tag .ok (.zone
      { grace := graceOf s z, serving := servingSite s z, route := routeOfZone s z
        passesDown := (routeOfZone s z).any (isDown s)
        trucks := (s.trucks.filter fun t => t.zone == some z).map Truck.num }))) ∧
    (∀ z, z = 0 ∨ 250 < z → Refuses (.queryZone tag z) s .notFound) ∧
    (∃ r : LoadReport, exec (.queryLoad tag) s = .next (answered s 0x29 tag .ok (.load r)) ∧
      r.level = s.load.level ∧ r.band = s.load.band ∧ r.sample = s.load.sample ∧
      r.left = s.load.periodStart + 10000 - s.nowMs ∧ r.carrierOn = s.load.carrier.isSome ∧ r.thr = s.load.thr ∧
      r.thrStaged = s.load.thrStaged ∧ r.table = s.load.table ∧ r.staged = s.load.staged ∧
      r.busy = (s.load.settle s.nowMs).busy + (s.load.settle s.nowMs).carrierTime s.nowMs ∧
      ((∀ x ∈ s.load.sent, s.nowMs < x.hi) →
        (s.load.carrier = none → r.busy = s.load.busy) ∧
        (∀ since, s.load.carrier = some since → s.load.covers = [] →
          r.busy = s.load.busy + (s.nowMs - max since s.load.periodStart)) ∧
        (∀ since x, s.load.carrier = some since → s.load.covers = [x] → max since s.load.periodStart ≤ x.lo →
          x.lo ≤ x.hi → x.hi ≤ s.nowMs →
          r.busy + (x.hi - x.lo) = s.load.busy + (s.nowMs - max since s.load.periodStart)))) ∧
    exec (.querySupervision tag) s = .next (answered s 0x2B tag .ok (.sup s.sup.mode s.sup.window s.sup.console
      (some (stamp s s.now))
      (if s.sup.mode = .off then s.sup.lapse.map (· - s.now) else some s.sup.window)))

/-! ## Work orders -/

/-- POST_ORDER (R19, R20): the fields brought within their limits; BAD_FIELD, DUPLICATE and TABLE_FULL in that order;
otherwise a QUEUED record with its ORDER_STATE behind the reply, and rollover. That a lead time stands up to the interval
less 1 and is brought to the interval less 10 from the interval on is an inference (notes/assumptions/46.md). -/
def Obligations.PostOrderCreatesQueuedOrder : Prop :=
  ∀ (s : State) (tag order prio : Nat) (loc desc : Text) (cands : List Nat) (profile : Option ProfileIn), Ready s →
    let c := Instr.postOrder tag order prio loc desc cands profile
    let n := max order 1
    if (profile.any fun p => decide (3 ≤ p.set.timer ∨ 3 ≤ p.set.alarm)) = true then Refuses c s .badField
    else if (orderOf s n).isSome = true then Refuses c s .duplicate
    else if 128 ≤ s.orders.length then Refuses c s .tableFull
    else ∃ code o v, exec c s = .next (settleEvent (rollover v n)) ∧
      orderOf v n = some o ∧
      o = { num := n, prio := clamp 1 4 prio, loc := loc.take 48, desc := desc.take 120, state := .queued
            assigned := none, cands := candidatesOf cands, tried := [], profile := o.profile, linked := none
            offerTime := none, offerExpiry := none } ∧
      o.cands = (dropRepeats (cands.map (clamp 1 999))).take 4 ∧ o.cands.Nodup ∧ o.cands.length ≤ 4 ∧
      (∀ k ∈ o.cands, ∃ j ∈ cands, k = clamp 1 999 j) ∧
      (profile = none → o.profile = none) ∧
      (∀ p, profile = some p → ∃ q, o.profile = some q ∧ q.seat = clamp 1 2 p.seat ∧
        settingsOf p.set = some q.set ∧ timerOf p.set.timer = some q.set.timer ∧
        alarmOf p.set.alarm = some q.set.alarm ∧ q.set.interval = clamp 60 3600 p.set.interval ∧
        q.set.task = clamp 300 28800 p.set.task ∧ q.set.still = clamp 30 900 p.set.still ∧
        q.set.lead = (if q.set.interval ≤ clamp 10 600 p.set.lead then q.set.interval - 10
          else clamp 10 600 p.set.lead)) ∧
      (code = .ok ∨ code = .clamped) ∧
      (code = .ok ↔ n = order ∧ o.prio = prio ∧ o.loc = loc ∧ o.desc = desc ∧ o.cands = cands ∧
        ∀ p q, profile = some p → o.profile = some q → q.seat = p.seat ∧ q.set.interval = p.set.interval ∧
          q.set.lead = p.set.lead ∧ q.set.task = p.set.task ∧ q.set.still = p.set.still) ∧
      (∀ m, m ≠ n → orderOf v m = orderOf s m) ∧
      v = { posted (answered s 0x04 tag code .none) [.orderState n .queued none] with orders := v.orders }

/-- An offer (R22) and rollover (R23). An offer that the truck's slots and queue can take makes the order OFFERED to
it, takes a slot and places the ORDER record, an update in place where one stands. Where the queue cannot take the
record the offer fails in its event: OFFERED and QUEUED again with their notices, the truck tried, its slot freed, no
record. Rollover offers the order to the first eligible candidate in list order, and where that offer fails goes on
with the others; with none it posts NO_TAKER; without candidates it does nothing. The content of an ORDER record is the
order as the truck should hold it, its state for OFFER and HELD alone, and an update keeps the note of the record it
replaces (R24). -/
def Obligations.RolloverOffersFirstEligible : Prop :=
  (∀ (o : Order) (d : Disposition) (note : Bool), orderContent o d note =
    { num := o.num, disp := d, state := if d = .offer ∨ d = .held then some o.state else none, prio := o.prio
      loc := o.loc, desc := o.desc, linked := o.linked, permitOpen := note }) ∧
  (∀ (s : State) (n t : Nat) (o : Order) (k : Truck), orderOf s n = some o → truckOf s t = some k →
    (n ∈ k.orderSlots ∨ k.orderSlots.length < 4) →
    ((recFor k.queue (.order n)).isSome = true ∨ k.queue.length < 12) →
    ∃ u o' k' r, makeOffer s n t = u ∧ orderOf u n = some o' ∧
      o' = { o with
        state := .offered, assigned := some t, offerTime := some s.now, offerExpiry := some (s.now + s.timeouts.offer)
        tried := if t ∈ o.cands ∧ t ∉ o.tried then o.tried ++ [t] else o.tried } ∧
      (∀ m, m ≠ n → orderOf u m = orderOf s m) ∧
      truckOf u t = some k' ∧ k' = { k with orderSlots := k'.orderSlots, queue := k'.queue, seqCtr := k'.seqCtr } ∧
      k'.orderSlots = (if n ∈ k.orderSlots then k.orderSlots else k.orderSlots ++ [n]) ∧
      recFor k'.queue (.order n) = some r ∧ r.attempts = 0 ∧ r.inFlight = false ∧
      r.content = .order
        { num := n, disp := .offer, state := some .offered, prio := o.prio, loc := o.loc, desc := o.desc
          linked := o.linked
          permitOpen := (recFor k.queue (.order n)).any fun a => match a.content with
            | .order b => b.permitOpen
            | _ => false } ∧
      (∀ x, x ≠ .order n → recFor k'.queue x = recFor k.queue x) ∧
      (∀ m, m ≠ t → truckOf u m = truckOf s m) ∧
      u = { post s (.orderState n .offered (some t)) with trucks := u.trucks, orders := u.orders, askArb := u.askArb }) ∧
  (∀ (s : State) (n : Nat) (o : Order), orderOf s n = some o →
    (∀ t, eligible s n t = true ↔ ∃ k, truckOf s t = some k ∧ k.reach = .reachable ∧
      (n ∈ k.orderSlots ∨ k.orderSlots.length < 4) ∧
      (∀ w, w = k.w1 ∨ w = k.w2 → w.state = .alarm → w.set.alarm = .reportOnly) ∧ t ∉ o.tried) ∧
    (o.cands = [] → rollover s n = s) ∧
    (o.cands ≠ [] → (∀ t ∈ o.cands, eligible s n t = false) → rollover s n = post s (.noTaker n o.prio)) ∧
    (∀ l1 t l2, o.cands = l1 ++ t :: l2 → (∀ k ∈ l1, eligible s n k = false) → eligible s n t = true →
      rollover s n = if canGive s t (.order n) = true then makeOffer s n t else rollover (makeOffer s n t) n)) ∧
  (∀ (s : State) (n t : Nat) (o : Order) (k : Truck), orderOf s n = some o → truckOf s t = some k →
    recFor k.queue (.order n) = none → 12 ≤ k.queue.length →
    ∃ u, makeOffer s n t = u ∧
      orderOf u n = some { o with
        state := .queued, assigned := none, offerTime := none, offerExpiry := none
        tried := if t ∈ o.cands ∧ t ∉ o.tried then o.tried ++ [t] else o.tried } ∧
      (∀ m, m ≠ n → orderOf u m = orderOf s m) ∧
      truckOf u t = some { k with orderSlots := k.orderSlots.filter (· != n) } ∧
      (∀ m, m ≠ t → truckOf u m = truckOf s m) ∧
      u = { posted s [.orderState n .offered (some t), .orderState n .queued none] with
        trucks := u.trucks, orders := u.orders })

/-- ASSIGN_ORDER (R21, R22): its checks in their order, then the offer, whatever the truck's reachability.
RETIRE_ORDER (R35): its checks; the record gone, every ORDER record for it gone from every queue with the slot of
that truck, and the linked permit's link cleared; no notice. That a slot held without a standing record stays is an
inference (notes/assumptions/34.md). -/
def Obligations.AssignAndRetireOrder : Prop :=
  (∀ (s : State) (tag n t : Nat), Ready s →
     match orderOf s n with
     | none => Refuses (.assignOrder tag n t) s .notFound
     | some o =>
       if o.state ≠ .queued then Refuses (.assignOrder tag n t) s .wrongState
       else
         match truckOf s t with
         | none => Refuses (.assignOrder tag n t) s .notFound
         | some k =>
           if n ∉ k.orderSlots ∧ 4 ≤ k.orderSlots.length then Refuses (.assignOrder tag n t) s .limit
           else if (k.w1.state = .alarm ∧ k.w1.set.alarm ≠ .reportOnly) ∨
               (k.w2.state = .alarm ∧ k.w2.set.alarm ≠ .reportOnly) then Refuses (.assignOrder tag n t) s .crewAlarm
           else if (recFor k.queue (.order n)).isNone = true ∧ 12 ≤ k.queue.length then
             Refuses (.assignOrder tag n t) s .queueFull
           else exec (.assignOrder tag n t) s = .next (settleEvent (makeOffer (answered s 0x05 tag .ok .none) n t))) ∧
  (∀ (s : State) (tag n : Nat), Ready s →
     match orderOf s n with
     | none => Refuses (.retireOrder tag n) s .notFound
     | some o =>
       if o.state ≠ .complete ∧ o.state ≠ .cancelled then Refuses (.retireOrder tag n) s .wrongState
       else ∃ u, exec (.retireOrder tag n) s = .next u ∧
         orderOf u n = none ∧ (∀ m, m ≠ n → orderOf u m = orderOf s m) ∧
         (∀ k a, truckOf s k = some a → ∃ b, truckOf u k = some b ∧ recFor b.queue (.order n) = none ∧
           (∀ x, x ≠ .order n → recFor b.queue x = recFor a.queue x) ∧
           b.orderSlots = (if (recFor a.queue (.order n)).isSome = true then a.orderSlots.filter (· != n)
             else a.orderSlots) ∧
           b = { a with queue := b.queue, orderSlots := b.orderSlots }) ∧
         (∀ p q, o.linked = some p → permitOf s p = some q → permitOf u p = some { q with linked := none }) ∧
         (∀ p, o.linked ≠ some p → permitOf u p = permitOf s p) ∧
         u = { answered s 0x08 tag .ok .none with trucks := u.trucks, orders := u.orders, permits := u.permits })

/-- CHANGE_ORDER (R33): its checks; the order's new fields; where a priority or a text is given for an order with a
truck, the ORDER record in that truck's queue under its own disposition and note, or a new one if there is room; a new
candidate list sends a QUEUED order into rollover; OK exactly where no value given was changed. That a value given counts
as a change even where it is equal, and that order number 0 is not clamped, are the model's readings
(notes/assumptions/21.md and 41.md). -/
def Obligations.ChangeOrderUpdatesOrderAndRecord : Prop :=
  ∀ (s : State) (tag n : Nat) (prio : Option Nat) (loc desc : Option Text) (cands : Option (List Nat))
    (profile : Option ProfileIn) (remove : Bool), Ready s →
    let c := Instr.changeOrder tag n prio loc desc cands profile remove
    if (profile.any fun p => decide (remove = true ∨ 3 ≤ p.set.timer ∨ 3 ≤ p.set.alarm)) = true then
      Refuses c s .badField
    else
      match orderOf s n with
      | none => Refuses c s .notFound
      | some o =>
        if o.state = .complete ∨ o.state = .cancelled then Refuses c s .wrongState
        else ∃ code v o', (code = .ok ∨ code = .clamped) ∧
          (code = .ok ↔ (∀ x, prio = some x → clamp 1 4 x = x) ∧ (∀ x, loc = some x → x.length ≤ 48) ∧
            (∀ x, desc = some x → x.length ≤ 120) ∧ (∀ x, cands = some x → candidatesOf x = x) ∧
            ∀ p q, profile = some p → o'.profile = some q → q.seat = p.seat ∧ q.set.interval = p.set.interval ∧
              q.set.lead = p.set.lead ∧ q.set.task = p.set.task ∧ q.set.still = p.set.still) ∧
          exec c s = .next (settleEvent (if cands.isSome = true ∧ o.state = .queued then rollover v n else v)) ∧
          orderOf v n = some o' ∧
          o' = { o with
            prio := (prio.map (clamp 1 4)).getD o.prio, loc := (loc.map (List.take 48)).getD o.loc
            desc := (desc.map (List.take 120)).getD o.desc, cands := (cands.map candidatesOf).getD o.cands
            tried :=
              if cands.isSome = true then
                (match o.assigned with
                 | some t => if t ∈ o'.cands then [t] else []
                 | none => [])
              else o.tried
            profile := o'.profile } ∧
          (remove = true → o'.profile = none) ∧
          (remove = false → profile = none → o'.profile = o.profile) ∧
          (∀ p, profile = some p → ∃ q, o'.profile = some q ∧ q.seat = clamp 1 2 p.seat ∧
            settingsOf p.set = some q.set) ∧
          (∀ m, m ≠ n → orderOf v m = orderOf s m) ∧
          (∀ t, o.assigned ≠ some t → truckOf v t = truckOf s t) ∧
          (o.state = .queued ∨ (prio = none ∧ loc = none ∧ desc = none) → v.trucks = s.trucks) ∧
          (∀ t k, o.state ≠ .queued → (prio.isSome = true ∨ loc.isSome = true ∨ desc.isSome = true) →
            o.assigned = some t → truckOf s t = some k →
            if (recFor k.queue (.order n)).isNone = true ∧ 12 ≤ k.queue.length then truckOf v t = some k
            else ∃ k' r d note, truckOf v t = some k' ∧ recFor k'.queue (.order n) = some r ∧
              r.content = .order (orderContent o' d note) ∧ r.attempts = 0 ∧ r.inFlight = false ∧
              (∀ a b, recFor k.queue (.order n) = some a → a.content = .order b → d = b.disp ∧ note = b.permitOpen) ∧
              (recFor k.queue (.order n) = none →
                d = (if o.state = .offered then .offer else .held) ∧ note = false) ∧
              (∀ x, x ≠ .order n → recFor k'.queue x = recFor k.queue x) ∧
              k' = { k with queue := k'.queue, seqCtr := k'.seqCtr }) ∧
          v = { answered s 0x06 tag code .none with trucks := v.trucks, orders := v.orders, askArb := v.askArb }

/-- CANCEL_ORDER (R32, R31): its checks; the order CANCELLED with its notice; an undelivered offer removed with its slot,
otherwise a CANCELLED record for the assigned truck, or the slot freed where there is no room; then the contexts the order
started are stopped. -/
def Obligations.CancelOrderTellsAssignedTruck : Prop :=
  ∀ (s : State) (tag n : Nat), Ready s →
    match orderOf s n with
    | none => Refuses (.cancelOrder tag n) s .notFound
    | some o =>
      if o.state = .complete ∨ o.state = .cancelled then Refuses (.cancelOrder tag n) s .wrongState
      else if ((o.linked.bind (permitOf s)).any fun p => p.state.isOpen) = true then
        Refuses (.cancelOrder tag n) s .permitOpen
      else ∃ u v, exec (.cancelOrder tag n) s = .next (settleEvent u) ∧
        orderOf u n = some { o with state := .cancelled, offerExpiry := none } ∧
        (∀ m, m ≠ n → orderOf u m = orderOf s m) ∧
        v = { posted (answered s 0x07 tag .ok .none) [.orderState n .cancelled o.assigned] with
          trucks := v.trucks, orders := v.orders, askArb := v.askArb } ∧
        (o.assigned = none → u = v ∧ v.trucks = s.trucks) ∧
        (∀ t, o.assigned = some t → u = stopForOrder v t n ∧ (∀ m, m ≠ t → truckOf v m = truckOf s m) ∧
          ∀ k, truckOf s t = some k →
            if (recFor k.queue (.order n)).isSome = true ∧ o.state = .offered then
              ∃ k', truckOf v t = some k' ∧ recFor k'.queue (.order n) = none ∧
                k'.orderSlots = k.orderSlots.filter (· != n) ∧
                (∀ x, x ≠ .order n → recFor k'.queue x = recFor k.queue x) ∧
                k' = { k with queue := k'.queue, orderSlots := k'.orderSlots }
            else if (recFor k.queue (.order n)).isSome = true ∨ k.queue.length < 12 then
              ∃ k' r note, truckOf v t = some k' ∧ recFor k'.queue (.order n) = some r ∧
                r.content = .order { num := n, disp := .cancelled, state := none, prio := o.prio, loc := o.loc
                                     desc := o.desc, linked := o.linked, permitOpen := note } ∧
                (∀ x, x ≠ .order n → recFor k'.queue x = recFor k.queue x) ∧
                k' = { k with queue := k'.queue, seqCtr := k'.seqCtr }
            else truckOf v t = some { k with orderSlots := k.orderSlots.filter (· != n) })

/-- The five replies of a truck to an order (R26 to R29). A number that names no order posts ORDER_IGNORED. ACCEPT of a
standing offer takes the order; a repeat changes nothing; any other posts LATE_ACCEPT and, where no record for the order
stands and there is a slot and room, tells the truck WITHDRAWN or CANCELLED. DECLINE of a standing offer returns the order
to QUEUED and rolls it over. EN_ROUTE and ON_SITE move it forward only, and ON_SITE applies the watch profile. COMPLETE is
blocked while the linked permit is open, which the truck is told where there is room (R29); otherwise it ends the order and stops the contexts the order started. -/
def Obligations.OrderRepliesMoveOrder : Prop :=
  (∀ (s : State) (n t : Nat) (c : ReplyCode), orderOf s n = none →
    orderReply s n t c = post s (.orderIgnored n t c)) ∧
  (∀ (s : State) (n t : Nat) (o : Order) (k : Truck), orderOf s n = some o → truckOf s t = some k →
    let ignored (c : ReplyCode) : Prop := orderReply s n t c = post s (.orderIgnored n t c)
    let taken : Prop := o.state = .accepted ∨ o.state = .enRoute ∨ o.state = .onSite
    let told (u : State) (d : Disposition) (st : Option OrderState) (note : Bool) (slots : List Nat) : Prop :=
      ∃ k' r, truckOf u t = some k' ∧ recFor k'.queue (.order n) = some r ∧ r.attempts = 0 ∧ r.inFlight = false ∧
        r.content = .order { num := n, disp := d, state := st, prio := o.prio, loc := o.loc, desc := o.desc
                             linked := o.linked, permitOpen := note } ∧
        (∀ x, x ≠ .order n → recFor k'.queue x = recFor k.queue x) ∧ (∀ m, m ≠ t → truckOf u m = truckOf s m) ∧
        k' = { k with queue := k'.queue, seqCtr := k'.seqCtr, orderSlots := slots }
    let held (u : State) (st : OrderState) : Prop :=
      (recFor k.queue (.order n) = none → u.trucks = s.trucks) ∧
      (∀ a b, recFor k.queue (.order n) = some a → a.content = .order b → told u .held (some st) b.permitOpen k.orderSlots)
    let dropped (u : State) : Prop :=
      truckOf u t = some { k with
        queue := k.queue.filter fun r => r.content.subject != .order n
        orderSlots := k.orderSlots.filter (· != n) } ∧
      ∀ m, m ≠ t → truckOf u m = truckOf s m
    (if o.assigned = some t ∧ o.state = .offered then
      ∃ u, orderReply s n t .accept = u ∧ orderOf u n = some { o with state := .accepted, offerExpiry := none } ∧
        (∀ m, m ≠ n → orderOf u m = orderOf s m) ∧ held u .accepted ∧
        u = { posted s [.orderState n .accepted (some t)] with
          orders := u.orders, trucks := u.trucks, askArb := u.askArb }
     else if o.assigned = some t ∧ (o.state.isTaken = true ∨ o.state = .complete) then orderReply s n t .accept = s
     else if (recFor k.queue (.order n)).isSome = true ∨ (n ∉ k.orderSlots ∧ 4 ≤ k.orderSlots.length) ∨
         12 ≤ k.queue.length then orderReply s n t .accept = post s (.lateAccept n t o.state o.assigned)
     else ∃ u, orderReply s n t .accept = u ∧
       told u (if o.state = .cancelled then .cancelled else .withdrawn) none false
         (if n ∈ k.orderSlots then k.orderSlots else k.orderSlots ++ [n]) ∧
       u = { posted s [.lateAccept n t o.state o.assigned] with trucks := u.trucks, askArb := u.askArb }) ∧
    (if o.assigned = some t ∧ o.state = .offered then
      ∃ v, orderReply s n t .decline = rollover v n ∧
        orderOf v n = some { o with state := .queued, assigned := none, offerTime := none, offerExpiry := none } ∧
        (∀ m, m ≠ n → orderOf v m = orderOf s m) ∧ dropped v ∧
        v = { posted s [.orderState n .queued none] with orders := v.orders, trucks := v.trucks }
     else ignored .decline) ∧
    (∀ st c, (st = .enRoute ∧ c = .enRoute) ∨ (st = .onSite ∧ c = .onSite) →
      (o.assigned = some t → o.state = .accepted ∨ (o.state = .enRoute ∧ st = .onSite) →
        ∃ u, orderOf u n = some { o with state := st } ∧ (∀ m, m ≠ n → orderOf u m = orderOf s m) ∧ held u st ∧
          u = { posted s [.orderState n st (some t)] with
            orders := u.orders, trucks := u.trucks, askArb := u.askArb } ∧
          (st = .enRoute ∨ o.profile = none → orderReply s n t c = u) ∧
          (∀ p, st = .onSite → o.profile = some p → orderReply s n t c = applyProfile u t n p)) ∧
      (o.assigned = some t → o.state = st → orderReply s n t c = s) ∧
      (o.assigned ≠ some t ∨ ¬taken ∨ (o.state = .onSite ∧ st = .enRoute) → ignored c)) ∧
    (if o.assigned = some t ∧ o.state.isTaken = true then
      if ((o.linked.bind (permitOf s)).any fun p => p.state.isOpen) = true then
        ∃ u p, o.linked.bind (permitOf s) = some p ∧ orderReply s n t .complete = u ∧
          u = { posted s [.completeBlocked n t p.num p.state] with trucks := u.trucks, askArb := u.askArb } ∧
          ((recFor k.queue (.order n)).isSome = true ∨ k.queue.length < 12 → told u .held (some o.state) true k.orderSlots) ∧
          (recFor k.queue (.order n) = none → 12 ≤ k.queue.length → u.trucks = s.trucks)
      else ∃ v, orderReply s n t .complete = stopForOrder v t n ∧
        orderOf v n = some { o with state := .complete } ∧ (∀ m, m ≠ n → orderOf v m = orderOf s m) ∧ dropped v ∧
        v = { posted s [.orderState n .complete (some t)] with orders := v.orders, trucks := v.trucks }
     else if o.assigned = some t ∧ o.state = .complete then orderReply s n t .complete = s
     else ignored .complete))

/-- SET_OFFER_TIMEOUT (R38): clamped to 30 to 600; applied to offers made after it, while offers standing keep their
expiry; 120 s after cold reset, kept by warm reset. -/
def Obligations.SetOfferTimeoutAppliesToLaterOffers : Prop :=
  (∀ (s : State) (tag v : Nat), Ready s →
    exec (.setOfferTimeout tag v) s = .next
      { answered s 0x0A tag (if 30 ≤ v ∧ v ≤ 600 then .ok else .clamped) .none with
        timeouts := { s.timeouts with offer := if v < 30 then 30 else if 600 < v then 600 else v } }) ∧
  (∀ (s : State) (n t : Nat) (o : Order), orderOf s n = some o → canGive s t (.order n) = true →
    ∃ o', orderOf (makeOffer s n t) n = some o' ∧ o'.offerExpiry = some (s.now + s.timeouts.offer)) ∧
  State.reset.timeouts.offer = 120 ∧
  (∀ s t : State, exec .warmReset s = .next t → t.timeouts.offer = s.timeouts.offer)

/-! ## Settings -/

/-- The settings requests that change one setting and nothing else but the reply: SET_DECISION_TIMEOUT (R100),
SET_ANSWER_DISCARD (R125), SET_AIR (R133: the rate waits for the next cycle start), SET_ZONE_GRACE (R159),
SET_LOAD_BANDS (R167: staged until the period end) and SET_BAND_ENTRY (R168: staged until a cycle start), with their
limits and refusals. -/
def Obligations.SettingsRequestsSetOneSetting : Prop :=
  ∀ (s : State) (tag : Nat), Ready s →
    (∀ v, exec (.setDecisionTimeout tag v) s = .next
      { answered s 0x19 tag (if 30 ≤ v ∧ v ≤ 600 then .ok else .clamped) .none with
        timeouts := { s.timeouts with decision := clamp 30 600 v } }) ∧
    (∀ v, exec (.setAnswerDiscard tag v) s = .next
      { answered s 0x1D tag (if 60 ≤ v ∧ v ≤ 1800 then .ok else .clamped) .none with
        timeouts := { s.timeouts with discard := clamp 60 1800 v } }) ∧
    (∀ rate window slots budget,
      match [4800, 9600, 19200][rate]? with
      | none => Refuses (.setAir tag rate window slots budget) s .badField
      | some r => exec (.setAir tag rate window slots budget) s = .next
          { answered s 0x1F tag
              (if 200 ≤ window ∧ window ≤ 2000 ∧ slots ≤ 8 ∧ 5 ≤ budget ∧ budget ≤ 12 then .ok else .clamped)
              (.airSettings r (clamp 200 2000 window) (clamp 0 8 slots) (clamp 5 12 budget)) with
            air := { s.air with
              rateWaiting := some r, replyWindow := clamp 200 2000 window, slots := clamp 0 8 slots
              budget := clamp 5 12 budget } }) ∧
    (∀ first last grace,
      let a := clamp 1 250 first
      let b := clamp 1 250 last
      let g := clamp 0 300 grace
      if b < a then Refuses (.setZoneGrace tag first last grace) s .badField
      else ∃ u, exec (.setZoneGrace tag first last grace) s = .next u ∧
        (∀ z, 1 ≤ z → z ≤ 250 → graceOf u z = if a ≤ z ∧ z ≤ b then g else graceOf s z) ∧
        u = { answered s 0x24 tag (if a = first ∧ b = last ∧ g = grace then .ok else .clamped) (.graces a b g) with
          graces := u.graces }) ∧
    (∀ t1 t2 t3 h,
      let x : Thresholds := { t1 := clamp 1 1000 t1, t2 := clamp 1 1000 t2, t3 := clamp 1 1000 t3, h := clamp 0 100 h }
      if x.t1 + x.h ≤ x.t2 ∧ x.t2 + x.h ≤ x.t3 ∧ x.t3 + x.h ≤ 1000 then
        exec (.setLoadBands tag t1 t2 t3 h) s = .next
          { answered s 0x27 tag (if x.t1 = t1 ∧ x.t2 = t2 ∧ x.t3 = t3 ∧ x.h = h then .ok else .clamped)
              (.bands x (stamp s ((s.load.periodStart + 10000) / 1000))) with
            load := { s.load with thrStaged := some x } }
      else Refuses (.setLoadBands tag t1 t2 t3 h) s .badOrder) ∧
    (∀ band interval allowance,
      let e : BandEntry := { interval := clamp 10 600 interval, allowance := clamp 0 120 allowance }
      if 3 < band then Refuses (.setBandEntry tag band interval allowance) s .badField
      else exec (.setBandEntry tag band interval allowance) s = .next
        { answered s 0x28 tag (if e.interval = interval ∧ e.allowance = allowance then .ok else .clamped)
            (.bandEntry e) with
          load := { s.load with staged := s.load.staged.set band (some e) } })

/-! ## Lone-worker watch -/

/-- SET_WATCH (R41): in force at once in IDLE, staged otherwise. QUERY_WATCH (R59): every field of the context, with the
seconds since the last contact and to the deadline, after which the context's event flags are empty. That a lead time
stands up to the interval less 1, which R46 bounds otherwise, is an inference (notes/assumptions/46.md). -/
def Obligations.SetAndQueryWatch : Prop :=
  ∀ (s : State) (tag n seat : Nat), Ready s →
    let k := clamp 1 2 seat
    (∀ x : SettingsIn,
      if 3 ≤ x.timer ∨ 3 ≤ x.alarm then Refuses (.setWatch tag n seat x) s .badField
      else
        match truckOf s n with
        | none => Refuses (.setWatch tag n seat x) s .notFound
        | some t => ∃ set code u, exec (.setWatch tag n seat x) s = .next u ∧
            set.interval = clamp 60 3600 x.interval ∧ set.task = clamp 300 28800 x.task ∧
            set.still = clamp 30 900 x.still ∧
            set.lead = (if set.interval ≤ clamp 10 600 x.lead then set.interval - 10 else clamp 10 600 x.lead) ∧
            timerOf x.timer = some set.timer ∧ alarmOf x.alarm = some set.alarm ∧
            (code = .ok ∨ code = .clamped) ∧
            (code = .ok ↔ k = seat ∧ set.interval = x.interval ∧ set.lead = x.lead ∧ set.task = x.task ∧
              set.still = x.still) ∧
            truckOf u n = some (t.withWatch k
              (if (t.watch k).state = .idle then { t.watch k with set := set }
               else { t.watch k with staged := some set })) ∧
            (∀ m, m ≠ n → truckOf u m = truckOf s m) ∧
            u = { answered s 0x0B tag code (.setWatch ((t.watch k).state != .idle)) with trucks := u.trucks }) ∧
    (match truckOf s n with
      | none => Refuses (.queryWatch tag n seat) s .notFound
      | some t =>
        let w := t.watch k
        ∃ u, exec (.queryWatch tag n seat) s = .next u ∧
          truckOf u n = some (t.withWatch k { w with
            flags := { warned := false, alarmed := false, contactAfterAlarm := false, stagedApplied := false } }) ∧
          (∀ m, m ≠ n → truckOf u m = truckOf s m) ∧
          u = { answered s 0x0F tag (if k = seat then .ok else .clamped) (.watch
              { seat := k, state := w.state, set := w.set, staged := w.staged
                lastContact := stampOpt s w.lastContact, startTime := stampOpt s w.startTime
                deadline := stampOpt s w.deadline, warnTime := w.warnTime.map (stampInt s), grace := w.grace
                allowance := w.allowance
                stillAcc :=
                  (match w.stillSince with
                   | some b => if w.set.timer = .stillness then w.stillAcc + (s.now - b) else w.stillAcc
                   | none => w.stillAcc)
                stillSince := stampOpt s w.stillSince, startedBy := w.startedBy, warnCount := w.warnCount
                flags := w.flags, alarm := w.alarm.map fun a => { a with raised := stamp s a.raised }
                elapsed := w.lastContact.map (s.now - ·), remaining := w.deadline.map (· - s.now) }) with
            trucks := u.trucks })

/-- START_WATCH (R43, R45, R46): its checks; the context in WATCH from now, with the deadline and warning time of its
timer mode, grace and allowance latched and their sum capped at half; WATCH_STATE START behind the reply. A warning
time not later than now is reached at once; that its WARN follows the WATCH_STATE is an inference
(notes/assumptions/17.md). The same computation stands for every start (Watch.compute). An order's profile handed over
at ON_SITE (R30) starts an IDLE context of its seat with the profile's set and the order as its starter, and is staged
in any other. The grace is that of the truck's zone, none without a zone, the
allowance that of the table entry of the band in force (R45, R169). A warning time before second 0 is the
model's choice (notes/assumptions/18.md). -/
def Obligations.StartWatchComputesDeadline : Prop :=
  (∀ (s : State) (e : BandEntry), s.load.table[s.load.band]? = some e → bandEntryInForce s = e) ∧
  (∀ (s : State) (t : Truck),
    (∀ z, t.zone = some z → truckGrace s t = graceOf s z) ∧ (t.zone = none → truckGrace s t = 0)) ∧
  (∀ (s : State) (tag n seat : Nat), Ready s →
    let k := clamp 1 2 seat
    match truckOf s n with
    | none => Refuses (.startWatch tag n seat) s .notFound
    | some t =>
      if (t.watch k).state ≠ .idle then Refuses (.startWatch tag n seat) s .wrongState
      else
        let w := t.watch k
        let g := match t.zone with
          | some z => graceOf s z
          | none => 0
        let a := (bandEntryInForce s).allowance
        let half := match w.set.timer with
          | .task => w.set.task
          | _ => w.set.interval
        let d := s.now + half + min (g + a) (half / 2)
        let w' : Watch :=
          if w.set.timer = .stillness then
            { w with
              state := .watch, lastContact := some s.now, startTime := some s.now, warnCount := 0, stillAcc := 0
              stillSince := none, startedBy := none, grace := 0, allowance := 0, deadline := none, warnTime := none }
          else
            { w with
              state := .watch, lastContact := some s.now, startTime := some s.now, warnCount := 0, stillAcc := 0
              stillSince := none, startedBy := none, grace := g, allowance := a, deadline := some d
              warnTime := some ((d : Int) - (w.set.lead : Int)) }
        ∃ u v, exec (.startWatch tag n seat) s = .next (settleEvent u) ∧
          truckOf v n = some (t.withWatch k w') ∧ (∀ m, m ≠ n → truckOf v m = truckOf s m) ∧
          v = { posted
              (answered s 0x0C tag (if k = seat then .ok else .clamped)
                (.started (stampOpt s w'.deadline) (w'.warnTime.map (stampInt s))))
              [.watchState n k .watch .start (stampOpt s w'.deadline) none] with trucks := v.trucks } ∧
          u = if w.set.timer ≠ .stillness ∧ (d : Int) - (w.set.lead : Int) ≤ (s.now : Int) then enterWarn v n k else v) ∧
  (∀ (g a now : Nat) (w : Watch),
    let half := if w.set.timer = .task then w.set.task else w.set.interval
    let d := now + half + min (g + a) (half / 2)
    Watch.compute g a now w =
      if w.set.timer = .stillness then { w with grace := 0, allowance := 0, deadline := none, warnTime := none }
      else { w with
        grace := g, allowance := a, deadline := some d, warnTime := some ((d : Int) - (w.set.lead : Int)) }) ∧
  (∀ (s : State) (n order : Nat) (p : Profile) (t : Truck), truckOf s n = some t → p.seat = 1 ∨ p.seat = 2 →
    let w := t.watch p.seat
    let w' := Watch.compute (truckGrace s t) (bandEntryInForce s).allowance s.now
      { w with
        set := p.set, state := .watch, lastContact := some s.now, startTime := some s.now, warnCount := 0
        stillAcc := 0, stillSince := none, startedBy := some order }
    ∃ u, (∀ m, m ≠ n → truckOf u m = truckOf s m) ∧
      if w.state = .idle then
        truckOf u n = some (t.withWatch p.seat w') ∧
        u = { posted s [.watchState n p.seat .watch .orderStart (stampOpt s w'.deadline) (some order)] with
          trucks := u.trucks } ∧
        applyProfile s n order p = if (w'.warnTime.any fun x => decide (x ≤ (s.now : Int))) = true then
          enterWarn u n p.seat else u
      else
        truckOf u n = some (t.withWatch p.seat { w with staged := some p.set }) ∧ u = { s with trucks := u.trucks } ∧
        applyProfile s n order p = u)

/-- STOP_WATCH (R44) and CLOSE_ALARM (R58): their checks; staged settings put in force, the context IDLE with its timers
gone and no start time (R54), the PROMPT of that kind for the seat out of the queue, and WATCH_STATE. CLOSE_ALARM keeps C,
the count and the flags but for STAGED_APPLIED, and brings the assist records up to date. An order that ends (R31) stops
the contexts it started, each as STOP_WATCH does in WATCH and WARN, and takes its name from one in ALARM. -/
def Obligations.StopAndCloseReturnToIdle : Prop :=
  (∀ (s : State) (tag n seat : Nat), Ready s →
    let k := clamp 1 2 seat
    let code : Result := if k = seat then .ok else .clamped
    match truckOf s n with
    | none => Refuses (.stopWatch tag n seat) s .notFound ∧ Refuses (.closeAlarm tag n seat) s .notFound
    | some t =>
      let w := t.watch k
      let set := w.staged.getD w.set
      let flags := if w.staged.isSome = true then { w.flags with stagedApplied := true } else w.flags
      let gone : PromptKind → Truck → Prop := fun kind t' =>
        recFor t'.queue (.prompt k) =
          (match recFor t.queue (.prompt k) with
           | some r => if r.content.summary = .prompt kind then none else some r
           | none => none) ∧
        ∀ x, x ≠ .prompt k → recFor t'.queue x = recFor t.queue x
      (if w.state = .watch ∨ w.state = .warn then
        ∃ u t', exec (.stopWatch tag n seat) s = .next u ∧ truckOf u n = some t' ∧
          t' = ({ t with queue := t'.queue }).withWatch k
            { w with
              set := set, staged := none, flags := flags, state := .idle, deadline := none, warnTime := none
              startTime := none, stillSince := none, stillAcc := 0, startedBy := none } ∧
          gone .due t' ∧ (∀ m, m ≠ n → truckOf u m = truckOf s m) ∧
          u = { posted (answered s 0x0D tag code .none) [.watchState n k .idle .stop none none] with
            trucks := u.trucks }
       else Refuses (.stopWatch tag n seat) s .wrongState) ∧
      (if w.state = .alarm then
        ∃ u t', exec (.closeAlarm tag n seat) s = .next (settleEvent (assistFor u n)) ∧ truckOf u n = some t' ∧
          t' = ({ t with queue := t'.queue }).withWatch k
            { w with
              set := set, staged := none, flags := flags, state := .idle, alarm := none, deadline := none
              warnTime := none, startTime := none, stillSince := none, stillAcc := 0, startedBy := none } ∧
          gone .alarmed t' ∧ (∀ m, m ≠ n → truckOf u m = truckOf s m) ∧
          u = { posted (answered s 0x0E tag code .none) [.watchState n k .idle .close none none] with
            trucks := u.trucks }
       else Refuses (.closeAlarm tag n seat) s .wrongState)) ∧
  (∀ (s : State) (n order : Nat),
    stopForOrder s n order = stopIfStarted (stopIfStarted s n 1 order) n 2 order) ∧
  (∀ (s : State) (n seat order : Nat) (t : Truck), truckOf s n = some t → seat = 1 ∨ seat = 2 →
    let w := t.watch seat
    (w.startedBy ≠ some order ∨ w.state = .idle → stopIfStarted s n seat order = s) ∧
    (w.startedBy = some order → w.state = .alarm → ∃ u, stopIfStarted s n seat order = u ∧
      truckOf u n = some (t.withWatch seat { w with startedBy := none }) ∧
      (∀ m, m ≠ n → truckOf u m = truckOf s m) ∧ u = { s with trucks := u.trucks }) ∧
    (w.startedBy = some order → w.state = .watch ∨ w.state = .warn → ∃ u t', stopIfStarted s n seat order = u ∧
      truckOf u n = some t' ∧
      t' = ({ t with queue := t'.queue }).withWatch seat
        { w with
          set := w.staged.getD w.set, staged := none, state := .idle, deadline := none, warnTime := none
          flags := if w.staged.isSome = true then { w.flags with stagedApplied := true } else w.flags
          startTime := none, stillSince := none, stillAcc := 0, startedBy := none } ∧
      recFor t'.queue (.prompt seat) =
        (match recFor t.queue (.prompt seat) with
         | some r => if r.content.summary = .prompt .due then none else some r
         | none => none) ∧
      (∀ x, x ≠ .prompt seat → recFor t'.queue x = recFor t.queue x) ∧
      (∀ m, m ≠ n → truckOf u m = truckOf s m) ∧
      u = { posted s [.watchState n seat .idle .orderStop none none] with trucks := u.trucks }))

/-- The items of a seat (R40, R42, R47 to R51, R54, R56, R57). Of a seat neither 1 nor 2, and in IDLE, nothing. A
CHECK_IN in INTERVAL mode puts the staged settings in force, computes the deadline anew, and takes a context in WARN
back to WATCH with its notice and its PROMPT DUE removed; in STILLNESS mode it does so with the running time afresh;
in TASK mode it moves the last contact alone; where the staged set changes the timer mode the context starts anew
under it, behind its return from WARN. TASK_DONE ends the task in TASK mode and is a CHECK_IN in the others. MOTION in
STILLNESS mode starts and stops the running time, a repeat moves the last contact alone, a MOVING at the deadline
finds it taken first, and in the other modes MOTION is ignored. In a LATCHED alarm every item is a contact and the
alarm stands; in the other alarm modes the context recovers, and then takes the item as in WATCH. An EMERGENCY raises
the alarm whatever the mode; a seat field neither 1 nor 2 is seat 1. Inferences of the model: a CHECK_IN that changes the
timer mode sets the last contact to now and keeps the warning count (notes/assumptions/16.md); a warning reached at once
is taken behind the notice of its event, at a recovery behind the assist lists and ahead of the item
(notes/assumptions/17.md). -/
def Obligations.SeatItemsActOnContext : Prop :=
  (∀ (s : State) (n seat : Nat) (item : ItemKind) (still : Bool), seat ≠ 1 → seat ≠ 2 →
    takeContact s n seat item still = s) ∧
  (∀ (s : State) (n seat : Nat) (t : Truck), truckOf s n = some t → seat = 1 ∨ seat = 2 →
    let w := t.watch seat
    let running : Prop := w.state = .watch ∨ w.state = .warn
    let set := w.staged.getD w.set
    let flags := if w.staged.isSome = true then { w.flags with stagedApplied := true } else w.flags
    let computed (x : Watch) : Watch := Watch.compute (truckGrace s t) (bandEntryInForce s).allowance s.now x
    let reached (x : Watch) : Prop := (x.warnTime.any fun y => decide (y ≤ (s.now : Int))) = true
    let touched (u : State) : Prop :=
      truckOf u n = some (t.withWatch seat { w with lastContact := some s.now }) ∧
      (∀ m, m ≠ n → truckOf u m = truckOf s m) ∧ u = { s with trucks := u.trucks }
    let gone (t' : Truck) : Prop :=
      recFor t'.queue (.prompt seat) =
        (match recFor t.queue (.prompt seat) with
         | some r => if r.content.summary = .prompt .due then none else some r
         | none => none) ∧
      ∀ x, x ≠ .prompt seat → recFor t'.queue x = recFor t.queue x
    let others (u : State) : Prop := ∀ m, m ≠ n → truckOf u m = truckOf s m
    (w.state = .idle → ∀ item still, takeContact s n seat item still = s) ∧
    (w.state = .alarm → w.set.alarm = .latched → ∀ item still,
      ∃ u, takeContact s n seat item still = assistFor u n ∧ others u ∧
        truckOf u n = some (t.withWatch seat
          { w with lastContact := some s.now, flags := { w.flags with contactAfterAlarm := true } }) ∧
        u = { posted s [.contact n seat item (some (stamp s s.now))] with trucks := u.trucks }) ∧
    (w.state = .watch ∨ w.state = .warn → w.set.timer = .interval → (∀ x, w.staged = some x → x.timer = .interval) →
      let set := w.staged.getD w.set
      let g := match t.zone with
        | some z => graceOf s z
        | none => 0
      let a := (bandEntryInForce s).allowance
      let d := s.now + set.interval + min (g + a) (set.interval / 2)
      ∃ u t', truckOf u n = some t' ∧ others u ∧ gone t' ∧
        t' = ({ t with queue := t'.queue }).withWatch seat
          { w with
            state := .watch, set := set, staged := none, lastContact := some s.now, grace := g, allowance := a
            flags := if w.staged.isSome = true then { w.flags with stagedApplied := true } else w.flags
            deadline := some d, warnTime := some ((d : Int) - (set.lead : Int)) } ∧
        u = { posted s (if w.state = .warn then
            [.watchState n seat .watch .checkIn (some (stamp s d)) w.startedBy] else []) with trucks := u.trucks } ∧
        takeContact s n seat .checkIn false =
          if (d : Int) - (set.lead : Int) ≤ (s.now : Int) then enterWarn u n seat else u) ∧
    (w.state = .watch ∨ w.state = .warn → w.set.timer = .stillness → w.stillSince = none →
      let d := s.now + (w.set.still - w.stillAcc)
      let x := (d : Int) - (min w.set.lead (w.set.still / 2) : Nat)
      ∃ u, truckOf u n = some (t.withWatch seat
          { w with lastContact := some s.now, stillSince := some s.now, deadline := some d, warnTime := some x }) ∧
        others u ∧ u = { s with trucks := u.trucks } ∧
        takeContact s n seat .motion true =
          if w.state = .watch ∧ x ≤ (s.now : Int) then enterWarn u n seat else u) ∧
    (∀ b, w.state = .watch ∨ w.state = .warn → w.set.timer = .stillness → w.stillSince = some b →
      (∀ d, w.deadline = some d → s.now < d) →
      ∃ u t', takeContact s n seat .motion false = u ∧ truckOf u n = some t' ∧ others u ∧
        (w.state = .warn → gone t') ∧ (w.state = .watch → t'.queue = t.queue) ∧
        t' = ({ t with queue := t'.queue }).withWatch seat
          { w with
            state := .watch, lastContact := some s.now, stillAcc := w.stillAcc + (s.now - b), stillSince := none
            deadline := none, warnTime := none } ∧
        u = { posted s (if w.state = .warn then [.watchState n seat .watch .motion none w.startedBy] else []) with
          trucks := u.trucks }) ∧
    (w.state = .watch ∨ w.state = .warn → w.set.timer = .task →
      ∃ u t', takeContact s n seat .taskDone false = u ∧ truckOf u n = some t' ∧ others u ∧ gone t' ∧
        t' = ({ t with queue := t'.queue }).withWatch seat
          { w with
            state := .idle, set := w.staged.getD w.set, staged := none, lastContact := some s.now, stillSince := none
            flags := if w.staged.isSome = true then { w.flags with stagedApplied := true } else w.flags
            deadline := none, warnTime := none, startTime := none, startedBy := none } ∧
        u = { posted s [.taskEnded n seat (stampOpt s w.startTime)] with trucks := u.trucks }) ∧
    (running → w.set.timer = .task → ∀ still, touched (takeContact s n seat .checkIn still)) ∧
    (running → w.set.timer ≠ .task → ∀ still still',
      takeContact s n seat .taskDone still = takeContact s n seat .checkIn still') ∧
    (running → w.set.timer ≠ .stillness → ∀ still, takeContact s n seat .motion still = s) ∧
    (running → w.set.timer = .stillness → (∀ x, w.staged = some x → x.timer = .stillness) → ∀ still,
      let d := s.now + set.still
      let w' : Watch :=
        { w with
          state := .watch, set := set, staged := none, flags := flags, lastContact := some s.now, stillAcc := 0
          stillSince := if w.stillSince.isSome = true then some s.now else none
          deadline := if w.stillSince.isSome = true then some d else w.deadline
          warnTime := if w.stillSince.isSome = true then some ((d : Int) - (min set.lead (set.still / 2) : Nat))
            else w.warnTime }
      ∃ u t', truckOf u n = some t' ∧ others u ∧ t' = ({ t with queue := t'.queue }).withWatch seat w' ∧
        (w.state = .warn → gone t') ∧ (w.state = .watch → t'.queue = t.queue) ∧
        u = { posted s (if w.state = .warn then
            [.watchState n seat .watch .checkIn (stampOpt s w'.deadline) w.startedBy] else []) with
          trucks := u.trucks } ∧
        (w.stillSince = none ∨ 0 < set.still → takeContact s n seat .checkIn still = u)) ∧
    (∀ x, running → w.set.timer ≠ .task → w.staged = some x → x.timer ≠ w.set.timer → ∀ still,
      let w' := computed
        { w with
          state := .watch, set := x, staged := none, flags := flags, lastContact := some s.now
          startTime := some s.now, stillAcc := 0, stillSince := none }
      ∃ u t', truckOf u n = some t' ∧ others u ∧ t' = ({ t with queue := t'.queue }).withWatch seat w' ∧
        (w.state = .warn → gone t') ∧ (w.state = .watch → t'.queue = t.queue) ∧
        u = { posted s (if w.state = .warn then
            [.watchState n seat .watch .checkIn (stampOpt s w.deadline) w.startedBy] else []) with
          trucks := u.trucks } ∧
        takeContact s n seat .checkIn still = if reached w' then enterWarn u n seat else u) ∧
    (∀ b, running → w.set.timer = .stillness → w.stillSince = some b → touched (takeContact s n seat .motion true)) ∧
    (running → w.set.timer = .stillness → w.stillSince = none → (∀ d, w.deadline = some d → s.now < d) →
      touched (takeContact s n seat .motion false)) ∧
    (∀ d, running → w.set.timer = .stillness → w.deadline = some d → d ≤ s.now →
      takeContact s n seat .motion false =
        takeContact (enterAlarm s n seat .stillness) n seat .motion false) ∧
    (w.state = .alarm → w.set.alarm ≠ .latched → ∀ item still,
      let w' := computed
        { w with
          state := .watch, set := set, staged := none, flags := flags, lastContact := some s.now
          startTime := some s.now, stillAcc := 0, stillSince := none, alarm := none }
      ∃ u v t', truckOf u n = some t' ∧ others u ∧ t' = ({ t with queue := t'.queue }).withWatch seat w' ∧
        recFor t'.queue (.prompt seat) =
          (match recFor t.queue (.prompt seat) with
           | some r => if r.content.summary = .prompt .alarmed then none else some r
           | none => none) ∧
        (∀ x, x ≠ .prompt seat → recFor t'.queue x = recFor t.queue x) ∧
        u = { posted s [.recovered n seat item (stampOpt s w'.deadline)] with trucks := u.trucks } ∧
        v = (if reached w' then enterWarn (assistFor u n) n seat else assistFor u n) ∧
        takeContact s n seat item still = takeContact v n seat item still) ∧
    (∀ seat0, (if seat0 = 2 then 2 else 1) = seat →
      (w.state ≠ .alarm → takeEmergency s n seat0 =
        enterAlarm (modWatch s n seat fun w => { w with lastContact := some s.now }) n seat .emergency) ∧
      (w.state = .alarm → ∃ u, takeEmergency s n seat0 = assistFor u n ∧ others u ∧
        truckOf u n = some (t.withWatch seat
          { w with
            alarm := w.alarm.map fun a => { a with cause := .emergency }, lastContact := some s.now
            flags := { w.flags with contactAfterAlarm := true } }) ∧
        u = { posted s [.contact n seat .emergency (some (stamp s s.now))] with trucks := u.trucks })))

/-- A warning reached (R52) and a deadline reached (R54, R55). The warning counts, flags WARNED and places a PROMPT
DUE; the deadline raises the alarm of its timer mode, places a PROMPT ALARMED, halts the truck's permits unless the
alarm mode is REPORT_ONLY, and makes assist calls while the console is UNATTENDED. That neither has an effect before
its moment is an inference (notes/assumptions/3.md). The same entries stand wherever a warning is reached or an alarm
raised. The assist calls (R60, R62): a recipient's list holds the open alarms of the other trucks under its serving
site, by raised time, truck and seat, cut to four; the recomputation for a site takes the REACHABLE and MISSED trucks
whose zone it serves in ascending number and places, replaces, keeps or removes each one's record; none is made while
ATTENDED or for a truck without a zone. -/
def Obligations.WarningAndDeadlineReached : Prop :=
  (∀ (s : State) (n seat : Nat) (t : Truck), Live s → truckOf s n = some t → seat = 1 ∨ seat = 2 →
    let w := t.watch seat
    let placed := (recFor t.queue (.prompt seat)).isSome || decide (t.queue.length < 12)
    let prompted : Truck → PromptContent → Prop := fun t' c =>
      if placed = true then ∃ r, recFor t'.queue (.prompt seat) = some r ∧ r.content = .prompt c ∧ r.attempts = 0 ∧
        r.inFlight = false
      else t'.queue = t.queue
    (if w.state = .watch ∧ (∃ x, w.warnTime = some x ∧ x ≤ (s.now : Int)) then
      ∃ u t', exec (.warning n seat) s = .next (settleEvent u) ∧ u = enterWarn s n seat ∧ truckOf u n = some t' ∧
        t' = ({ t with queue := t'.queue, seqCtr := t'.seqCtr }).withWatch seat
          { w with state := .warn, warnCount := min (w.warnCount + 1) 255, flags := { w.flags with warned := true } } ∧
        prompted t' { seat := seat, kind := .due, deadline := w.deadline, cause := none } ∧
        (∀ m, m ≠ n → truckOf u m = truckOf s m) ∧
        u = { posted s [.warn n seat w.set.timer (stampOpt s w.deadline) (min (w.warnCount + 1) 255) placed] with
          trucks := u.trucks, askArb := u.askArb }
     else exec (.warning n seat) s = .next s) ∧
    (if (w.state = .watch ∨ w.state = .warn) ∧ (∃ d, w.deadline = some d ∧ d ≤ s.now) then
      let cause : AlarmCause := match w.set.timer with
        | .interval => .deadline
        | .task => .taskOverrun
        | .stillness => .stillness
      exec (.deadline n seat) s = .next (settleEvent (enterAlarm s n seat cause))
     else exec (.deadline n seat) s = .next s) ∧
    (∀ cause, ∃ u t', enterAlarm s n seat cause = assistFor
          (if w.set.alarm = .reportOnly then u else haltForAlarm u n) n ∧
        truckOf u n = some t' ∧
        t' = ({ t with queue := t'.queue, seqCtr := t'.seqCtr }).withWatch seat
          { w with
            state := .alarm, alarm := some { cause := cause, raised := s.now }, deadline := none, warnTime := none
            stillSince := none, flags := { w.flags with alarmed := true } } ∧
        prompted t' { seat := seat, kind := .alarmed, deadline := none, cause := some cause } ∧
        (∀ m, m ≠ n → truckOf u m = truckOf s m) ∧
        u = { posted s [.alarm n seat cause w.set.alarm t.zone (stampOpt s w.lastContact) placed] with
          trucks := u.trucks, askArb := u.askArb })) ∧
  (∀ (s : State) (r : Truck), ascending Truck.num s.trucks →
    let site (t : Truck) : Option Nat := t.zone.map (servingSite s)
    ∃ l : List (Nat × AssistEntry), assistList s r = (l.take 4).map Prod.snd ∧
      l.Pairwise (fun a b => a.1 < b.1 ∨ a.1 = b.1 ∧
        (a.2.truck < b.2.truck ∨ a.2.truck = b.2.truck ∧ a.2.seat < b.2.seat)) ∧
      ∀ raised y, (raised, y) ∈ l ↔ ∃ t ∈ s.trucks, t.num ≠ r.num ∧ r.zone.isSome = true ∧ site t = site r ∧
        (y.seat = 1 ∨ y.seat = 2) ∧ (t.watch y.seat).state = .alarm ∧
        raised = ((t.watch y.seat).alarm.map Alarm.raised).getD 0 ∧ y.truck = t.num ∧ t.zone = some y.zone ∧
        y.lastContact = (t.watch y.seat).lastContact) ∧
  (∀ (s : State) (n : Nat) (t : Truck), truckOf s n = some t →
    let l := assistList s t
    match recFor t.queue .assist with
    | some r =>
      if l = [] then assistOne s n = dropRec s n .assist
      else if r.content = .assist l then assistOne s n = s else assistOne s n = give s n (.assist l)
    | none => if l = [] then assistOne s n = s else assistOne s n = give s n (.assist l)) ∧
  (∀ (s : State) (site : Nat), assistSite s site =
    ((s.trucks.filter fun t =>
      (t.reach == .reachable || t.reach == .missed) && t.zone.map (servingSite s) == some site).map
        Truck.num).foldl assistOne s) ∧
  (∀ (s : State) (n : Nat), assistFor s n =
    match (truckOf s n).bind Truck.zone with
    | some z => if s.sup.console = .unattended then assistSite s (servingSite s z) else s
    | none => s)

/-! ## Switching permits -/

/-- LOAD_PERMIT (R67, R68): the fields and steps as kept, the checks in their order; otherwise a LOADED permit of PENDING
steps, each point it names counted once more (or created at UNKNOWN), the linked order linked and its standing ORDER
record brought up to date, and PERMIT_STATE behind the reply, which carries OK exactly where nothing given was changed or
cut. Which steps BAD_FIELD looks at is the model's reading (notes/assumptions/24.md). -/
def Obligations.LoadPermitCreatesLoadedPermit : Prop :=
  ∀ (s : State) (tag permit holder : Nat) (linked : Option Nat) (iso rest : List StepIn), Ready s →
    let c := Instr.loadPermit tag permit holder linked iso rest
    let n := max permit 1
    let h := clamp 1 999 holder
    let bad : StepIn → Bool := fun x => decide (5 ≤ x.action) || (x.action == 4 &&
      match x.required with
      | none => true
      | some r => decide (3 ≤ r))
    let ki := iso.take 12
    let kr := (rest.take 12).take (16 - ki.length)
    let room := s.points.length
    if iso = [] ∨ ki.any bad = true ∨ kr.any bad = true then Refuses c s .badField
    else if (permitOf s n).isSome = true then Refuses c s .duplicate
    else if 32 ≤ s.permits.length then Refuses c s .tableFull
    else if (truckOf s h).isNone = true then Refuses c s .notFound
    else if (linked.any fun m => (orderOf s m).isNone) = true then Refuses c s .notFound
    else if ((linked.bind (orderOf s)).any fun o => !o.state.isOpen) = true then Refuses c s .wrongState
    else if ((linked.bind (orderOf s)).any fun o => o.linked.isSome) = true then Refuses c s .inUse
    else ∃ p : Permit,
      p = { num := n, holder := h, linked := linked, state := .loaded, causes := Causes.none, iso := p.iso
            rest := p.rest, issueTime := none } ∧
      p.iso.length = ki.length ∧ p.rest.length = kr.length ∧
      (∀ (restore : Bool) (i : Nat) (x : StepIn), (if restore then kr else ki)[i]? = some x →
        ∃ y, (if restore then p.rest else p.iso)[i]? = some y ∧ y.point = max x.point 1 ∧
          actionOf x.action = some y.action ∧
          y.required = (if y.action = .verify then x.required.bind positionOf else none) ∧
          y.hold = (x.hold && !restore) ∧ y.confirm = x.confirm ∧ y.state = .pending ∧ y.result = none ∧
          y.sent = false ∧ y.reason = none) ∧
      if 256 < room + (p.points.filter fun m => (pointOf s m).isNone).length then Refuses c s .tableFull
      else ∃ code u, exec c s = .next (settleEvent u) ∧ (code = .ok ∨ code = .clamped) ∧
        (code = .ok ↔ n = permit ∧ h = holder ∧ ki = iso ∧ kr = rest ∧
          (∀ x ∈ ki, x.point ≠ 0 ∧ (x.action ≠ 4 → x.required = none)) ∧
          (∀ x ∈ kr, x.point ≠ 0 ∧ (x.action ≠ 4 → x.required = none) ∧ x.hold = false)) ∧
        permitOf u n = some p ∧ (∀ m, m ≠ n → permitOf u m = permitOf s m) ∧
        (∀ m, m ∉ p.points → pointOf u m = pointOf s m) ∧
        (∀ m, m ∈ p.points → pointOf u m = some
          (match pointOf s m with
           | some q => { q with refCount := q.refCount + 1 }
           | none => { num := m, position := .unknown, holds := [], busy := none, refCount := 1 })) ∧
        (∀ m, linked ≠ some m → orderOf u m = orderOf s m) ∧
        (∀ m o, linked = some m → orderOf s m = some o → orderOf u m = some { o with linked := some n } ∧
          ∀ t k, o.assigned = some t → truckOf s t = some k →
            ∃ k', truckOf u t = some k' ∧ k' = { k with queue := k'.queue, seqCtr := k'.seqCtr } ∧
              match recFor k.queue (.order m) with
              | none => k' = k
              | some a => ∃ r b, a.content = .order b ∧ recFor k'.queue (.order m) = some r ∧
                  r.content = .order (orderContent { o with linked := some n } b.disp b.permitOpen)) ∧
        (∀ k, (∀ m o, linked = some m → orderOf s m = some o → o.assigned ≠ some k) → truckOf u k = truckOf s k) ∧
        u = { posted (answered s 0x10 tag code (.loaded ki.length kr.length))
            [.permitState n .loaded h linked Causes.none] with
          permits := u.permits, points := u.points, orders := u.orders, trucks := u.trucks, askArb := u.askArb }

/-- ISSUE_PERMIT (R70, R71): its checks in their order; a LOADED permit takes a slot, becomes ISSUED and posts
PERMIT_STATE; in either case the PERMIT record goes into the holder's queue with the current content. That content (R72)
is the permit's number, state, causes and linked order and its steps, the isolate list ahead of the restore list, each
with its name, fields and whether it is DONE. Giving it for a permit puts it into the holder's queue; PERMIT_STATE (R69)
carries the number, state, holder, linked order and causes. -/
def Obligations.IssuePermitSendsRecord : Prop :=
  (∀ p : Permit, ∃ l, permitContent p =
      { num := p.num, state := p.state, causes := p.causes, linked := p.linked, steps := l } ∧
    l.length = p.iso.length + p.rest.length ∧
    ∀ (restore : Bool) (i : Nat) (x : StepRec), (if restore then p.rest else p.iso)[i]? = some x →
      l[if restore then p.iso.length + i else i]? = some
        { step := { list := if restore then 1 else 0, num := i + 1 }, point := x.point, action := x.action
          required := x.required, hold := x.hold, confirm := x.confirm, done := x.state == .done }) ∧
  (∀ (s : State) (n : Nat),
    givePermit s n = (match permitOf s n with
      | some p => give s p.holder (.permit (permitContent p))
      | none => s) ∧
    postPermitState s n = (match permitOf s n with
      | some p => post s (.permitState n p.state p.holder p.linked p.causes)
      | none => s)) ∧
  ∀ (s : State) (tag n : Nat), Ready s →
    let c := Instr.issuePermit tag n
    match permitOf s n with
    | none => Refuses c s .notFound
    | some p =>
      if p.state ≠ .loaded ∧ p.state ≠ .issued then Refuses c s .wrongState
      else
        match truckOf s p.holder with
        | none => Refuses c s .notFound
        | some k =>
          if (p.linked.any fun m => !((orderOf s m).any fun o =>
              o.assigned == some p.holder && (o.state == .accepted || o.state == .enRoute || o.state == .onSite))) = true
            then Refuses c s .orderMismatch
          else if p.state = .loaded ∧ 2 ≤ k.permitSlots.length then Refuses c s .limit
          else if (recFor k.queue (.permit n)).isNone = true ∧ 12 ≤ k.queue.length then Refuses c s .queueFull
          else ∃ u p' k' r, exec c s = .next (settleEvent u) ∧
            permitOf u n = some p' ∧ (∀ m, m ≠ n → permitOf u m = permitOf s m) ∧
            p' = (if p.state = .loaded then { p with state := .issued, issueTime := some s.now } else p) ∧
            truckOf u p.holder = some k' ∧ (∀ m, m ≠ p.holder → truckOf u m = truckOf s m) ∧
            k' = { k with queue := k'.queue, seqCtr := k'.seqCtr, permitSlots := k'.permitSlots } ∧
            k'.permitSlots = (if p.state = .loaded ∧ n ∉ k.permitSlots then k.permitSlots ++ [n]
              else k.permitSlots) ∧
            recFor k'.queue (.permit n) = some r ∧ r.content = .permit (permitContent p') ∧ r.attempts = 0 ∧
            r.inFlight = false ∧
            (∀ x, x ≠ .permit n → recFor k'.queue x = recFor k.queue x) ∧
            u = { posted (answered s 0x11 tag .ok .none)
                (if p.state = .loaded then [.permitState n .issued p.holder p.linked p.causes] else []) with
              permits := u.permits, trucks := u.trucks, askArb := u.askArb }

/-- A halt cause added (R79) and HALT_PERMIT (R81). The cause joins the set and PERMIT_HALT is posted; for an issued
permit the PERMIT record shows it, a standing GRANT becomes REFUSE(HALTED) with its step PENDING and its busy mark
cleared, and a pending entry is removed with its step PENDING and answered REFUSE(HALTED) where, behind the PERMIT record,
there is room. The cause ALARM of an alarm of a truck (R82) is added, in slot order, to each permit of its slots that is
ISSUED, ISOLATING, CLEARED or RESTORING. -/
def Obligations.HaltCauseStopsPermit : Prop :=
  (∀ (s : State) (n : Nat) (c : Cause) (p : Permit), permitOf s n = some p → p.state.isOpen = true →
    p.causes.has c = false →
    let set := p.causes.put true c
    ∃ u p', addCause s n c = u ∧ permitOf u n = some p' ∧ p'.causes = set ∧ p'.state = p.state ∧
      p'.holder = p.holder ∧ p'.linked = p.linked ∧ p'.issueTime = p.issueTime ∧
      (∀ m, m ≠ n → permitOf u m = permitOf s m) ∧
      (∀ m q, pointOf s m = some q → ∃ b, pointOf u m = some { q with busy := b } ∧
        (b = q.busy ∨ (b = none ∧ ∃ i, q.busy = some { permit := n, step := i }))) ∧
      (p.issueTime = none → p' = { p with causes := set } ∧ u.trucks = s.trucks ∧ u.points = s.points ∧
        u.asks = s.asks) ∧
      (p.issueTime.isSome = true → u.asks = s.asks.filter fun a => a.permit != n) ∧
      (∀ k, p.issueTime.isSome = true → truckOf s p.holder = some k →
        ∃ k', truckOf u p.holder = some k' ∧ k' = { k with queue := k'.queue, seqCtr := k'.seqCtr } ∧
          ((recFor k.queue (.permit n)).isSome = true ∨ k.queue.length < 12 →
            ∃ r, recFor k'.queue (.permit n) = some r ∧ r.attempts = 0 ∧ r.inFlight = false ∧
              r.content = .permit (permitContent { p with causes := set })) ∧
          ∀ x, x ≠ .permit n → x ≠ .answer n → recFor k'.queue x = recFor k.queue x) ∧
      (∀ a x, p.issueTime.isSome = true → answerIn s p.holder n = some a → a.kind = .grant → askOf s n = none →
        p.step a.step = some x →
        answerIn u p.holder n = some { permit := n, step := a.step, kind := .refuse, reason := some .halted
                                       point := none, action := none, required := none } ∧
        p'.step a.step = some { x with state := .pending, reason := some .halted } ∧
        ∀ q, pointOf s x.point = some q → q.busy = some { permit := n, step := a.step } →
          pointOf u x.point = some { q with busy := none }) ∧
      (∀ a x, p.issueTime.isSome = true → askOf s n = some a → p.step a.step = some x →
        (∀ b, answerIn s p.holder n = some b → b.kind ≠ .grant) →
        p'.step a.step = some { x with state := .pending, reason := some .halted }) ∧
      (∀ i, (∀ a, answerIn s p.holder n = some a → a.kind = .grant → a.step ≠ i) →
        (∀ a, askOf s n = some a → a.step ≠ i) → p'.step i = p.step i) ∧
      (∀ a k, QueuesInv s → p.issueTime.isSome = true → askOf s n = some a → a.holder = p.holder →
        truckOf s p.holder = some k →
        if (recFor k.queue (.answer n)).isSome = true ∨
            (if (recFor k.queue (.permit n)).isSome = true then k.queue.length else k.queue.length + 1) < 12 then
          answerIn u p.holder n = some { permit := n, step := a.step, kind := .refuse, reason := some .halted
                                         point := none, action := none, required := none }
        else answerIn u p.holder n = none) ∧
      (p.issueTime.isSome = true → askOf s n = none → (∀ b, answerIn s p.holder n = some b → b.kind ≠ .grant) →
        answerIn u p.holder n = answerIn s p.holder n) ∧
      (∀ m, m ≠ p.holder → (∀ a, askOf s n = some a → a.holder ≠ m) → truckOf u m = truckOf s m) ∧
      u = { posted s [.permitHalt n p.holder c true set] with
        permits := u.permits, trucks := u.trucks, points := u.points, asks := u.asks, askArb := u.askArb }) ∧
  (∀ (s : State) (truck : Nat),
    match truckOf s truck with
    | none => haltForAlarm s truck = s
    | some t => haltForAlarm s truck = t.permitSlots.foldl (fun a n =>
        if ((permitOf a n).any fun p => p.state == .issued || p.state == .isolating || p.state == .cleared ||
            p.state == .restoring) = true then addCause a n .alarm else a) s) ∧
  (∀ (s : State) (tag n : Nat), Ready s →
    match permitOf s n with
    | none => Refuses (.haltPermit tag n) s .notFound
    | some p =>
      if p.state = .closed ∨ p.state = .cancelled then Refuses (.haltPermit tag n) s .wrongState
      else exec (.haltPermit tag n) s = .next (if p.causes.host = true then answered s 0x12 tag .ok .none
        else settleEvent (addCause (answered s 0x12 tag .ok .none) n .host)))

/-- RESUME_PERMIT (R84, R80): its checks; each latched cause in the set removed with its own PERMIT_HALT in the order
HOST, ALARM, MISMATCH, CONFLICT, SITE kept; the record of an issued permit brought up to date once, an inference
(notes/assumptions/23.md), where there is room for it, and none placed for one not issued; nothing where none of the
four stands. -/
def Obligations.ResumePermitRemovesLatchedCauses : Prop :=
  ∀ (s : State) (tag n : Nat), Ready s →
    let c := Instr.resumePermit tag n
    match permitOf s n with
    | none => Refuses c s .notFound
    | some p =>
      if p.state = .closed ∨ p.state = .cancelled then Refuses c s .wrongState
      else if ((truckOf s p.holder).any fun k =>
          (k.w1.state == .alarm && k.w1.set.alarm != .reportOnly) ||
          (k.w2.state == .alarm && k.w2.set.alarm != .reportOnly)) = true then Refuses c s .stillAlarm
      else if (s.points.any fun q => q.holds.any fun h => h.permit == n && h.position != q.position) = true then
        Refuses c s .stillConflict
      else
        let x := p.causes
        let after : Causes := { host := false, alarm := false, mismatch := false, conflict := false, site := x.site }
        ∃ u, exec c s = .next (settleEvent u) ∧
          permitOf u n = some { p with causes := after } ∧ (∀ m, m ≠ n → permitOf u m = permitOf s m) ∧
          (x.host = false → x.alarm = false → x.mismatch = false → x.conflict = false →
            u = answered s 0x13 tag .ok (.causes after)) ∧
          (∀ m, m ≠ p.holder → truckOf u m = truckOf s m) ∧
          (p.issueTime = none → u.trucks = s.trucks) ∧
          (∀ k, truckOf s p.holder = some k → recFor k.queue (.permit n) = none → 12 ≤ k.queue.length →
            u.trucks = s.trucks) ∧
          (∀ k, p.issueTime.isSome = true → (x.host || x.alarm || x.mismatch || x.conflict) = true →
            truckOf s p.holder = some k →
            (recFor k.queue (.permit n)).isSome = true ∨ k.queue.length < 12 →
            ∃ k' r, truckOf u p.holder = some k' ∧ k' = { k with queue := k'.queue, seqCtr := k'.seqCtr } ∧
              recFor k'.queue (.permit n) = some r ∧ r.content = .permit (permitContent { p with causes := after }) ∧
              ∀ y, y ≠ .permit n → recFor k'.queue y = recFor k.queue y) ∧
          u = { posted (answered s 0x13 tag .ok (.causes after))
              ((if x.host then [.permitHalt n p.holder .host false { x with host := false }] else []) ++
               (if x.alarm then [.permitHalt n p.holder .alarm false { x with host := false, alarm := false }]
                else []) ++
               (if x.mismatch then
                 [.permitHalt n p.holder .mismatch false { x with host := false, alarm := false, mismatch := false }]
                else []) ++
               (if x.conflict then [.permitHalt n p.holder .conflict false after] else [])) with
            permits := u.permits, trucks := u.trucks, askArb := u.askArb }

/-- CANCEL_PERMIT (R85): refused while a step is EXECUTING; otherwise the entry removed, a standing answer replaced by
REFUSE(NOT_ACTIVE), an entry without one answered so where there is room, ASKED and ANSWERED steps PENDING, marks and
holds of the permit released, CANCELLED with an empty set, the final record of an issued permit in the holder's queue or
the slot freed, and PERMIT_STATE. -/
def Obligations.CancelPermitReleasesEverything : Prop :=
  ∀ (s : State) (tag n : Nat), Ready s →
    let c := Instr.cancelPermit tag n
    match permitOf s n with
    | none => Refuses c s .notFound
    | some p =>
      let revoked : List StepRec → List StepRec := fun l => l.map fun x =>
        if x.state = .asked ∨ x.state = .answered then { x with state := .pending, reason := some .notActive } else x
      if p.state = .closed ∨ p.state = .cancelled then Refuses c s .wrongState
      else if ((p.iso ++ p.rest).any fun x => x.state == .executing) = true then Refuses c s .wrongState
      else ∃ u p', exec c s = .next (settleEvent u) ∧ permitOf u n = some p' ∧
        p' = { p with iso := revoked p.iso, rest := revoked p.rest, state := .cancelled, causes := Causes.none } ∧
        (∀ m, m ≠ n → permitOf u m = permitOf s m) ∧
        u.asks = (s.asks.filter fun a => a.permit != n) ∧
        (∀ m q, pointOf s m = some q → ∃ b, pointOf u m = some
            { q with holds := q.holds.filter fun h => h.permit != n, busy := b } ∧
          b = (match q.busy with
            | some y => if y.permit = n then none else some y
            | none => none)) ∧
        (∀ m, m ≠ p.holder → truckOf u m = truckOf s m) ∧
        (∀ k, truckOf s p.holder = some k → ∃ k', truckOf u p.holder = some k' ∧
          k' = { k with queue := k'.queue, seqCtr := k'.seqCtr, permitSlots := k'.permitSlots } ∧
          (∀ a, answerIn s p.holder n = some a → answerIn u p.holder n = some
            { permit := n, step := a.step, kind := .refuse, reason := some .notActive, point := none, action := none
              required := none }) ∧
          (answerIn s p.holder n = none →
            answerIn u p.holder n = (match askOf s n with
              | some a => if k.queue.length < 12 then
                  some { permit := n, step := a.step, kind := .refuse, reason := some .notActive, point := none
                         action := none, required := none }
                else none
              | none => none)) ∧
          (p.issueTime = none → k'.permitSlots = k.permitSlots ∧
            recFor k'.queue (.permit n) = recFor k.queue (.permit n) ∧
            (answerIn s p.holder n = none → askOf s n = none → k' = k)) ∧
          (p.issueTime.isSome = true →
            match recFor k'.queue (.permit n) with
            | some r => r.content = .permit (permitContent p') ∧ k'.permitSlots = k.permitSlots
            | none => 12 ≤ k'.queue.length ∧ k'.permitSlots = k.permitSlots.filter (· != n)) ∧
          ∀ x, x ≠ .permit n → x ≠ .answer n → recFor k'.queue x = recFor k.queue x) ∧
        u = { posted (answered s 0x14 tag .ok .none) [.permitState n .cancelled p.holder p.linked Causes.none] with
          permits := u.permits, points := u.points, asks := u.asks, trucks := u.trucks, askArb := u.askArb }

/-- RETIRE_PERMIT (R86): its checks; the record gone with its PERMIT and ANSWER records and its slot, its points' counts
lowered and points no permit names freed, the linked order's link cleared; no notice. -/
def Obligations.RetirePermitFreesPoints : Prop :=
  ∀ (s : State) (tag n : Nat), Ready s →
    let c := Instr.retirePermit tag n
    match permitOf s n with
    | none => Refuses c s .notFound
    | some p =>
      if p.state ≠ .closed ∧ p.state ≠ .cancelled then Refuses c s .wrongState
      else ∃ u, exec c s = .next u ∧ permitOf u n = none ∧ (∀ m, m ≠ n → permitOf u m = permitOf s m) ∧
        (∀ m q, m ∈ p.points → pointOf s m = some q →
          pointOf u m = if q.refCount ≤ 1 then none else some { q with refCount := q.refCount - 1 }) ∧
        (∀ m, m ∉ p.points → pointOf u m = pointOf s m) ∧
        (∀ m, p.linked = some m → orderOf u m = (orderOf s m).map fun o => { o with linked := none }) ∧
        (∀ m, p.linked ≠ some m → orderOf u m = orderOf s m) ∧
        (∀ m, m ≠ p.holder → truckOf u m = truckOf s m) ∧
        (∀ k, truckOf s p.holder = some k → ∃ k', truckOf u p.holder = some k' ∧
          k' = { k with queue := k'.queue, permitSlots := k.permitSlots.filter (· != n) } ∧
          recFor k'.queue (.permit n) = none ∧ recFor k'.queue (.answer n) = none ∧
          ∀ x, x ≠ .permit n → x ≠ .answer n → recFor k'.queue x = recFor k.queue x) ∧
        u = { answered s 0x15 tag .ok .none with
          trucks := u.trucks, permits := u.permits, points := u.points, orders := u.orders }

/-! ## Steps and points -/

/-- The checks of a STEP_ASK (R92 to R97), in their order. The first that fails gives the refusal and its reason; a
repeat of an ask that waits or has been granted is no refusal; an ask that passes every check is granted, or put to
the dispatcher where the step has the CONFIRM flag. A grant answers the step and marks the point busy, unless the
action is VERIFY. A step whose point is not in the table (a state no run reaches) is refused with UNKNOWN_POSITION,
the model's choice (notes/assumptions/38.md). A refusal (R97) leaves its reason with the step where the holder asked
for one that exists, and is placed for the asking truck, unless a GRANT or HELD stands there or there is no room: then
STEP_IGNORED says so. A GRANT carries the point, action and required position as the step holds them, HELD none of them
(R91). -/
def Obligations.StepAskIsCheckedThenAnswered : Prop :=
  (∀ (n : Nat) (i : StepId) (x : StepRec),
    heldContent n i =
      { permit := n, step := i, kind := .held, reason := none, point := none, action := none, required := none } ∧
    grantContent n i x =
      { permit := n, step := i, kind := .grant, reason := none, point := some x.point, action := some x.action
        required := x.required }) ∧
  (∀ (s : State) (truck n : Nat) (i : StepId) (r : Reason),
    ∃ v, v = { s with permits := v.permits } ∧
      (if ((permitOf s n).any fun p => p.holder == truck && (p.step i).isSome) = true then
        OnlyStep s v n i fun x => { x with reason := some r }
       else v = s) ∧
      if ((answerIn s truck n).any fun c => c.kind == .grant || c.kind == .held) = true then
        refuseAsk s truck n i r = post v (.stepIgnored truck .stepAsk n i .answerStanding (some r))
      else if canGive s truck (.answer n) = false then
        refuseAsk s truck n i r = post v (.stepIgnored truck .stepAsk n i .queueFull (some r))
      else ∃ u, refuseAsk s truck n i r = u ∧ OnlyRecord s u truck (.answer n) ∧
        answerIn u truck n = some { permit := n, step := i, kind := .refuse, reason := some r, point := none
                                    action := none, required := none } ∧
        u = { v with trucks := u.trucks, askArb := u.askArb }) ∧
  (∀ (s : State) (truck n : Nat) (i : StepId) (point action : Nat),
    match permitOf s n with
    | none => stepAsk s truck n i point action = refuseAsk s truck n i .mismatch
    | some p =>
      match p.step i with
      | none => stepAsk s truck n i point action = refuseAsk s truck n i .mismatch
      | some x =>
        let r := stepAsk s truck n i point action
        let current (l : List StepRec) : Bool :=
          (l.take (i.num - 1)).all (fun y => y.state == .done) && x.state != .done
        if p.holder ≠ truck ∨ x.point ≠ point ∨ actionOf action ≠ some x.action then
          r = refuseAsk s truck n i .mismatch
        else if (i.list = 0 ∧ p.state ≠ .isolating) ∨ (i.list ≠ 0 ∧ p.state ≠ .restoring) then
          r = refuseAsk s truck n i .notActive
        else if p.causes ≠ Causes.none then r = refuseAsk s truck n i .halted
        else if current (if i.list = 0 then p.iso else p.rest) = false then r = refuseAsk s truck n i .outOfOrder
        else if x.state = .answered ∨ x.state = .executing then r = s
        else if x.state = .asked then
          r = (if (answerIn s p.holder n).isSome = true then s
            else give s p.holder (.answer (heldContent n i)))
        else if ((truckOf s p.holder).any fun k => k.w1.blocking || k.w2.blocking) = true then
          r = refuseAsk s truck n i .crewAlarm
        else if s.sup.console = .unattended ∧ (x.action = .close ∨ x.action = .unground ∨ x.confirm = true) then
          r = refuseAsk s truck n i .unattended
        else
          match pointOf s x.point with
          | none => r = refuseAsk s truck n i .unknownPosition
          | some q =>
            if (q.holds.any fun h => h.permit != n && (x.action != .verify || some h.position != x.required)) = true
              then r = refuseAsk s truck n i .heldByOther
            else if (q.busy.any fun b => b.permit != n) = true then r = refuseAsk s truck n i .pointBusy
            else if x.action ≠ .verify ∧ verifiedByOther s x.point n = true then
              r = refuseAsk s truck n i .pointBusy
            else if x.action = .verify ∧ x.hold = true ∧ 4 ≤ q.holds.length ∧ (q.holdOf n).isNone = true then
              r = refuseAsk s truck n i .holdLimit
            else if x.action ≠ .verify ∧ q.position = .unknown then r = refuseAsk s truck n i .unknownPosition
            else if some q.position ≠ (match x.action with
                | .open => some .closed
                | .close => some .open
                | .ground => some .open
                | .unground => some .grounded
                | .verify => x.required) then r = refuseAsk s truck n i .position
            else if x.confirm = true then
              if 16 ≤ s.asks.length then r = refuseAsk s truck n i .busy
              else if canGive s truck (.answer n) = false then
                r = post s (.stepIgnored truck .stepAsk n i .queueFull none)
              else answerIn r truck n = some (heldContent n i) ∧ stepIn r n i = some { x with state := .asked, reason := none } ∧
                OnlyRecord s r truck (.answer n) ∧
                OnlyStep s r n i (fun y => { y with state := .asked, reason := none }) ∧
                r.asks = s.asks ++ [{ permit := n, step := i, holder := truck, askTime := s.now
                                      expiry := s.now + s.timeouts.decision }] ∧
                r = { posted s [.stepPending n i x.point x.action truck (stamp s (s.now + s.timeouts.decision))] with
                  trucks := r.trucks, permits := r.permits, asks := r.asks, askArb := r.askArb }
            else if canGive s truck (.answer n) = false then
              r = post s (.stepIgnored truck .stepAsk n i .queueFull none)
            else answerIn r truck n = some (grantContent n i x) ∧
              stepIn r n i = some { x with state := .answered, reason := none } ∧
              pointOf r x.point = some (if x.action = .verify then q
                else { q with busy := some { permit := n, step := i } }) ∧
              OnlyRecord s r truck (.answer n) ∧
              OnlyStep s r n i (fun y => { y with state := .answered, reason := none }) ∧
              (∀ m, m ≠ x.point → pointOf r m = pointOf s m) ∧
              r = { s with trucks := r.trucks, permits := r.permits, points := r.points, askArb := r.askArb })

/-- PERMIT_ACCEPT (R74, R83) and WORK_DONE (R76, R77). A number that names no permit, and a truck that is not its holder,
post PERMIT_IGNORED, as does a state that does not fit; a repeat changes nothing. PERMIT_ACCEPT of an ISSUED permit makes
it ISOLATING, with SITE where its condition stands; WORK_DONE of a CLEARED permit without a cause makes it RESTORING, and
with no restore step CLOSED at once, its holds released; each brings the record up to date and posts PERMIT_STATE. -/
def Obligations.PermitItemsMovePermit : Prop :=
  ∀ (s : State) (t n : Nat),
    match permitOf s n with
    | none => permitAccept s t n = post s (.permitIgnored n t .permitAccept .unknownPermit none) ∧
        workDone s t n = post s (.permitIgnored n t .workDone .unknownPermit none)
    | some p =>
      let ignored (item : ItemKind) (why : PermitIgnored) : State := post s (.permitIgnored n t item why (some p.state))
      let enters (v u : State) (st : PermitState) : Prop :=
        ∃ q, permitOf u n = some q ∧ q = { p with state := st } ∧ (∀ m, m ≠ n → permitOf u m = permitOf s m) ∧
          (∀ m, m ≠ t → truckOf u m = truckOf s m) ∧
          (∀ k, truckOf s t = some k → (recFor k.queue (.permit n)).isSome = true ∨ k.queue.length < 12 →
            ∃ k' r, truckOf u t = some k' ∧ k' = { k with queue := k'.queue, seqCtr := k'.seqCtr } ∧
              recFor k'.queue (.permit n) = some r ∧ r.content = .permit (permitContent q) ∧ r.attempts = 0 ∧
              r.inFlight = false ∧ ∀ x, x ≠ .permit n → recFor k'.queue x = recFor k.queue x) ∧
          u = { posted v [.permitState n st t p.linked p.causes] with
            permits := u.permits, trucks := u.trucks, askArb := u.askArb }
      if p.holder ≠ t then permitAccept s t n = ignored .permitAccept .notHolder ∧
        workDone s t n = ignored .workDone .notHolder
      else
        (if p.state = .loaded ∨ p.state = .cancelled then permitAccept s t n = ignored .permitAccept .state
         else if p.state ≠ .issued then permitAccept s t n = s
         else if siteCondition s t = true ∧ p.causes.site = false then
           ∃ v, permitOf v n = some { p with state := .isolating } ∧ (∀ m, m ≠ n → permitOf v m = permitOf s m) ∧
             v = { s with permits := v.permits } ∧
             permitAccept s t n = postPermitState (givePermit (addCause v n .site) n) n
         else if siteCondition s t = p.causes.site then enters s (permitAccept s t n) .isolating
         else ∃ v, permitOf v n = some { p with state := .isolating } ∧ (∀ m, m ≠ n → permitOf v m = permitOf s m) ∧
           v = { s with permits := v.permits } ∧
           permitAccept s t n = postPermitState (givePermit (removeCause v n .site) n) n) ∧
        (if p.state = .restoring ∨ p.state = .closed then workDone s t n = s
         else if p.state ≠ .cleared then workDone s t n = ignored .workDone .state
         else if p.causes ≠ Causes.none then workDone s t n = ignored .workDone .halted
         else if p.rest ≠ [] then enters s (workDone s t n) .restoring
         else ∃ u k', workDone s t n = u ∧
           permitOf u n = some { p with state := .closed, causes := Causes.none } ∧
           (∀ m, m ≠ n → permitOf u m = permitOf s m) ∧ (∀ m, m ≠ t → truckOf u m = truckOf s m) ∧
           u.points = (s.points.map fun q => { q with holds := q.holds.filter fun h => h.permit != n }) ∧
           (∀ k, truckOf s t = some k → truckOf u t = some k' ∧
             k' = { k with queue := k'.queue, seqCtr := k'.seqCtr, permitSlots := k'.permitSlots } ∧
             if (recFor k.queue (.permit n)).isSome = true ∨ k.queue.length < 12 then
               k'.permitSlots = k.permitSlots ∧ ∃ r, recFor k'.queue (.permit n) = some r ∧
                 r.content = .permit (permitContent { p with state := .closed, causes := Causes.none })
             else k'.queue = k.queue ∧ k'.permitSlots = k.permitSlots.filter (· != n)) ∧
           u = { posted s [.permitState n .restoring t p.linked p.causes,
               .permitState n .closed t p.linked Causes.none] with
             permits := u.permits, trucks := u.trucks, points := u.points, askArb := u.askArb })

/-- STEP_DONE (R105 to R107). The cases in their order; a step EXECUTING ends: normally where the position reported is
the one the action leaves and its hold can be placed, otherwise abnormally with MISMATCH. Either end sets the point's
position, clears its busy mark, weighs the position against the holds and posts STEP_RESULT; an isolate step's normal
end places or updates its hold. Then the last step of a list clears or closes the permit (R75, R77). That PERMIT_HALT
and HOLD_CONFLICT go ahead of an abnormal STEP_RESULT, which section 5.8 tells otherwise, is an inference
(notes/assumptions/19.md). A done after revoke (R108) of an open permit withdraws what the step has in flight,
releases a restore step's own hold, ends the step as above but for the mark, and posts DONE_AFTER_REVOKE behind
STEP_RESULT, which carries the permit's state from before the end moves it on, an inference in both
(notes/assumptions/20.md); of a CANCELLED permit it sets and weighs the position and posts DONE_AFTER_REVOKE; that of a
CLOSED one it changes nothing is an inference (notes/assumptions/37.md). -/
def Obligations.StepDoneEndsStep : Prop :=
  (∀ (s : State) (t n : Nat) (i : StepId) (code : Nat),
    let ignored (why : StepIgnored) : Prop :=
      stepDone s t n i code = post s (.stepIgnored t .stepDone n i why none)
    let pos : Position := ([Position.open, .closed, .grounded][code]?).getD .unknown
    match permitOf s n with
    | none => ignored .unknownPermit
    | some p =>
      if p.holder ≠ t then ignored .notHolder
      else
        match p.step i with
        | none => ignored .noStep
        | some x =>
          let left : Position := match x.action with
            | .open => .open
            | .close => .closed
            | .ground => .grounded
            | .unground => .open
            | .verify => x.required.getD .unknown
          let mark (q : Point) : Option BusyMark := if q.busy = some { permit := n, step := i } then none else q.busy
          if x.state = .done then stepDone s t n i code = s
          else if x.state ≠ .executing then
            if x.sent = true then stepDone s t n i code = doneAfterRevoke s p i x pos else ignored .notGranted
          else if pos = left ∧ holdPlaceable s n i x = true then
            ∃ w, stepIn w n i = some { x with state := .done, result := some .normal } ∧
              (∀ j, j ≠ i → stepIn w n j = stepIn s n j) ∧ (∀ m, m ≠ n → permitOf w m = permitOf s m) ∧
              (∃ q, permitOf w n = some q ∧ q = { p with iso := q.iso, rest := q.rest }) ∧
              (∀ m, m ≠ x.point → pointOf w m = pointOf s m) ∧
              pointOf w x.point = ((pointOf s x.point).map fun q =>
                { q with
                  position := pos, busy := mark q
                  holds :=
                    if i.list = 1 then q.holds
                    else if (q.holds.any fun h => h.permit == n) = true then
                      q.holds.map fun h => if h.permit = n then { h with position := pos } else h
                    else if x.hold = true then q.holds ++ [{ permit := n, position := pos }] else q.holds }) ∧
              w = { s with permits := w.permits, points := w.points } ∧
              stepDone s t n i code = afterDone
                (post (weigh w x.point (.stepDone n i)) (.stepResult n i x.point pos .normal none)) n
          else
            ∃ w, (∀ m, m ≠ x.point → pointOf w m = pointOf s m) ∧
              pointOf w x.point = ((pointOf s x.point).map fun q => { q with position := pos, busy := mark q }) ∧
              w = { s with points := w.points } ∧
              stepDone s t n i code = afterDone
                (post (modStep (weigh (addCause w n .mismatch) x.point (.stepDone n i)) n i
                    fun y => { y with state := .done, result := some .abnormal })
                  (.stepResult n i x.point pos .abnormal (some (if pos = left then .holdRefused else .position)))) n) ∧
  (∀ (s : State) (n : Nat) (i : StepId) (x : StepRec),
    let left : Position := match x.action with
      | .open => .open
      | .close => .closed
      | .ground => .grounded
      | .unground => .open
      | .verify => x.required.getD .unknown
    holdPlaceable s n i x = match pointOf s x.point with
      | none => true
      | some q =>
        let others := q.holds.all fun h => h.permit == n || h.position == left
        i.list == 1 || (if (q.holds.any fun h => h.permit == n) = true then others
          else !x.hold || (others && decide (q.holds.length < 4)))) ∧
  (∀ (s : State) (p : Permit) (i : StepId) (x : StepRec) (pos : Position),
    permitOf s p.num = some p → p.step i = some x →
    let n := p.num
    let left : Position := match x.action with
      | .open => .open
      | .close => .closed
      | .ground => .grounded
      | .unground => .open
      | .verify => x.required.getD .unknown
    if p.state = .closed then doneAfterRevoke s p i x pos = s
    else if p.state = .cancelled then
      ∃ w, (∀ m, m ≠ x.point → pointOf w m = pointOf s m) ∧
        pointOf w x.point = ((pointOf s x.point).map fun q => { q with position := pos }) ∧
        w = { s with points := w.points } ∧
        doneAfterRevoke s p i x pos =
          post (weigh w x.point (.stepDone n i)) (.doneAfterRevoke n i x.point pos .cancelled)
    else
      let mark (q : Point) : Option BusyMark :=
        if x.state = .answered ∧ q.busy = some { permit := n, step := i } then none else q.busy
      let kept (q : Point) : List Hold := if i.list = 1 then q.holds.filter fun h => h.permit != n else q.holds
      ∃ v w,
        v.asks = (if x.state = .asked then s.asks.filter fun a => a.permit != n else s.asks) ∧
        (if ((answerIn s p.holder n).any fun c => c.step == i &&
            ((x.state == .asked && c.kind == .held) || (x.state == .answered && c.kind == .grant))) = true then
          OnlyRecord s v p.holder (.answer n) ∧ answerIn v p.holder n = none
         else v.trucks = s.trucks) ∧
        (∀ m, m ≠ x.point → pointOf v m = pointOf s m) ∧
        pointOf v x.point = ((pointOf s x.point).map fun q => { q with busy := mark q, holds := kept q }) ∧
        v = { s with asks := v.asks, trucks := v.trucks, points := v.points } ∧
        (∀ m, m ≠ x.point → pointOf w m = pointOf s m) ∧
        if pos = left ∧ holdPlaceable v n i x = true then
          OnlyStep s w n i (fun y => { y with state := .done, result := some .normal }) ∧
          pointOf w x.point = ((pointOf s x.point).map fun q =>
            { q with
              position := pos, busy := mark q
              holds :=
                if i.list = 1 then kept q
                else if (q.holds.any fun h => h.permit == n) = true then
                  q.holds.map fun h => if h.permit = n then { h with position := pos } else h
                else if x.hold = true then q.holds ++ [{ permit := n, position := pos }] else q.holds }) ∧
          w = { v with permits := w.permits, points := w.points } ∧
          doneAfterRevoke s p i x pos = afterDone
            (post (post (weigh w x.point (.stepDone n i)) (.stepResult n i x.point pos .normal none))
              (.doneAfterRevoke n i x.point pos p.state)) n
        else
          pointOf w x.point = ((pointOf s x.point).map fun q =>
            { q with position := pos, busy := mark q, holds := kept q }) ∧
          w = { v with points := w.points } ∧
          doneAfterRevoke s p i x pos = afterDone
            (post (post (modStep (weigh (addCause w n .mismatch) x.point (.stepDone n i)) n i
                fun y => { y with state := .done, result := some .abnormal })
              (.stepResult n i x.point pos .abnormal (some (if pos = left then .holdRefused else .position))))
              (.doneAfterRevoke n i x.point pos p.state)) n) ∧
  (∀ (s : State) (n : Nat) (p : Permit), permitOf s n = some p →
    let enters (u : State) (st : PermitState) : Prop :=
      permitOf u n = some { p with state := st } ∧ (∀ m, m ≠ n → permitOf u m = permitOf s m) ∧
      (if canGive s p.holder (.permit n) = true then
        OnlyRecord s u p.holder (.permit n) ∧
        ∃ r, recOf u p.holder (.permit n) = some r ∧ r.content = .permit (permitContent { p with state := st }) ∧
          r.attempts = 0 ∧ r.inFlight = false
       else u.trucks = s.trucks) ∧
      u = { posted s [.permitState n st p.holder p.linked p.causes] with
        permits := u.permits, trucks := u.trucks, askArb := u.askArb }
    if p.state = .isolating ∧ (∀ x ∈ p.iso, x.state = .done) then enters (afterDone s n) .cleared
    else if p.state = .restoring ∧ (∀ x ∈ p.rest, x.state = .done) then
      ∃ u, afterDone s n = u ∧ permitOf u n = some { p with state := .closed, causes := Causes.none } ∧
        (∀ m, m ≠ n → permitOf u m = permitOf s m) ∧
        u.points = (s.points.map fun q => { q with holds := q.holds.filter fun h => h.permit != n }) ∧
        (if canGive s p.holder (.permit n) = true then
          OnlyRecord s u p.holder (.permit n) ∧
          ∃ r, recOf u p.holder (.permit n) = some r ∧ r.attempts = 0 ∧ r.inFlight = false ∧
            r.content = .permit (permitContent { p with state := .closed, causes := Causes.none })
         else ∀ m, truckOf u m = (truckOf s m).map fun k =>
          if m = p.holder then { k with permitSlots := k.permitSlots.filter (· != n) } else k) ∧
        u = { posted s [.permitState n .closed p.holder p.linked Causes.none] with
          permits := u.permits, points := u.points, trucks := u.trucks, askArb := u.askArb }
    else afterDone s n = s)

/-- DECIDE_STEP (R99): its checks; then an approval whose checks pass again is granted, and a denial or a failing
check is refused with its reason; the entry is removed and the answer stands in the queue. The checks of an approval
are checks 2 to 10 of R92 in their order, the step being the current one and ASKED; that a step whose point is not in
the table, which no run reaches, fails with UNKNOWN_POSITION is the model's choice (notes/assumptions/38.md), as it is
that a list code neither isolate nor restore names no step, so that it meets NOT_FOUND or TOO_LATE and not BAD_FIELD
(notes/assumptions/49.md). -/
def Obligations.DecideStepAnswersEntry : Prop :=
  (∀ (s : State) (p : Permit) (i : StepId) (x : StepRec), p.step i = some x →
    let list := if i.list = 0 then p.iso else p.rest
    approvalChecks s p i x =
      if (i.list = 0 ∧ p.state ≠ .isolating) ∨ (i.list ≠ 0 ∧ p.state ≠ .restoring) then some .notActive
      else if p.causes ≠ Causes.none then some .halted
      else if ((list.take (i.num - 1)).all fun y => y.state == .done) = false ∨ x.state ≠ .asked then some .outOfOrder
      else if ((truckOf s p.holder).any fun k => k.w1.blocking || k.w2.blocking) = true then some .crewAlarm
      else if s.sup.console = .unattended ∧ (x.action = .close ∨ x.action = .unground ∨ x.confirm = true) then
        some .unattended
      else
        match pointOf s x.point with
        | none => some .unknownPosition
        | some q =>
          if (q.holds.any fun h => h.permit != p.num && (x.action != .verify || some h.position != x.required)) = true
            then some .heldByOther
          else if (q.busy.any fun b => b.permit != p.num) = true then some .pointBusy
          else if x.action ≠ .verify ∧ verifiedByOther s x.point p.num = true then some .pointBusy
          else if x.action = .verify ∧ x.hold = true ∧ 4 ≤ q.holds.length ∧
            (q.holds.any fun h => h.permit == p.num) = false then some .holdLimit
          else if x.action ≠ .verify ∧ q.position = .unknown then some .unknownPosition
          else if some q.position ≠ (match x.action with
              | .open => some .closed
              | .close => some .open
              | .ground => some .open
              | .unground => some .grounded
              | .verify => x.required) then some .position
          else none) ∧
  (∀ (s : State) (point n : Nat), verifiedByOther s point n = true ↔
    ∃ p ∈ s.permits, p.num ≠ n ∧ ∃ i x, (i, x) ∈ p.steps ∧ x.point = point ∧ x.action = .verify ∧
      (x.state = .answered ∨ x.state = .executing)) ∧
  (∀ (s : State) (tag n : Nat) (i : StepId) (decision : Nat), Ready s →
    let c := Instr.decideStep tag n i decision
    if 2 ≤ decision then Refuses c s .badField
    else
      match permitOf s n with
      | none => Refuses c s .notFound
      | some p =>
        match askOf s n, p.step i with
        | some a, some x =>
          if a.step ≠ i then Refuses c s .tooLate
          else if canGive s p.holder (.answer n) = false then Refuses c s .queueFull
          else
            let why : Option Reason := if decision = 1 then some .denied else approvalChecks s p i x
            ∃ u p', exec c s = .next (settleEvent u) ∧ permitOf u n = some p' ∧
              p' = { p with iso := p'.iso, rest := p'.rest } ∧
              p'.step i = some { x with state := if why = none then .answered else .pending, reason := why } ∧
              (∀ j, j ≠ i → p'.step j = p.step j) ∧
              (∀ m, m ≠ n → permitOf u m = permitOf s m) ∧
              u.asks = (s.asks.filter fun y => y.permit != n) ∧
              (∀ m, pointOf u m = (pointOf s m).map fun q =>
                if why = none ∧ x.action ≠ .verify ∧ m = x.point then
                  { q with busy := some { permit := n, step := i } }
                else q) ∧
              (why = none → answerIn u p.holder n = some (grantContent n i x)) ∧
              (∀ r, why = some r → a.holder = p.holder → answerIn u p.holder n = some
                { permit := n, step := i, kind := .refuse, reason := some r, point := none, action := none
                  required := none }) ∧
              (∀ k t, truckOf s k = some t → ∃ t', truckOf u k = some t' ∧
                t' = { t with queue := t'.queue, seqCtr := t'.seqCtr } ∧
                (k ≠ p.holder → k ≠ a.holder → t' = t) ∧
                ∀ y, y ≠ .answer n → recFor t'.queue y = recFor t.queue y) ∧
              u = { answered s 0x17 tag .ok (.decided (if why = none then .grant else .refuse) why) with
                trucks := u.trucks, permits := u.permits, points := u.points, asks := u.asks, askArb := u.askArb }
        | _, _ => Refuses c s .tooLate)

/-- SET_POINT (R110, R109): its checks; the position set; where a hold differs, HOLD_CONFLICT once and CONFLICT for each
such permit in the order of the holds; nothing else where none differs. A position set otherwise is weighed in the same
way. -/
def Obligations.SetPointWeighsHolds : Prop :=
  (∀ (s : State) (n : Nat) (src : ConflictSource),
    match pointOf s n with
    | none => weigh s n src = s
    | some q =>
      ((∀ h ∈ q.holds, h.position = q.position) → weigh s n src = s) ∧
      ∀ h0, (q.holds.find? fun h => h.position != q.position) = some h0 →
        weigh s n src = ((q.holds.filter fun h => h.position != q.position).map Hold.permit).foldl
          (fun a m => addCause a m .conflict)
          (post s (.holdConflict n q.position h0.position (q.holds.map Hold.permit) src))) ∧
  (∀ (s : State) (tag n position : Nat), Ready s →
    match [Position.open, .closed, .grounded, .unknown][position]? with
    | none => Refuses (.setPoint tag n position) s .badField
    | some x =>
      match pointOf s n with
      | none => Refuses (.setPoint tag n position) s .notFound
      | some q =>
        ∃ v, pointOf v n = some { q with position := x } ∧ (∀ m, m ≠ n → pointOf v m = pointOf s m) ∧
          v = { answered s 0x1A tag .ok .none with points := v.points } ∧
          ((∀ h ∈ q.holds, h.position = x) → exec (.setPoint tag n position) s = .next v) ∧
          (∀ h0, (q.holds.find? fun h => h.position != x) = some h0 →
            exec (.setPoint tag n position) s = .next (settleEvent
              (((q.holds.filter fun h => h.position != x).map Hold.permit).foldl (fun a m => addCause a m .conflict)
                (post v (.holdConflict n x h0.position (q.holds.map Hold.permit) .telemetry))))))

/-! ## Outbound queues -/

/-- SEND_TEXT (R129): its checks in their order; a routine TEXT record of the console's at the tail of the queue,
under a sequence number no standing record holds. A record given for a truck (R113 to R117, R124): an update of the
record standing for its subject, with a new sequence number, its entry time and originator kept, in its place where
the class is as it was and at the border of the urgent run where it changes; otherwise placed anew if there is room,
an ANSWER immediately behind its PERMIT record, an urgent record at the end of the urgent run, a routine one at the
tail; a PERMIT record placed anew or moved takes its ANSWER with it. A removal (R118) closes the queue up, and where a
PERMIT record leaves an ANSWER in the routine part, that ANSWER goes to the end of the urgent run. The class and the size
of a record follow from its kind and content (R113). -/
def Obligations.SendTextJoinsTail : Prop :=
  (∀ c : Content,
    c.urgent = (match c with
      | .order x => decide (x.prio = 1)
      | .permit x => decide (x.causes ≠ Causes.none)
      | .answer _ => true
      | .prompt _ => true
      | .assist _ => true
      | .text _ => false) ∧
    c.units = (match c with
      | .order x => 1 + (x.desc.length + 39) / 40
      | .permit x => 1 + (x.steps.length + 3) / 4
      | .answer _ => 1
      | .prompt _ => 1
      | .assist l => 1 + (l.length + 1) / 2
      | .text t => 1 + (t.length + 39) / 40)) ∧
  (∀ (s : State) (n : Nat) (x : Subject), canGive s n x = true ↔
    ∃ k, truckOf s n = some k ∧ ((recFor k.queue x).isSome = true ∨ k.queue.length < 12)) ∧
  (∀ (s : State) (n : Nat) (c : Content),
    match truckOf s n with
    | none => give s n c = s
    | some k =>
      QueueWf k.queue →
      let old := recFor k.queue c.subject
      if old = none ∧ 12 ≤ k.queue.length then give s n c = s
      else ∃ u r q',
        give s n c = u ∧ r = { content := c, seq := r.seq, attempts := 0, inFlight := false
                               entry := (old.map Rec.entry).getD s.now, discard := r.discard
                               origin := (old.map Rec.origin).getD c.origin } ∧
        (∀ x ∈ k.queue, x.seq ≠ r.seq) ∧ (k.seqCtr < 256 → (∀ x ∈ k.queue, x.seq ≠ k.seqCtr) → r.seq = k.seqCtr) ∧
        r.discard = (if c.isGrant = true then
          (match old with
           | some o => if o.content.isGrant = true then o.discard else some (s.now + s.timeouts.discard)
           | none => some (s.now + s.timeouts.discard)) else none) ∧
        truckOf u n = some { k with queue := q', seqCtr := (r.seq + 1) % 256 } ∧
        (∀ m, m ≠ n → truckOf u m = truckOf s m) ∧
        u = { s with
          trucks := u.trucks
          askArb := s.askArb || c.urgent || ((old.map Rec.inFlight).getD false) } ∧
        (∀ l1 o l2, k.queue = l1 ++ o :: l2 → o.subject = c.subject → o.urgent = c.urgent → q' = l1 ++ r :: l2) ∧
        (∀ p l1 o l2, c.subject = .answer p → old = none → k.queue = l1 ++ o :: l2 → o.subject = .permit p →
          q' = l1 ++ o :: r :: l2) ∧
        (∀ run rest, InTwoParts (without k.queue c.subject) run rest →
          (∀ o, old = some o → o.urgent ≠ c.urgent) →
          (∀ p, c.subject = .answer p → recFor k.queue (.permit p) = none) →
          let q := if old = none ∧ c.urgent = false then k.queue ++ [r] else run ++ r :: rest
          match c.subject with
          | .permit p =>
            (match recFor k.queue (.answer p) with
             | some a => ∀ l1 l2, without q (.answer p) = l1 ++ r :: l2 → q' = l1 ++ r :: a :: l2
             | none => q' = q)
          | _ => q' = q)) ∧
  (∀ (s : State) (n : Nat) (x : Subject) (k : Truck), truckOf s n = some k → QueueWf k.queue →
    ∃ u q', dropRec s n x = u ∧ truckOf u n = some { k with queue := q' } ∧
      (∀ m, m ≠ n → truckOf u m = truckOf s m) ∧ u = { s with trucks := u.trucks } ∧
      ((∀ p, x ≠ .permit p) → q' = without k.queue x) ∧
      (∀ p run rest, x = .permit p → InTwoParts k.queue run rest →
        match recFor rest (.answer p) with
        | some a => if (recFor k.queue x).isSome = true then
            ∀ run' rest', InTwoParts (without (without k.queue x) (.answer p)) run' rest' → q' = run' ++ a :: rest'
            else q' = k.queue
        | none => q' = without k.queue x)) ∧
  (∀ (s : State) (tag n : Nat) (text : Text), Ready s →
    match truckOf s n with
    | none => Refuses (.sendText tag n text) s .notFound
    | some k =>
      if (recFor k.queue .text).isSome = true then Refuses (.sendText tag n text) s .queueFull
      else if 12 ≤ k.queue.length then Refuses (.sendText tag n text) s .queueFull
      else ∃ u r, exec (.sendText tag n text) s = .next u ∧
        r = { content := .text (text.take 120), seq := r.seq, attempts := 0, inFlight := false, entry := s.now
              discard := none, origin := .console } ∧
        (∀ x ∈ k.queue, x.seq ≠ r.seq) ∧ (k.seqCtr < 256 → r.seq < 256) ∧
        truckOf u n = some { k with queue := k.queue ++ [r], seqCtr := (r.seq + 1) % 256 } ∧
        (∀ m, m ≠ n → truckOf u m = truckOf s m) ∧
        u = { answered s 0x1C tag (if text.length ≤ 120 then .ok else .clamped)
            (.text r.seq (1 + (min text.length 120 + 39) / 40)) with trucks := u.trucks })

/-! ## Sites -/

/-- SET_SITE (R151, R152): its checks in their order; the site's values; an UNUSED site UP with its notice; the trucks
forced whose route newly passes, or no longer passes, a DOWN site; under AFFECTED the SITE causes evaluated; the
arbiter asked in an idle GAP; and the site DOWN at once where its timeout has already been reached. CLEAR_SITE (R153):
its checks; the site UNUSED with its range and last-beacon time gone and its notice; the trucks forced; the SITE
causes evaluated under either policy; the arbiter asked in an idle GAP. The TRUCK_STATE notices of the trucks whose
reachability changes follow SITE_STATE in ascending truck number. That CLEAR_SITE's SITE_STATE carries last-beacon
time none is an inference (notes/assumptions/40.md). A site taken DOWN at once by SET_SITE goes as at its timeout (R156);
one that is not UP, or whose timeout has not been reached, stays as it is. -/
def Obligations.SitesAreConfigured : Prop :=
  (∀ (s : State) (tag n parent lo hi hop timeout : Nat), Ready s → TablesInv s → SitesInv s →
     let c := Instr.setSite tag n parent lo hi hop timeout
     let a := clamp 1 250 lo
     let b := clamp 1 250 hi
     let d := clamp 100 1500 hop
     let e := clamp 30 600 timeout
     match siteOf s n with
     | none => Refuses c s .notFound
     | some x =>
       if b < a then Refuses c s .badField
       else if parent ≠ 0 ∧ ((siteOf s parent).any fun y =>
           parent != n && y.state != .unused && y.parent == 0) = false then Refuses c s .badField
       else if parent ≠ 0 ∧ (s.sites.any fun y => y.state != .unused && y.parent == n) = true then
         Refuses c s .badField
       else if parent ≠ 0 ∧ ((siteOf s parent).any fun y => y.range.any fun r => r.1 ≤ a && b ≤ r.2) = false then
         Refuses c s .badField
       else if (s.sites.any fun y => y.state != .unused && y.parent == n &&
           !(y.range.any fun r => a ≤ r.1 && r.2 ≤ b)) = true then Refuses c s .badField
       else if (s.sites.any fun y => y.state != .unused && y.num != n && y.parent == parent &&
           y.range.any fun r => r.1 ≤ b && a ≤ r.2) = true then Refuses c s .rangeOverlap
       else ∃ w,
         exec c s = .next (settleEvent (expireSite (askIfIdle
           (if s.policy = .affected then evalAllSites w else w)) n)) ∧
         siteOf w n = some { x with
           state := if x.state = .unused then .up else x.state, parent := parent, range := some (a, b), hop := d
           timeout := e, lastBeacon := if x.state = .unused then some s.now else x.lastBeacon } ∧
         (∀ m, m ≠ n → siteOf w m = siteOf s m) ∧ RoutesForced s w ∧
         w = { posted (answered s 0x21 tag
               (if a = lo ∧ b = hi ∧ d = hop ∧ e = timeout then .ok else .clamped) .none)
             ((if x.state = .unused then [.siteState n .unused .up (some (stamp s s.now))] else []) ++
               forcedNotices s w.sites) with
           sites := w.sites, trucks := w.trucks, askArb := w.askArb }) ∧
  (∀ (s : State) (tag n : Nat), Ready s → TablesInv s → SitesInv s →
     match siteOf s n with
     | none => Refuses (.clearSite tag n) s .notFound
     | some x =>
       if x.state = .unused then Refuses (.clearSite tag n) s .wrongState
       else if (s.sites.any fun y => y.state != .unused && y.parent == n) = true then
         Refuses (.clearSite tag n) s .inUse
       else ∃ w, exec (.clearSite tag n) s = .next (settleEvent (askIfIdle (evalAllSites w))) ∧
         siteOf w n = some { x with state := .unused, range := none, lastBeacon := none } ∧
         (∀ m, m ≠ n → siteOf w m = siteOf s m) ∧ RoutesForced s w ∧
         w = { posted (answered s 0x22 tag .ok .none)
             (.siteState n x.state .unused none :: forcedNotices s w.sites) with
           sites := w.sites, trucks := w.trucks, askArb := w.askArb }) ∧
  (∀ (s : State) (n : Nat), TablesInv s → SitesInv s →
     ((∀ x b, siteOf s n = some x → x.state = .up → x.lastBeacon = some b → s.now < b + x.timeout) →
       expireSite s n = s) ∧
     (∀ x b, siteOf s n = some x → x.state = .up → x.lastBeacon = some b → b + x.timeout ≤ s.now →
       ∃ w, expireSite s n = evalAllSites w ∧
         siteOf w n = some { x with state := .down } ∧ (∀ m, m ≠ n → siteOf w m = siteOf s m) ∧
         (∀ k, truckOf w k = (truckOf s k).map fun t =>
           if n ∈ routeOf s t ∧ t.reach ≠ .absent then { t with reach := .lost, miss := 6 } else t) ∧
         w = { posted s (.siteState n .up .down (some (stamp s b)) :: s.trucks.filterMap fun t =>
             if n ∈ routeOf s t ∧ (t.reach = .reachable ∨ t.reach = .missed) then
               some (NoticeBody.truckState t.num .lost 6 t.zone) else none) with
           sites := w.sites, trucks := w.trucks, askArb := true }))

/-- The evaluation of SITE for one permit (R83, R158), by the policy in force, and SET_SITE_POLICY (R158): BAD_FIELD for
a code that names no policy; nothing where the policy is the one in force; otherwise the policy, and an evaluation of
every permit in ascending number. What it rests on (R150): a zone is served by the used site of depth 2 whose range holds
it, else by the used site of depth 1, else by site 0; the route of a truck is the chain of sites from the one next to
site 0 to the serving site of its zone, and is empty without a zone. -/
def Obligations.SiteCauseFollowsPolicy : Prop :=
  (∀ (s : State) (z : Nat), SitesInv s →
    let covers (x : Site) : Prop := x.state ≠ .unused ∧ ∃ lo hi, x.range = some (lo, hi) ∧ lo ≤ z ∧ z ≤ hi
    (∀ x ∈ s.sites, covers x → x.parent ≠ 0 → servingSite s z = x.num ∧ routeOfZone s z = [x.parent, x.num]) ∧
    (∀ x ∈ s.sites, covers x → (∀ y ∈ s.sites, covers y → y.parent = 0) →
      servingSite s z = x.num ∧ routeOfZone s z = [x.num]) ∧
    ((∀ x ∈ s.sites, ¬covers x) → servingSite s z = 0 ∧ routeOfZone s z = [])) ∧
  (∀ (s : State) (t : Truck),
    (∀ z, t.zone = some z → routeOf s t = routeOfZone s z) ∧ (t.zone = none → routeOf s t = [])) ∧
  (∀ (s : State) (n : Nat),
    (isDown s n = true ↔ ∃ x, siteOf s n = some x ∧ x.state = .down) ∧
    siteCondition s n = (match s.policy with
      | .global => s.sites.any fun x => x.state == .down
      | .affected => (truckOf s n).any fun t => (routeOf s t).any (isDown s))) ∧
  (∀ s : State, evalAllSites s = (s.permits.map Permit.num).foldl evalSite s) ∧
  (∀ (s : State) (n : Nat) (p : Permit), permitOf s n = some p →
    let stands : Bool :=
      match s.policy with
      | .global => s.sites.any fun x => x.state == .down
      | .affected => (truckOf s p.holder).any fun t => (routeOf s t).any fun m =>
          (siteOf s m).any fun x => x.state == .down
    if p.state ≠ .isolating ∧ p.state ≠ .cleared ∧ p.state ≠ .restoring then evalSite s n = s
    else if stands = p.causes.site then evalSite s n = s
    else if stands = true then evalSite s n = addCause s n .site
    else ∃ v, permitOf v n = some { p with causes := { p.causes with site := false } } ∧
      (∀ m, m ≠ n → permitOf v m = permitOf s m) ∧
      v = { posted s [.permitHalt n p.holder .site false { p.causes with site := false }] with permits := v.permits } ∧
      evalSite s n = if p.issueTime.isSome then
        give v p.holder (.permit (permitContent { p with causes := { p.causes with site := false } })) else v) ∧
  (∀ (s : State) (tag policy : Nat), Ready s →
    match [Policy.global, .affected][policy]? with
    | none => Refuses (.setSitePolicy tag policy) s .badField
    | some x =>
      if x = s.policy then exec (.setSitePolicy tag policy) s = .next (answered s 0x23 tag .ok .none)
      else exec (.setSitePolicy tag policy) s = .next (settleEvent
        ((s.permits.map Permit.num).foldl evalSite { answered s 0x23 tag .ok .none with policy := x })))

/-- A decoded BEACON (R155, R157) and a beacon timeout (R156, R157). A number that names none of sites 1 to 7 makes a
rejected frame without airtime; an UNUSED site's beacon counts its airtime alone; an UP site's moves its last-beacon
time; a DOWN site's returns it to UP, with the trucks forced whose routes are restored. At the timeout of an UP site
it goes DOWN and every truck is forced whose route passes it. The TRUCK_STATE notices of the trucks whose reachability
changes follow SITE_STATE in ascending truck number. That before its moment, or for a site that is not UP, the timer
has no effect is an inference (notes/assumptions/3.md). -/
def Obligations.BeaconsMoveSites : Prop :=
  ∀ s : State, Live s → TablesInv s → SitesInv s →
    (∀ relay n,
      let octets := 6 + if relay = [] then 0 else 1 + relay.length
      let v := countUplink s octets
      match siteOf s n with
      | none => exec (.beacon relay n) s = .next { s with
          air := { s.air with rejected := min (s.air.rejected + 1) 65535 } }
      | some x =>
        match x.state with
        | .unused => exec (.beacon relay n) s = .next v
        | .up => ∃ w, exec (.beacon relay n) s = .next w ∧ siteOf w n = some { x with lastBeacon := some s.now } ∧
            (∀ m, m ≠ n → siteOf w m = siteOf s m) ∧ w = { v with sites := w.sites }
        | .down => ∃ w, exec (.beacon relay n) s = .next (settleEvent (evalAllSites w)) ∧
            siteOf w n = some { x with state := .up, lastBeacon := some s.now } ∧
            (∀ m, m ≠ n → siteOf w m = siteOf s m) ∧ RoutesForced s w ∧
            w = { posted v (.siteState n .down .up (some (stamp s s.now)) :: forcedNotices s w.sites) with
              sites := w.sites, trucks := w.trucks, askArb := true }) ∧
    (∀ n x b, siteOf s n = some x → x.state = .up → x.lastBeacon = some b →
      if b + x.timeout ≤ s.now then
        ∃ w, exec (.beaconTimeout n) s = .next (settleEvent (evalAllSites w)) ∧
          siteOf w n = some { x with state := .down } ∧ (∀ m, m ≠ n → siteOf w m = siteOf s m) ∧
          (∀ k, truckOf w k = (truckOf s k).map fun t =>
            if n ∈ routeOf s t ∧ t.reach ≠ .absent then { t with reach := .lost, miss := 6 } else t) ∧
          w = { posted s (.siteState n .up .down (some (stamp s b)) :: s.trucks.filterMap fun t =>
              if n ∈ routeOf s t ∧ (t.reach = .reachable ∨ t.reach = .missed) then
                some (NoticeBody.truckState t.num .lost 6 t.zone) else none) with
            sites := w.sites, trucks := w.trucks, askArb := true }
      else exec (.beaconTimeout n) s = .next s) ∧
    (∀ n, (∀ x, siteOf s n = some x → x.state ≠ .up) → exec (.beaconTimeout n) s = .next s)

/-! ## Supervision -/

/-- SET_SUPERVISION (R173) and RESUME (R176): the mode and the window, with the lapse expiry now plus the new window, or
none in OFF, and the console state kept; RESUME makes an UNATTENDED console ATTENDED and removes every ASSIST record, with
no notice, and changes nothing in ATTENDED. -/
def Obligations.SupervisionAndResume : Prop :=
  ∀ (s : State) (tag : Nat), Ready s →
    (∀ mode window,
      match [SupMode.off, .report, .act][mode]? with
      | none => Refuses (.setSupervision tag mode window) s .badField
      | some m =>
        let w := if window < 5 then 5 else if 120 < window then 120 else window
        exec (.setSupervision tag mode window) s = .next
          { answered s 0x2A tag (if w = window then .ok else .clamped) (.supSet m w s.sup.console) with
            sup := { mode := m, window := w, console := s.sup.console, lastValid := some s.now
                     lapse := if m = .off then none else some (s.now + w) } }) ∧
    (s.sup.console = .attended →
      exec (.resume tag) s = .next (answered s 0x2C tag .ok (.resumed .attended))) ∧
    (s.sup.console = .unattended → ∃ u, exec (.resume tag) s = .next u ∧
      (∀ k, truckOf u k = (truckOf s k).map fun t =>
        { t with queue := t.queue.filter fun r => r.content.subject != .assist }) ∧
      u = { answered s 0x2C tag .ok (.resumed .unattended) with
        sup := { (armWindow s).sup with console := .attended }, trucks := u.trucks })

/-- The lapse (R174, R175, R104, R63). That nothing happens before its expiry is an inference
(notes/assumptions/3.md). In OFF the expiry alone goes; in REPORT, and in ACT with the console UNATTENDED, LAPSED is
set besides; in ACT with the console ATTENDED it becomes UNATTENDED, every pending request is answered
REFUSE(UNATTENDED) where there is room and its step PENDING, in list order; then, in ascending permit number, every
standing GRANT for an energizing or CONFIRM-flagged step is superseded: REFUSE(UNATTENDED) in its place, its step
PENDING and its busy mark cleared; then the assist records are brought up to date, site by site, for the sites that
serve a truck with an open alarm; and CONSOLE_LAPSED is posted last, with its counts. -/
def Obligations.LapseTakesConsole : Prop :=
  (∀ (s : State) (n : Nat) (why : Reason),
    match askOf s n with
    | none => refusePending s n why = s
    | some a => ∃ u, refusePending s n why = u ∧ u.asks = (s.asks.filter fun b => b.permit != n) ∧
        OnlyStep s u n a.step (fun x => { x with state := .pending, reason := some why }) ∧
        (if canGive s a.holder (.answer n) = true then
          OnlyRecord s u a.holder (.answer n) ∧
          answerIn u a.holder n = some { permit := n, step := a.step, kind := .refuse, reason := some why
                                         point := none, action := none, required := none }
         else u.trucks = s.trucks) ∧
        u = { s with trucks := u.trucks, permits := u.permits, asks := u.asks, askArb := u.askArb }) ∧
  (∀ (s : State) (n : Nat) (why : Reason) (p : Permit), permitOf s n = some p →
    ((∀ c, answerIn s p.holder n = some c → c.kind ≠ .grant) → supersede s n why = s) ∧
    (∀ c, answerIn s p.holder n = some c → c.kind = .grant → ∃ u, supersede s n why = u ∧
      OnlyRecord s u p.holder (.answer n) ∧
      answerIn u p.holder n = some { permit := n, step := c.step, kind := .refuse, reason := some why, point := none
                                     action := none, required := none } ∧
      OnlyStep s u n c.step (fun x => { x with state := .pending, reason := some why }) ∧
      (∀ m, pointOf u m = (pointOf s m).map fun q =>
        if (p.step c.step).map StepRec.point = some m ∧ q.busy = some { permit := n, step := c.step } then
          { q with busy := none } else q) ∧
      u = { s with trucks := u.trucks, permits := u.permits, points := u.points, askArb := u.askArb })) ∧
  (∀ s : State, assistAll s = ((List.range 8).filter fun x => s.trucks.any fun t =>
    t.zone.map (servingSite s) == some x && (t.w1.state == .alarm || t.w2.state == .alarm)).foldl assistSite s) ∧
  (∀ s : State, Live s →
    let quiet : State := { s with sup := { s.sup with lapse := none } }
    let lapsed : State := { quiet with port := { s.port with sticky := { s.port.sticky with lapsed := true } } }
    (s.sup.lapse = none → exec .lapse s = .next s) ∧
    (∀ e, s.sup.lapse = some e →
      if s.now < e then exec .lapse s = .next s
      else if s.sup.mode = .off then exec .lapse s = .next quiet
      else if s.sup.mode = .report ∨ s.sup.console = .unattended then exec .lapse s = .next lapsed
      else ∃ v u k a1 a2 l, exec .lapse s = .next (settleEvent u) ∧
        a1 = (s.asks.map Ask.permit).foldl (fun b n => refusePending b n .unattended)
          { lapsed with sup := { quiet.sup with console := .unattended } } ∧
        l = ((a1.permits.map Permit.num).filter fun n => (answerIn a1 (holderOf a1 n) n).any fun c =>
          c.kind == .grant && (stepIn a1 n c.step).any fun x =>
            x.action == .close || x.action == .unground || x.confirm) ∧
        a2 = l.foldl (fun b n => supersede b n .unattended) a1 ∧ v = assistAll a2 ∧ k = l.length ∧
        u = post v (.consoleLapsed (stampOpt s s.sup.lastValid) s.sup.window s.asks.length k
          (s.trucks.map fun t =>
            (if t.w1.state = .alarm then 1 else 0) + (if t.w2.state = .alarm then 1 else 0)).sum) ∧
        v = { lapsed with
          sup := { quiet.sup with console := .unattended }, trucks := v.trucks, permits := v.permits
          points := v.points, asks := [], askArb := v.askArb } ∧
        (∀ a, askOf s a.permit = some a → stepIn v a.permit a.step =
          (stepIn s a.permit a.step).map fun x => { x with state := .pending, reason := some .unattended }) ∧
        (∀ n p i x c, permitOf v n = some p → p.step i = some x → answerIn v p.holder n = some c → c.step = i →
          c.kind = .grant → x.action ≠ .close ∧ x.action ≠ .unground ∧ x.confirm = false) ∧
        (s.asks = [] → k = ((s.permits.map Permit.num).filter fun n =>
          (answerIn s (holderOf s n) n).any fun c => c.kind == .grant &&
            (stepIn s n c.step).any fun x => x.action == .close || x.action == .unground || x.confirm).length)))

/-! ## Timers -/

/-- The offer timer (R25), the decision expiry (R100) and the discard time (R124, R103); that none has an effect
before its moment is an inference (notes/assumptions/3.md). The order is QUEUED again, its undelivered record removed
with its slot or its delivered offer withdrawn with the slot kept, and rolled over; the entry is answered
REFUSE(TIMEOUT) where it can be, and gone in either case; the record is removed as DISCARDED and a GRANT's step is
PENDING without a reason, its busy mark cleared. That a WITHDRAWN record which finds the queue full is not placed, the
slot kept, is the model's choice (notes/assumptions/29.md). -/
def Obligations.TimersEndWhatTheyWereSetFor : Prop :=
  ∀ s : State, Live s →
    (∀ n,
      match orderOf s n with
      | none => exec (.offerTimeout n) s = .next s
      | some o =>
        if o.state = .offered ∧ (o.offerExpiry.any fun e => e ≤ s.now) = true then
          ∃ v, exec (.offerTimeout n) s = .next (settleEvent (rollover v n)) ∧
            orderOf v n = some { o with state := .queued, assigned := none, offerTime := none, offerExpiry := none } ∧
            (∀ m, m ≠ n → orderOf v m = orderOf s m) ∧
            v = { posted s [.orderState n .queued none] with
              orders := v.orders, trucks := v.trucks, askArb := v.askArb } ∧
            (o.assigned = none → v.trucks = s.trucks) ∧
            (∀ t, o.assigned = some t → (∀ m, m ≠ t → truckOf v m = truckOf s m) ∧
              ∀ k, truckOf s t = some k →
                if (recFor k.queue (.order n)).isSome = true then
                  truckOf v t = some { k with
                    queue := k.queue.filter fun r => r.content.subject != .order n
                    orderSlots := k.orderSlots.filter (· != n) }
                else if 12 ≤ k.queue.length then truckOf v t = some k
                else ∃ k' r, truckOf v t = some k' ∧ recFor k'.queue (.order n) = some r ∧
                  r.content = .order { num := n, disp := .withdrawn, state := none, prio := o.prio, loc := o.loc
                                       desc := o.desc, linked := o.linked, permitOpen := false } ∧
                  (∀ x, x ≠ .order n → recFor k'.queue x = recFor k.queue x) ∧
                  k' = { k with queue := k'.queue, seqCtr := k'.seqCtr })
        else exec (.offerTimeout n) s = .next s) ∧
    (∀ n,
      match askOf s n with
      | none => exec (.decisionTimeout n) s = .next s
      | some a =>
        if s.now < a.expiry then exec (.decisionTimeout n) s = .next s
        else ∃ u, exec (.decisionTimeout n) s = .next (settleEvent u) ∧
          u.asks = (s.asks.filter fun b => b.permit != n) ∧
          stepIn u n a.step = ((stepIn s n a.step).map fun x =>
            { x with state := .pending, reason := some .timeout }) ∧
          (if canGive s a.holder (.answer n) = true then
            answerIn u a.holder n = some { permit := n, step := a.step, kind := .refuse, reason := some .timeout
                                           point := none, action := none, required := none }
           else u.trucks = s.trucks) ∧
          u = { posted s [.decisionTimeout n a.step a.holder (canGive s a.holder (.answer n))] with
            asks := u.asks, trucks := u.trucks, permits := u.permits, askArb := u.askArb }) ∧
    (∀ t n,
      match recOf s t (.answer n) with
      | none => exec (.discardTime t n) s = .next s
      | some r =>
        if (r.discard.any fun d => d ≤ s.now) = false then exec (.discardTime t n) s = .next s
        else ∃ u, exec (.discardTime t n) s = .next u ∧
          (∀ k, truckOf s t = some k →
            truckOf u t = some { k with queue := k.queue.filter fun x => x.content.subject != .answer n }) ∧
          (∀ m, m ≠ t → truckOf u m = truckOf s m) ∧
          (∀ c, r.content = .answer c → c.kind = .grant →
            stepIn u n c.step = ((stepIn s n c.step).map fun x => { x with state := .pending, reason := none }) ∧
            ∀ x q, stepIn s n c.step = some x → pointOf s x.point = some q →
              pointOf u x.point = some
                (if q.busy = some { permit := n, step := c.step } then { q with busy := none } else q)) ∧
          (∀ c, r.content = .answer c → c.kind ≠ .grant → u.permits = s.permits ∧ u.points = s.points) ∧
          u = { posted s [.undeliverable t (.answer n) r.content.summary r.origin .discarded r.attempts
                (stamp s r.entry)] with
            trucks := u.trucks, permits := u.permits, points := u.points })

/-! ## Frames and turns -/

/-- The header of a decoded frame (R5, R6) and a missed turn (R9). The truck becomes REACHABLE with count 0, heard now,
in the header's zone where that names one; TRUCK_STATE and then ZONE_CHANGE where something changed, and at a change of
zone the SITE causes of the permits in its slots. That TRUCK_STATE carries the zone from before the header is an inference
(notes/assumptions/35.md), as it is that a change of zone alone does not ask the arbiter (notes/assumptions/33.md). A
missed turn raises the count up to 6, MISSED from 3 and LOST at 6. -/
def Obligations.HeaderAndMissedTurn : Prop :=
  ∀ (s : State) (n : Nat) (t : Truck), truckOf s n = some t →
    (∀ z,
      let moves : Prop := 1 ≤ z ∧ z ≤ 250 ∧ t.zone ≠ some z
      ∃ v l1 l2, truckOf v n = some { t with
          reach := .reachable, miss := 0, lastHeard := some s.now, zone := if 1 ≤ z ∧ z ≤ 250 then some z else t.zone } ∧
        (∀ m, m ≠ n → truckOf v m = truckOf s m) ∧
        l1 = (if t.reach = .reachable then [] else [NoticeBody.truckState n .reachable 0 t.zone]) ∧
        (moves → l2 = [NoticeBody.zoneChange n t.zone z] ∧ takeHeader s n z = t.permitSlots.foldl evalSite v) ∧
        (¬moves → l2 = [] ∧ takeHeader s n z = v) ∧
        v = { posted s (l1 ++ l2) with trucks := v.trucks, askArb := s.askArb || t.reach != .reachable }) ∧
    (t.reach = .absent → missedTurn s n = s) ∧
    (t.reach ≠ .absent →
      let c := if t.miss < 6 then t.miss + 1 else 6
      let r : Reach := if c = 6 then .lost else if 3 ≤ c then .missed else .reachable
      ∃ v, missedTurn s n = v ∧ truckOf v n = some { t with reach := r, miss := c } ∧
        (∀ m, m ≠ n → truckOf v m = truckOf s m) ∧
        v = { posted s (if t.reach = r then [] else [.truckState n r c t.zone]) with
          trucks := v.trucks, askArb := s.askArb || t.reach != r })

/-- A decoded REPLY or BURST (R138, R140, R144, R8, R163). Its airtime at the rate in force joins the busy time; a
REPLY of the polled truck inside the window ends the turn, through the stages of R138 unless the turn is abandoned;
any other frame of an enrolled truck is a burst, whose acknowledgements are not taken; one of an unknown truck posts
UNKNOWN_TRUCK where it holds a REGISTER item, and nothing else. A REPLY of the polled truck that comes when its window
has expired finds the window closing taken first (R9). A BURST never ends the turn in flight. An uplink number joins
its truck's list of the last four, not twice (R132). Each item goes to its owner with the truck number of the header
(R145); one of unknown kind, a MOTION of another value and a reply code above 4 are skipped and counted, saturating at
65535 (section 11.5). -/
def Obligations.FramesAreTakenAtDecoding : Prop :=
  (∀ (s : State) (n : Nat),
    let skipped : State := { s with air := { s.air with skipped := min (s.air.skipped + 1) 65535 } }
    dispatch n s .register = s ∧
    (∀ seat, dispatch n s (.checkIn seat) = takeContact s n seat .checkIn false) ∧
    (∀ seat, dispatch n s (.motion seat 0) = takeContact s n seat .motion true) ∧
    (∀ seat, dispatch n s (.motion seat 1) = takeContact s n seat .motion false) ∧
    (∀ seat v, 2 ≤ v → dispatch n s (.motion seat v) = skipped) ∧
    (∀ seat, dispatch n s (.taskDone seat) = takeContact s n seat .taskDone false) ∧
    (∀ seat, dispatch n s (.emergency seat) = takeEmergency s n seat) ∧
    (∀ order code c, [ReplyCode.accept, .decline, .enRoute, .onSite, .complete][code]? = some c →
      dispatch n s (.orderReply order code) = orderReply s order n c) ∧
    (∀ order code, 5 ≤ code → dispatch n s (.orderReply order code) = skipped) ∧
    (∀ permit, dispatch n s (.permitAccept permit) = permitAccept s n permit) ∧
    (∀ permit, dispatch n s (.workDone permit) = workDone s n permit) ∧
    (∀ permit i point action, dispatch n s (.stepAsk permit i point action) = stepAsk s n permit i point action) ∧
    (∀ permit i position, dispatch n s (.stepDone permit i position) = stepDone s n permit i position) ∧
    (∀ kind length, dispatch n s (.other kind length) = skipped)) ∧
  (∀ item : Item, itemOctets item = 2 +
    match item with
    | .register => 0
    | .checkIn _ => 1
    | .motion _ _ => 2
    | .taskDone _ => 1
    | .emergency _ => 1
    | .orderReply _ _ => 3
    | .permitAccept _ => 2
    | .workDone _ => 2
    | .stepAsk _ _ _ _ => 7
    | .stepDone _ _ _ => 5
    | .other _ length => length) ∧
  (∀ (s : State) (n : Nat), countUplink s n = { s with
    load := s.load.uplink s.nowMs (25 + (n * 8000 + s.air.rate - 1) / s.air.rate) }) ∧
  (∀ (s : State) (n uplink : Nat) (t : Truck), truckOf s n = some t → ∃ u, joinUplink s n uplink = u ∧
    truckOf u n = some { t with upAcks :=
      if uplink ∈ t.upAcks then t.upAcks
      else if t.upAcks.length < 4 then t.upAcks ++ [uplink] else t.upAcks.tail ++ [uplink] } ∧
    (∀ m, m ≠ n → truckOf u m = truckOf s m) ∧ u = { s with trucks := u.trucks }) ∧
  (∀ (s : State) (h : Header) (acks : List Nat) (items : List Item) (item : Item), Live s →
    let route := if h.relay = [] then 0 else 1 + h.relay.length
    let replyLength := 11 + route + acks.length + (items.map itemOctets).sum
    let burstLength := 9 + route + itemOctets item
    let air (octets : Nat) : Nat := 25 + (octets * 8000 + s.air.rate - 1) / s.air.rate
    let burstOf (v : State) (l : List Item) : State :=
      l.foldl (dispatch h.truck) (joinUplink (takeHeader v h.truck h.zone) h.truck h.uplink)
    let unknown (v : State) (l : List Item) : State :=
      if Item.register ∈ l then posted v [.unknownTruck h.truck h.zone] else v
    (∀ x, s.air.turn = some x → x.truck = h.truck → x.winOpen ≤ s.nowMs → s.nowMs < x.winClose →
      ∃ v, v = countUplink s replyLength ∧
        if x.abandoned = true then
          exec (.reply h acks items) s = .next (settleEvent (goOn { v with air := { v.air with turn := none } }))
        else ∃ a b, a = acks.foldl (takeAck h.truck) (takeHeader v h.truck h.zone) ∧ b = endTurnQueue a h.truck ∧
          exec (.reply h acks items) s = .next (settleEvent (goOn
            (items.foldl (dispatch h.truck)
              (joinUplink { b with air := { b.air with turn := none } } h.truck h.uplink))))) ∧
    (∀ x v, s.air.turn = some x → x.truck = h.truck → x.winClose ≤ s.nowMs → exec .windowClosing s = .next v →
      exec (.reply h acks items) s = exec (.reply h acks items) v ∧
      ∀ y, v.air.turn = some y → s.nowMs < y.winOpen) ∧
    ((∀ x, s.air.turn = some x → x.truck ≠ h.truck ∨ (s.nowMs < x.winOpen ∧ s.nowMs < x.winClose)) →
      exec (.reply h acks items) s = .next
        (if (truckOf s h.truck).isSome = true then settleEvent (burstOf (countUplink s replyLength) items)
         else unknown (countUplink s replyLength) items)) ∧
    exec (.burst h item) s = .next
      (if (truckOf s h.truck).isSome = true then settleEvent (burstOf (countUplink s burstLength) [item])
       else unknown (countUplink s burstLength) [item]) ∧
    (∀ t, exec (.burst h item) s = .next t → s.air.turn.isSome = true → t.air.turn = s.air.turn) ∧
    (∀ t, exec (.reply h acks items) s = .next t → s.load.sent = [] →
      (∀ x, s.air.turn = some x → x.truck = h.truck → s.nowMs < x.winClose) →
      t.load.busy = s.load.busy + air replyLength) ∧
    (∀ t, exec (.burst h item) s = .next t → s.load.sent = [] → t.load.busy = s.load.busy + air burstLength))

/-- An acknowledgement (R121, R127): not taken unless it names a record of the truck's queue in flight; otherwise the
record leaves the queue and its owner is told: TEXT_DELIVERED for a TEXT (R129), EXECUTING for the step of a GRANT,
whose own hold a restore step releases (R102), the slot freed for a final PERMIT record (R73) and for a WITHDRAWN or
CANCELLED ORDER record (R34). An outcome whose subject is no longer in its table changes nothing at the owner, an
inference (notes/assumptions/31.md). The end of a turn (R122, R123): each record still in flight, in queue order, loses its
mark and counts an attempt; at the eighth it leaves the queue with UNDELIVERABLE, and then its owner is told: a
GRANT's step PENDING without a reason and its busy mark cleared (R103), the slot freed for a final PERMIT record (R73)
and for a WITHDRAWN or CANCELLED ORDER record, and an undelivered offer returned to QUEUED with its slot freed and
rolled over (R34). -/
def Obligations.AcknowledgementEndsRecord : Prop :=
  (∀ c : Content, c.summary =
    match c with
    | .order x => .order x.disp
    | .permit x => .permit x.state
    | .answer x => .answer x.kind x.step
    | .prompt x => .prompt x.kind
    | .assist l => .assist l.length
    | .text t => .text t.length) ∧
  (∀ (s : State) (t : Nat),
    match truckOf s t with
    | none => endTurnQueue s t = s
    | some k => endTurnQueue s t = ((k.queue.filter Rec.inFlight).map Rec.seq).foldl (endTurnRec t) s) ∧
  (∀ (s : State) (t seq : Nat) (k : Truck), QueuesInv s → truckOf s t = some k →
    ((∀ r ∈ k.queue, r.seq = seq → r.inFlight = false) → endTurnRec t s seq = s) ∧
    (∀ r ∈ k.queue, r.seq = seq → r.inFlight = true → r.attempts < 7 → ∃ u, endTurnRec t s seq = u ∧
      truckOf u t = some { k with queue := k.queue.map fun x =>
        if x.seq = seq then { x with inFlight := false, attempts := x.attempts + 1 } else x } ∧
      (∀ m, m ≠ t → truckOf u m = truckOf s m) ∧ u = { s with trucks := u.trucks, askArb := true }) ∧
    (∀ r ∈ k.queue, r.seq = seq → r.inFlight = true → 7 ≤ r.attempts →
      ∃ b k', truckOf b t = some k' ∧ k' = { k with queue := k'.queue } ∧ recFor k'.queue r.subject = none ∧
        (∀ y, y ≠ r.subject → recFor k'.queue y = recFor k.queue y) ∧ (∀ m, m ≠ t → truckOf b m = truckOf s m) ∧
        b = { posted s [.undeliverable t r.subject r.content.summary r.origin .attempts (r.attempts + 1)
              (stamp s r.entry)] with trucks := b.trucks, askArb := true } ∧
        let kept : Prop := endTurnRec t s seq = b
        let freed (f : Truck → Truck) : Prop := ∃ u, endTurnRec t s seq = u ∧ truckOf u t = some (f k') ∧
          (∀ m, m ≠ t → truckOf u m = truckOf b m) ∧ u = { b with trucks := u.trucks }
        match r.content with
        | .text _ => kept
        | .prompt _ => kept
        | .assist _ => kept
        | .permit c =>
          if c.state = .closed ∨ c.state = .cancelled then
            freed fun x => { x with permitSlots := x.permitSlots.filter (· != c.num) } else kept
        | .answer c =>
          if c.kind = .grant then ∃ u, endTurnRec t s seq = u ∧
            OnlyStep b u c.permit c.step (fun x => { x with state := .pending, reason := none }) ∧
            (∀ m, pointOf u m = (pointOf b m).map fun q =>
              if (stepIn b c.permit c.step).map StepRec.point = some m ∧
                  q.busy = some { permit := c.permit, step := c.step } then { q with busy := none } else q) ∧
            u = { b with permits := u.permits, points := u.points }
          else kept
        | .order c =>
          match orderOf s c.num with
          | none => kept
          | some o =>
            match c.disp with
            | .held => kept
            | .withdrawn => freed fun x => { x with orderSlots := x.orderSlots.filter (· != c.num) }
            | .cancelled => freed fun x => { x with orderSlots := x.orderSlots.filter (· != c.num) }
            | .offer =>
              if o.state = .offered ∧ o.assigned = some t then ∃ v, endTurnRec t s seq = rollover v c.num ∧
                orderOf v c.num = some { o with
                  state := .queued, assigned := none, offerTime := none, offerExpiry := none } ∧
                (∀ m, m ≠ c.num → orderOf v m = orderOf s m) ∧
                truckOf v t = some { k' with orderSlots := k'.orderSlots.filter (· != c.num) } ∧
                (∀ m, m ≠ t → truckOf v m = truckOf b m) ∧
                v = { posted b [.orderState c.num .queued none] with orders := v.orders, trucks := v.trucks }
              else kept)) ∧
  (∀ (s : State) (t seq : Nat) (k : Truck), QueuesInv s → truckOf s t = some k →
    ((∀ r ∈ k.queue, r.seq = seq → r.inFlight = false) → takeAck t s seq = s) ∧
    (∀ r ∈ k.queue, r.seq = seq → r.inFlight = true →
      ∃ u k', takeAck t s seq = u ∧ truckOf u t = some k' ∧ recFor k'.queue r.subject = none ∧
        (∀ y, y ≠ r.subject → recFor k'.queue y = recFor k.queue y) ∧
        k' = { k with queue := k'.queue, orderSlots := k'.orderSlots, permitSlots := k'.permitSlots } ∧
        (∀ m, m ≠ t → truckOf u m = truckOf s m) ∧
        (match r.content with
         | .text x => k'.orderSlots = k.orderSlots ∧ k'.permitSlots = k.permitSlots ∧
            u = { posted s [.textDelivered t seq x.length] with trucks := u.trucks }
         | .answer c => k'.orderSlots = k.orderSlots ∧ k'.permitSlots = k.permitSlots ∧
            u = { s with trucks := u.trucks, permits := u.permits, points := u.points } ∧
            (c.kind ≠ .grant → u.permits = s.permits ∧ u.points = s.points) ∧
            (c.kind = .grant → stepIn u c.permit c.step =
                ((stepIn s c.permit c.step).map fun x => { x with state := .executing }) ∧
              (c.step.list ≠ 1 → u.points = s.points) ∧
              ∀ x q, c.step.list = 1 → stepIn s c.permit c.step = some x → pointOf s x.point = some q →
                pointOf u x.point = some { q with holds := q.holds.filter fun y => y.permit != c.permit })
         | .permit c => k'.orderSlots = k.orderSlots ∧ u = { s with trucks := u.trucks } ∧
            k'.permitSlots = if c.state = .closed ∨ c.state = .cancelled then k.permitSlots.filter (· != c.num)
              else k.permitSlots
         | .order c => k'.permitSlots = k.permitSlots ∧ u = { s with trucks := u.trucks } ∧
            k'.orderSlots = if (c.disp = .withdrawn ∨ c.disp = .cancelled) ∧ (orderOf s c.num).isSome = true then
              k.orderSlots.filter (· != c.num) else k.orderSlots
         | _ => k'.orderSlots = k.orderSlots ∧ k'.permitSlots = k.permitSlots ∧ u = { s with trucks := u.trucks })))

/-- The Scheduler's moments (R139, R142, R143, R135); that each has no effect before it comes is an inference
(notes/assumptions/3.md). The scheduled start: in an idle GAP the next cycle; in GAP with a turn in flight it waits;
in LIST or WINDOW it is an overrun. The window's end: GAP and the arbiter, or the cycle that waits. The window
closing: the turn ends, an attempt is counted for each record still in flight, the truck's count is raised and the
missed-turn count too, unless the turn is abandoned. A cycle start numbers and schedules the cycle by the interval in
force before the staged entries come into force, and polls the first listed truck. A turn (R119, R132, R137, R101)
takes the records from the head of the queue that the budget holds, stopping at the first that does not fit, marks
them in flight, sets the grant-sent mark of the GRANTs among them, carries and empties the uplink list, and is handed
over at once with its window. The arbiter (R141) picks, of the REACHABLE and MISSED trucks whose route passes no DOWN
site and whose queue holds an urgent record not in flight, the one whose oldest such record came first, the lowest
number among equals. After a turn in LIST up to two urgent turns follow, then the next entry that is not passed over,
and behind the last the open window (R136, R142); after one in GAP the cycle that waits, or the arbiter (R143). That the
count of urgent turns is 0 from a cycle start and counts no turn in GAP is the model's choice (notes/assumptions/51.md). An event
that holds one of R143's occurrences asks the arbiter in GAP with no turn in flight; that it asks once, behind the event's
other steps, is an inference (notes/assumptions/9.md), on which every statement that ends in `settleEvent` rests. -/
def Obligations.SchedulerMoments : Prop :=
  (∀ s : State,
    let v : State := { s with askArb := false }
    let asked (a : State) : State := match arbiterPick a with
      | some n => beginTurn a n .urgent
      | none => a
    settleEvent s = (if s.askArb = true ∧ s.air.phase = .gap ∧ s.air.turn = none then asked v else v) ∧
    askIfIdle s = (if s.air.phase = .gap ∧ s.air.turn = none then asked s else s)) ∧
  (∀ c : Content, c.octets =
    match c with
    | .order x => 10 + x.loc.length + x.desc.length
    | .permit x => 8 + 8 * x.steps.length
    | .answer _ => 10
    | .prompt _ => 7
    | .assist l => 1 + 8 * l.length
    | .text t => 1 + t.length) ∧
  (∀ (s : State) (l : List Nat), hopSum s l = (l.map fun n => ((siteOf s n).map Site.hop).getD 0).sum) ∧
  (∀ (s : State) (n : Nat) (kind : TurnKind) (t : Truck), truckOf s n = some t →
    let weight (l : List Rec) : Nat := (l.map fun r => r.content.units).sum
    let octets (l : List Rec) : Nat :=
      9 + (if routeOf s t = [] then 0 else 1 + (routeOf s t).length) + t.upAcks.length +
        (l.map fun r => 4 + r.content.octets).sum
    ∃ u l rest x, beginTurn s n kind = u ∧ t.queue = l ++ rest ∧ weight l ≤ s.air.budget ∧
      l.length = leading s.air.budget t.queue ∧
      (∀ r, rest.head? = some r → s.air.budget < weight l + r.content.units) ∧
      truckOf u n = some { t with queue := (l.map fun r => { r with inFlight := true }) ++ rest, upAcks := [] } ∧
      (∀ m, m ≠ n → truckOf u m = truckOf s m) ∧
      (∀ p i, stepIn u p i = (stepIn s p i).map fun y =>
        if (l.any fun r => match r.content with
            | .answer c => c.kind == .grant && c.permit == p && c.step == i
            | _ => false) = true then { y with sent := true } else y) ∧
      (∀ m p, permitOf s m = some p → ∃ q, permitOf u m = some q ∧ q = { p with iso := q.iso, rest := q.rest }) ∧
      x = { truck := n, kind := kind, route := routeOf s t
            pollEnd := s.nowMs + (25 + (octets l * 8000 + s.air.rate - 1) / s.air.rate)
            winOpen := x.pollEnd + 2 * hopSum s (routeOf s t), winClose := x.winOpen + s.air.replyWindow
            abandoned := false } ∧
      u = { s with
        trucks := u.trucks, permits := u.permits
        air := { s.air with
          turn := some x, ttx := some (.poll (routeOf s t) n t.upAcks (l.map fun r => (r.seq, r.content))) }
        load := { s.load with sent := s.load.sent ++ [{ lo := s.nowMs, hi := x.pollEnd }] } }) ∧
  (∀ s : State, ascending Truck.num s.trucks →
    let waits (t : Truck) (r : Rec) : Prop :=
      t ∈ s.trucks ∧ (t.reach = .reachable ∨ t.reach = .missed) ∧ (routeOf s t).any (isDown s) = false ∧
      r ∈ t.queue ∧ r.content.urgent = true ∧ r.inFlight = false
    (∀ n, arbiterPick s = some n ↔ ∃ t r, waits t r ∧ t.num = n ∧
      ∀ t' r', waits t' r' → r.entry < r'.entry ∨ (r.entry = r'.entry ∧ n ≤ t'.num)) ∧
    (arbiterPick s = none ↔ ∀ t r, ¬waits t r)) ∧
  (∀ s : State,
    askInGap s = (match arbiterPick s with
      | some n => beginTurn s n .urgent
      | none => s) ∧
    (s.air.phase = .list → goOn s =
      if s.air.urgentRun < 2 then
        match arbiterPick s with
        | some n => beginTurn { s with air := { s.air with urgentRun := s.air.urgentRun + 1 } } n .urgent
        | none => takeEntries pastWindow s.air.list s
      else takeEntries pastWindow s.air.list s) ∧
    (s.air.phase = .gap → goOn s = if s.air.startReached = true then startCycle false s else askInGap s) ∧
    pastWindow s = (if s.air.startReached = true then startCycle false s
      else askInGap { s with air := { s.air with phase := .gap } })) ∧
  (∀ (past : State → State) (s : State),
    let passed (e : ListEntry) : Prop :=
      e.live = false ∨ (∀ t, truckOf s e.truck = some t → (routeOf s t).any (isDown s) = true)
    (∀ l1 e l2, (∀ x ∈ l1, passed x) → ¬passed e → takeEntries past (l1 ++ e :: l2) s =
      beginTurn { s with air := { s.air with list := l2, urgentRun := 0 } } e.truck .rollCall) ∧
    (∀ l, (∀ x ∈ l, passed x) → takeEntries past l s = enterWindow past { s with air := { s.air with list := [] } }) ∧
    (s.air.slots = 0 → enterWindow past s = past s) ∧
    (0 < s.air.slots → enterWindow past s =
      let d := 25 + (8 * 8000 + s.air.rate - 1) / s.air.rate
      { s with
        air := { s.air with
          phase := .window, winSlots := s.air.slots, winEnd := s.nowMs + d + s.air.slots * 300
          ttx := some (.open s.air.slots) }
        load := { s.load with sent := s.load.sent ++ [{ lo := s.nowMs, hi := s.nowMs + d }] } })) ∧
  (∀ s : State, Live s →
    (s.nowMs < s.air.nextStart ∨ s.air.startReached = true → exec .cycleStart s = .next s) ∧
    (s.air.nextStart ≤ s.nowMs → s.air.startReached = false →
      exec .cycleStart s = .next
        (if s.air.phase ≠ .gap then { s with air := { s.air with
            startReached := true, overruns := min (s.air.overruns + 1) 65535 } }
         else if s.air.turn.isSome = true then { s with air := { s.air with startReached := true } }
         else startCycle false s)) ∧
    (s.air.phase ≠ .window ∨ s.nowMs < s.air.winEnd → exec .openWindowEnd s = .next s) ∧
    (s.air.phase = .window → s.air.winEnd ≤ s.nowMs →
      exec .openWindowEnd s = .next
        (if s.air.startReached = true then startCycle false s
         else askInGap { s with air := { s.air with phase := .gap } })) ∧
    ((∀ x, s.air.turn = some x → s.nowMs < x.winClose) → exec .windowClosing s = .next s) ∧
    (∀ x, s.air.turn = some x → x.winClose ≤ s.nowMs → x.abandoned = true →
      exec .windowClosing s = .next (settleEvent (goOn { s with air := { s.air with turn := none } }))) ∧
    (∀ x k, s.air.turn = some x → x.winClose ≤ s.nowMs → x.abandoned = false → truckOf s x.truck = some k →
      ∃ v k', exec .windowClosing s = .next (settleEvent (goOn v)) ∧ v.air = { s.air with
          turn := none, missedTurns := min (s.air.missedTurns + 1) 65535 } ∧
        truckOf v x.truck = some k' ∧ k'.miss = (if k.reach = .absent then k.miss else min (k.miss + 1) 6) ∧
        k'.w1 = k.w1 ∧ k'.w2 = k.w2 ∧
        ((∀ r ∈ k.queue, r.inFlight = true → r.attempts < 7) →
          k'.queue = k.queue.map fun r =>
            if r.inFlight = true then { r with inFlight := false, attempts := r.attempts + 1 } else r)) ∧
    (∃ v, startCycle false s = v ∧ v.air.cycle = (s.air.cycle + 1) % 256 ∧ v.air.startTime = s.nowMs ∧
      v.air.nextStart = s.nowMs + (bandEntryInForce s).interval * 1000 ∧ v.air.startReached = false ∧
      v.air.rate = s.air.rateWaiting.getD s.air.rate ∧ v.air.rateWaiting = none ∧
      v.load.table = List.zipWith (fun e x => x.getD e) s.load.table s.load.staged ∧
      v.load.staged = s.load.staged.map (fun _ => none) ∧
      (∀ t l, (s.trucks.filter fun t => (routeOf s t).all (fun m => !isDown s m) &&
            (t.reach == .reachable || t.reach == .missed || (t.reach == .lost && (s.air.cycle + 1) % 256 % 4 == 0))) =
            t :: l → truckOf s t.num = some t →
        v.air.phase = .list ∧ v.air.list = l.map (fun t => { truck := t.num, live := true }) ∧
        ∃ y, v.air.turn = some y ∧ y.truck = t.num ∧ y.kind = .rollCall ∧ y.route = routeOf s t ∧
          y.abandoned = false ∧ y.winOpen = y.pollEnd + 2 * hopSum s y.route ∧
          y.winClose = y.winOpen + s.air.replyWindow)))

/-! ## The load meter -/

/-- Carrier edges (R164): one that changes nothing is ignored; a carrier-on notes the time; a carrier-off adds to the busy
time the part of the interval within the period that the counted frames do not cover, shown with no frame and with one
frame inside it. A downlink frame is counted once it has ended, an uplink frame at its decoding, and while the carrier is
ON its span covers carrier time (R163, R164), which is the number of milliseconds of the interval that no counted frame
covers. -/
def Obligations.CarrierTimeJoinsBusyTime : Prop :=
  (∀ (m : Load) (t : Nat),
    ((∀ x ∈ m.sent, t < x.hi) → m.settle t = m) ∧
    ((∀ x ∈ m.sent, x.hi < t) → m.settle t =
      { m with
        busy := m.busy + (m.sent.map fun x => x.hi - x.lo).sum, sent := []
        covers := if m.carrier.isSome = true then m.covers ++ m.sent else m.covers }) ∧
    (∀ d, m.sent = [] → m.uplink t d =
      { m with
        busy := m.busy + d
        covers := if m.carrier.isSome = true then m.covers ++ [{ lo := t - d, hi := t }] else m.covers }) ∧
    (m.carrier = none → m.carrierTime t = 0) ∧
    (∀ since, m.carrier = some since → (∀ x ∈ m.covers, x.lo ≤ x.hi) → m.carrierTime t =
      ((List.range t).filter fun i =>
        decide (max since m.periodStart ≤ i) && !(m.covers.any fun x => x.lo ≤ i && i < x.hi)).length)) ∧
  ∀ s : State, Live s →
    (s.load.carrier.isSome = true → exec .carrierOn s = .next s) ∧
    (s.load.carrier = none → exec .carrierOff s = .next s) ∧
    (s.load.carrier = none → ∃ u, exec .carrierOn s = .next u ∧ u = { s with load := u.load } ∧
      u.load = { s.load with carrier := some s.nowMs, covers := [], busy := u.load.busy, sent := u.load.sent } ∧
      (s.load.sent = [] → u.load.busy = s.load.busy ∧ u.load.sent = [])) ∧
    (∀ since, s.load.carrier = some since → ∃ u, exec .carrierOff s = .next u ∧ u = { s with load := u.load } ∧
      u.load = { s.load with carrier := none, covers := [], busy := u.load.busy, sent := u.load.sent } ∧
      s.load.busy ≤ u.load.busy ∧
      (s.load.sent = [] → s.load.covers = [] →
        u.load.busy = s.load.busy + (s.nowMs - max since s.load.periodStart)) ∧
      (∀ x : Span, s.load.sent = [] → s.load.covers = [x] → max since s.load.periodStart ≤ x.lo → x.lo ≤ x.hi →
        x.hi ≤ s.nowMs →
        u.load.busy + (x.hi - x.lo) = s.load.busy + (s.nowMs - max since s.load.periodStart)))

/-- The period end (R165, R166): not before 10 s have passed; the busy time capped at 10000 ms; the sample a tenth of it;
the load figure a quarter of the way to the sample, rounded away from the old value, so that it moves at every period it
differs, never passes the sample, reaches a steady one and stays, from 0 to 1000 within 22 periods; then the staged
thresholds in force and the band by them; the busy time 0; a notice only where the band changed. The sample stands until
the next period end or reset. That PERIOD_END before 10 s have passed changes nothing is an inference
(notes/assumptions/3.md); whether a frame that ends at the very moment counts before it is free
(notes/assumptions/14.md). -/
def Obligations.PeriodEndMovesLoadFigure : Prop :=
  (∀ s : State, Live s →
    if s.nowMs < s.load.periodStart + 10000 then exec .periodEnd s = .next s
    else
      let e := s.load.periodStart + 10000
      let raw := (s.load.settle e).busy + (s.load.settle e).carrierTime e
      let sample := min raw 10000 / 10
      let old := s.load.level
      let thr := s.load.thrStaged.getD s.load.thr
      let b := s.load.band
      ∃ t, exec .periodEnd s = .next t ∧ t.load.sample = some sample ∧ sample ≤ 1000 ∧
        t.load.level = (if old < sample then old + (sample - old + 3) / 4
          else if sample < old then old - (old - sample + 3) / 4 else old) ∧
        (old < sample → old + 1 ≤ t.load.level ∧ t.load.level ≤ sample) ∧
        (sample < old → sample ≤ t.load.level ∧ t.load.level + 1 ≤ old) ∧
        (old ≤ 1000 → t.load.level ≤ 1000) ∧
        t.load.busy = 0 ∧ t.load.periodStart = e ∧ t.load.thr = thr ∧ t.load.thrStaged = none ∧
        (∀ k, b < k → k ≤ 3 → thr.at k + thr.h ≤ t.load.level →
          (∀ j, k < j → j ≤ 3 → t.load.level < thr.at j + thr.h) → t.load.band = k) ∧
        ((∀ k, b < k → k ≤ 3 → t.load.level < thr.at k + thr.h) →
          (1 ≤ b → t.load.level < thr.at b → ∀ k, k ≤ 3 → thr.at k ≤ t.load.level →
            (∀ j, k < j → j ≤ 3 → t.load.level < thr.at j) → t.load.band = k) ∧
          (b = 0 ∨ thr.at b ≤ t.load.level → t.load.band = b)) ∧
        t = { (if t.load.band = b then s else post s (.loadBand b t.load.band t.load.level sample thr)) with
          load := t.load }) ∧
  (∀ x : Thresholds, x.at 0 = 0 ∧ x.at 1 = x.t1 ∧ x.at 2 = x.t2 ∧ x.at 3 = x.t3) ∧
  (∀ old sample : Nat, nextLevel old sample =
    if old < sample then old + (sample - old + 3) / 4
    else if sample < old then old - (old - sample + 3) / 4 else old) ∧
  (∀ level sample : Nat, ∃ n, ∀ m, n ≤ m → (List.replicate m sample).foldl nextLevel level = sample) ∧
  (List.replicate 22 1000).foldl nextLevel 0 = 1000 ∧
  (∀ (c : Instr) (s t : State), c ≠ .periodEnd → c ≠ .coldReset → c ≠ .warmReset → exec c s = .next t →
    t.load.sample = s.load.sample ∧ t.load.level = s.load.level ∧ t.load.band = s.load.band)

/-! ## What every step keeps -/

/-- Every invariant below holds right after a cold reset. -/
def Obligations.ResetMeetsInvariants : Prop :=
  TablesInv State.reset ∧ SlotsInv State.reset ∧ TriedInv State.reset ∧ DeadlineInv State.reset ∧
  QueuesInv State.reset ∧ UnattendedInv State.reset ∧ RefCountInv State.reset ∧ HoldsInv State.reset ∧
  CausesInv State.reset ∧ BandInv State.reset ∧ SitesInv State.reset ∧ SchedulerInv State.reset

/-- Every step keeps the tables: one record a number, within their sizes (R1, R17, R65, R88, R98, R178, R180). -/
def Obligations.StepKeepsTables : Prop :=
  ∀ s t : State, TablesInv s → step s = .next t → TablesInv t

/-- Every step keeps the slot and uplink lists and the pairing of reachability and miss count (R4, R12, R13, R132), the
candidate and tried lists (R17), and the bound on every running deadline (R45). -/
def Obligations.StepKeepsTruckRecords : Prop :=
  ∀ s t : State, TablesInv s → step s = .next t →
    (SlotsInv s → SlotsInv t) ∧ (TriedInv s → TriedInv t) ∧ (DeadlineInv s → DeadlineInv t)

/-- Every step keeps every outbound queue well formed: room, one record a subject, distinct sequence numbers, an ANSWER
immediately behind its PERMIT record (R112, R115, R117, R118). -/
def Obligations.StepKeepsQueues : Prop :=
  ∀ s t : State, TablesInv s → QueuesInv s → step s = .next t → QueuesInv t

/-- While the console is UNATTENDED no GRANT stands for a CLOSE, an UNGROUND or a CONFIRM-flagged step and no request is
pending: every step keeps it so (R104). -/
def Obligations.StepKeepsUnattendedRule : Prop :=
  ∀ s t : State, UnattendedInv s → step s = .next t → UnattendedInv t

/-- Every step keeps each point's count equal to the permits that name it (R88), and its holds at most four, of one
position, one a permit (R89). -/
def Obligations.StepKeepsPoints : Prop :=
  ∀ s t : State, step s = .next t → (RefCountInv s → RefCountInv t) ∧ (HoldsInv s → HoldsInv t)

/-- Every step keeps the band within its bounds (R166, R167), the structure of the site table (R149, R151) and the pairing
of phase and turn (R134, R142, R143). -/
def Obligations.StepKeepsAirRules : Prop :=
  ∀ s t : State, step s = .next t →
    (BandInv s → BandInv t) ∧ (SitesInv s → SitesInv t) ∧ (SchedulerInv s → SchedulerInv t)

/-- A permit never goes back: its state only moves on, CLOSED and CANCELLED are final and without causes, LOADED and
ISSUED are without SITE, and while it is open a latched cause leaves it by RESUME_PERMIT of that permit alone (R69,
R78, R83, R84). -/
def Obligations.PermitsOnlyMoveForward : Prop :=
  (∀ s t : State, CausesInv s → step s = .next t → CausesInv t) ∧
  (∀ (s t : State) (n : Nat) (p q : Permit), step s = .next t → permitOf s n = some p → permitOf t n = some q →
    p.state.rank ≤ q.state.rank ∧
    (p.state = .closed ∨ p.state = .cancelled → q.state = p.state) ∧
    ((∀ tag, s.pending.head? ≠ some (.resumePermit tag n)) → q.state.isOpen = true →
      (p.causes.host = true → q.causes.host = true) ∧ (p.causes.alarm = true → q.causes.alarm = true) ∧
      (p.causes.mismatch = true → q.causes.mismatch = true) ∧ (p.causes.conflict = true → q.causes.conflict = true)))

/-- What only some commands do. A context leaves ALARM by a CLOSE_ALARM for its seat, or, in an alarm mode other than
LATCHED, by a frame of its own truck (R39, R56 to R58). A point's position changes by SET_POINT of that point or by a
frame alone (R88). The console becomes ATTENDED by RESUME alone, and UNATTENDED by a lapse or a reset alone (R171, R175,
R176). A truck that has been heard is never ABSENT again (R4). -/
def Obligations.OnlyTheseCommandsMayChange : Prop :=
  ∀ s t : State, step s = .next t →
    (∀ n k k' seat, seat = 1 ∨ seat = 2 → truckOf s n = some k → truckOf t n = some k' →
      (k.watch seat).state = .alarm → (k'.watch seat).state ≠ .alarm →
      (∃ tag seat0, s.pending.head? = some (.closeAlarm tag n seat0) ∧ clamp 1 2 seat0 = seat) ∨
      ((k.watch seat).set.alarm ≠ .latched ∧
        ∃ h, h.truck = n ∧ ((∃ acks items, s.pending.head? = some (.reply h acks items)) ∨
          ∃ item, s.pending.head? = some (.burst h item)))) ∧
    (∀ n q q', pointOf s n = some q → pointOf t n = some q' → q'.position ≠ q.position →
      (∃ tag x, s.pending.head? = some (.setPoint tag n x)) ∨
      (∃ h acks items, s.pending.head? = some (.reply h acks items)) ∨
      ∃ h item, s.pending.head? = some (.burst h item)) ∧
    (s.sup.console = .unattended → t.sup.console = .attended → ∃ tag, s.pending.head? = some (.resume tag)) ∧
    (s.sup.console = .attended → t.sup.console = .unattended →
      s.pending.head? = some .lapse ∨ s.pending.head? = some .coldReset ∨ s.pending.head? = some .warmReset) ∧
    (∀ n k k', truckOf s n = some k → truckOf t n = some k' → k.reach ≠ .absent → k'.reach ≠ .absent)
end

