-- ==== Sys2Proof/Laws/State.lean ====
section
/-!
SUPPORT. One lemma per field per state update, true by unfolding, so that no later proof unfolds a record update; and the
watch contexts and steps inside their records.
-/
namespace Sys2Proof.Machine

/-! ## Tables -/

@[simp] theorem modTruck_clock (s : State) (n : Nat) (f : Truck → Truck) : (modTruck s n f).clock = s.clock := rfl
@[simp] theorem modTruck_held (s : State) (n : Nat) (f : Truck → Truck) : (modTruck s n f).held = s.held := rfl
@[simp] theorem modTruck_port (s : State) (n : Nat) (f : Truck → Truck) : (modTruck s n f).port = s.port := rfl
@[simp] theorem modTruck_sup (s : State) (n : Nat) (f : Truck → Truck) : (modTruck s n f).sup = s.sup := rfl
@[simp] theorem modTruck_trucks (s : State) (n : Nat) (f : Truck → Truck) : (modTruck s n f).trucks = changeBy Truck.num n f s.trucks := rfl
@[simp] theorem modTruck_orders (s : State) (n : Nat) (f : Truck → Truck) : (modTruck s n f).orders = s.orders := rfl
@[simp] theorem modTruck_permits (s : State) (n : Nat) (f : Truck → Truck) : (modTruck s n f).permits = s.permits := rfl
@[simp] theorem modTruck_points (s : State) (n : Nat) (f : Truck → Truck) : (modTruck s n f).points = s.points := rfl
@[simp] theorem modTruck_asks (s : State) (n : Nat) (f : Truck → Truck) : (modTruck s n f).asks = s.asks := rfl
@[simp] theorem modTruck_timeouts (s : State) (n : Nat) (f : Truck → Truck) : (modTruck s n f).timeouts = s.timeouts := rfl
@[simp] theorem modTruck_air (s : State) (n : Nat) (f : Truck → Truck) : (modTruck s n f).air = s.air := rfl
@[simp] theorem modTruck_sites (s : State) (n : Nat) (f : Truck → Truck) : (modTruck s n f).sites = s.sites := rfl
@[simp] theorem modTruck_policy (s : State) (n : Nat) (f : Truck → Truck) : (modTruck s n f).policy = s.policy := rfl
@[simp] theorem modTruck_graces (s : State) (n : Nat) (f : Truck → Truck) : (modTruck s n f).graces = s.graces := rfl
@[simp] theorem modTruck_load (s : State) (n : Nat) (f : Truck → Truck) : (modTruck s n f).load = s.load := rfl
@[simp] theorem modTruck_askArb (s : State) (n : Nat) (f : Truck → Truck) : (modTruck s n f).askArb = s.askArb := rfl
@[simp] theorem modTruck_choices (s : State) (n : Nat) (f : Truck → Truck) : (modTruck s n f).choices = s.choices := rfl
@[simp] theorem modTruck_pending (s : State) (n : Nat) (f : Truck → Truck) : (modTruck s n f).pending = s.pending := rfl

/-! ## Orders -/

@[simp] theorem modOrder_clock (s : State) (n : Nat) (f : Order → Order) : (modOrder s n f).clock = s.clock := rfl
@[simp] theorem modOrder_held (s : State) (n : Nat) (f : Order → Order) : (modOrder s n f).held = s.held := rfl
@[simp] theorem modOrder_port (s : State) (n : Nat) (f : Order → Order) : (modOrder s n f).port = s.port := rfl
@[simp] theorem modOrder_sup (s : State) (n : Nat) (f : Order → Order) : (modOrder s n f).sup = s.sup := rfl
@[simp] theorem modOrder_trucks (s : State) (n : Nat) (f : Order → Order) : (modOrder s n f).trucks = s.trucks := rfl
@[simp] theorem modOrder_orders (s : State) (n : Nat) (f : Order → Order) : (modOrder s n f).orders = changeBy Order.num n f s.orders := rfl
@[simp] theorem modOrder_permits (s : State) (n : Nat) (f : Order → Order) : (modOrder s n f).permits = s.permits := rfl
@[simp] theorem modOrder_points (s : State) (n : Nat) (f : Order → Order) : (modOrder s n f).points = s.points := rfl
@[simp] theorem modOrder_asks (s : State) (n : Nat) (f : Order → Order) : (modOrder s n f).asks = s.asks := rfl
@[simp] theorem modOrder_timeouts (s : State) (n : Nat) (f : Order → Order) : (modOrder s n f).timeouts = s.timeouts := rfl
@[simp] theorem modOrder_air (s : State) (n : Nat) (f : Order → Order) : (modOrder s n f).air = s.air := rfl
@[simp] theorem modOrder_sites (s : State) (n : Nat) (f : Order → Order) : (modOrder s n f).sites = s.sites := rfl
@[simp] theorem modOrder_policy (s : State) (n : Nat) (f : Order → Order) : (modOrder s n f).policy = s.policy := rfl
@[simp] theorem modOrder_graces (s : State) (n : Nat) (f : Order → Order) : (modOrder s n f).graces = s.graces := rfl
@[simp] theorem modOrder_load (s : State) (n : Nat) (f : Order → Order) : (modOrder s n f).load = s.load := rfl
@[simp] theorem modOrder_askArb (s : State) (n : Nat) (f : Order → Order) : (modOrder s n f).askArb = s.askArb := rfl
@[simp] theorem modOrder_choices (s : State) (n : Nat) (f : Order → Order) : (modOrder s n f).choices = s.choices := rfl
@[simp] theorem modOrder_pending (s : State) (n : Nat) (f : Order → Order) : (modOrder s n f).pending = s.pending := rfl

/-! ## Permits -/

@[simp] theorem modPermit_clock (s : State) (n : Nat) (f : Permit → Permit) : (modPermit s n f).clock = s.clock := rfl
@[simp] theorem modPermit_held (s : State) (n : Nat) (f : Permit → Permit) : (modPermit s n f).held = s.held := rfl
@[simp] theorem modPermit_port (s : State) (n : Nat) (f : Permit → Permit) : (modPermit s n f).port = s.port := rfl
@[simp] theorem modPermit_sup (s : State) (n : Nat) (f : Permit → Permit) : (modPermit s n f).sup = s.sup := rfl
@[simp] theorem modPermit_trucks (s : State) (n : Nat) (f : Permit → Permit) : (modPermit s n f).trucks = s.trucks := rfl
@[simp] theorem modPermit_orders (s : State) (n : Nat) (f : Permit → Permit) : (modPermit s n f).orders = s.orders := rfl
@[simp] theorem modPermit_permits (s : State) (n : Nat) (f : Permit → Permit) : (modPermit s n f).permits = changeBy Permit.num n f s.permits := rfl
@[simp] theorem modPermit_points (s : State) (n : Nat) (f : Permit → Permit) : (modPermit s n f).points = s.points := rfl
@[simp] theorem modPermit_asks (s : State) (n : Nat) (f : Permit → Permit) : (modPermit s n f).asks = s.asks := rfl
@[simp] theorem modPermit_timeouts (s : State) (n : Nat) (f : Permit → Permit) : (modPermit s n f).timeouts = s.timeouts := rfl
@[simp] theorem modPermit_air (s : State) (n : Nat) (f : Permit → Permit) : (modPermit s n f).air = s.air := rfl
@[simp] theorem modPermit_sites (s : State) (n : Nat) (f : Permit → Permit) : (modPermit s n f).sites = s.sites := rfl
@[simp] theorem modPermit_policy (s : State) (n : Nat) (f : Permit → Permit) : (modPermit s n f).policy = s.policy := rfl
@[simp] theorem modPermit_graces (s : State) (n : Nat) (f : Permit → Permit) : (modPermit s n f).graces = s.graces := rfl
@[simp] theorem modPermit_load (s : State) (n : Nat) (f : Permit → Permit) : (modPermit s n f).load = s.load := rfl
@[simp] theorem modPermit_askArb (s : State) (n : Nat) (f : Permit → Permit) : (modPermit s n f).askArb = s.askArb := rfl
@[simp] theorem modPermit_choices (s : State) (n : Nat) (f : Permit → Permit) : (modPermit s n f).choices = s.choices := rfl
@[simp] theorem modPermit_pending (s : State) (n : Nat) (f : Permit → Permit) : (modPermit s n f).pending = s.pending := rfl

/-! ## Points -/

@[simp] theorem modPoint_clock (s : State) (n : Nat) (f : Point → Point) : (modPoint s n f).clock = s.clock := rfl
@[simp] theorem modPoint_held (s : State) (n : Nat) (f : Point → Point) : (modPoint s n f).held = s.held := rfl
@[simp] theorem modPoint_port (s : State) (n : Nat) (f : Point → Point) : (modPoint s n f).port = s.port := rfl
@[simp] theorem modPoint_sup (s : State) (n : Nat) (f : Point → Point) : (modPoint s n f).sup = s.sup := rfl
@[simp] theorem modPoint_trucks (s : State) (n : Nat) (f : Point → Point) : (modPoint s n f).trucks = s.trucks := rfl
@[simp] theorem modPoint_orders (s : State) (n : Nat) (f : Point → Point) : (modPoint s n f).orders = s.orders := rfl
@[simp] theorem modPoint_permits (s : State) (n : Nat) (f : Point → Point) : (modPoint s n f).permits = s.permits := rfl
@[simp] theorem modPoint_points (s : State) (n : Nat) (f : Point → Point) : (modPoint s n f).points = changeBy Point.num n f s.points := rfl
@[simp] theorem modPoint_asks (s : State) (n : Nat) (f : Point → Point) : (modPoint s n f).asks = s.asks := rfl
@[simp] theorem modPoint_timeouts (s : State) (n : Nat) (f : Point → Point) : (modPoint s n f).timeouts = s.timeouts := rfl
@[simp] theorem modPoint_air (s : State) (n : Nat) (f : Point → Point) : (modPoint s n f).air = s.air := rfl
@[simp] theorem modPoint_sites (s : State) (n : Nat) (f : Point → Point) : (modPoint s n f).sites = s.sites := rfl
@[simp] theorem modPoint_policy (s : State) (n : Nat) (f : Point → Point) : (modPoint s n f).policy = s.policy := rfl
@[simp] theorem modPoint_graces (s : State) (n : Nat) (f : Point → Point) : (modPoint s n f).graces = s.graces := rfl
@[simp] theorem modPoint_load (s : State) (n : Nat) (f : Point → Point) : (modPoint s n f).load = s.load := rfl
@[simp] theorem modPoint_askArb (s : State) (n : Nat) (f : Point → Point) : (modPoint s n f).askArb = s.askArb := rfl
@[simp] theorem modPoint_choices (s : State) (n : Nat) (f : Point → Point) : (modPoint s n f).choices = s.choices := rfl
@[simp] theorem modPoint_pending (s : State) (n : Nat) (f : Point → Point) : (modPoint s n f).pending = s.pending := rfl

/-! ## Sites -/

@[simp] theorem modSite_clock (s : State) (n : Nat) (f : Site → Site) : (modSite s n f).clock = s.clock := rfl
@[simp] theorem modSite_held (s : State) (n : Nat) (f : Site → Site) : (modSite s n f).held = s.held := rfl
@[simp] theorem modSite_port (s : State) (n : Nat) (f : Site → Site) : (modSite s n f).port = s.port := rfl
@[simp] theorem modSite_sup (s : State) (n : Nat) (f : Site → Site) : (modSite s n f).sup = s.sup := rfl
@[simp] theorem modSite_trucks (s : State) (n : Nat) (f : Site → Site) : (modSite s n f).trucks = s.trucks := rfl
@[simp] theorem modSite_orders (s : State) (n : Nat) (f : Site → Site) : (modSite s n f).orders = s.orders := rfl
@[simp] theorem modSite_permits (s : State) (n : Nat) (f : Site → Site) : (modSite s n f).permits = s.permits := rfl
@[simp] theorem modSite_points (s : State) (n : Nat) (f : Site → Site) : (modSite s n f).points = s.points := rfl
@[simp] theorem modSite_asks (s : State) (n : Nat) (f : Site → Site) : (modSite s n f).asks = s.asks := rfl
@[simp] theorem modSite_timeouts (s : State) (n : Nat) (f : Site → Site) : (modSite s n f).timeouts = s.timeouts := rfl
@[simp] theorem modSite_air (s : State) (n : Nat) (f : Site → Site) : (modSite s n f).air = s.air := rfl
@[simp] theorem modSite_sites (s : State) (n : Nat) (f : Site → Site) : (modSite s n f).sites = changeBy Site.num n f s.sites := rfl
@[simp] theorem modSite_policy (s : State) (n : Nat) (f : Site → Site) : (modSite s n f).policy = s.policy := rfl
@[simp] theorem modSite_graces (s : State) (n : Nat) (f : Site → Site) : (modSite s n f).graces = s.graces := rfl
@[simp] theorem modSite_load (s : State) (n : Nat) (f : Site → Site) : (modSite s n f).load = s.load := rfl
@[simp] theorem modSite_askArb (s : State) (n : Nat) (f : Site → Site) : (modSite s n f).askArb = s.askArb := rfl
@[simp] theorem modSite_choices (s : State) (n : Nat) (f : Site → Site) : (modSite s n f).choices = s.choices := rfl
@[simp] theorem modSite_pending (s : State) (n : Nat) (f : Site → Site) : (modSite s n f).pending = s.pending := rfl

/-! ## The armed window (R172) -/

@[simp] theorem armWindow_clock (s : State) : (armWindow s).clock = s.clock := rfl
@[simp] theorem armWindow_held (s : State) : (armWindow s).held = s.held := rfl
@[simp] theorem armWindow_port (s : State) : (armWindow s).port = s.port := rfl
@[simp] theorem armWindow_sup (s : State) : (armWindow s).sup = { s.sup with
      lastValid := some s.now, lapse := if s.sup.mode = .off then s.sup.lapse else some (s.now + s.sup.window) } := rfl
@[simp] theorem armWindow_trucks (s : State) : (armWindow s).trucks = s.trucks := rfl
@[simp] theorem armWindow_orders (s : State) : (armWindow s).orders = s.orders := rfl
@[simp] theorem armWindow_permits (s : State) : (armWindow s).permits = s.permits := rfl
@[simp] theorem armWindow_points (s : State) : (armWindow s).points = s.points := rfl
@[simp] theorem armWindow_asks (s : State) : (armWindow s).asks = s.asks := rfl
@[simp] theorem armWindow_timeouts (s : State) : (armWindow s).timeouts = s.timeouts := rfl
@[simp] theorem armWindow_air (s : State) : (armWindow s).air = s.air := rfl
@[simp] theorem armWindow_sites (s : State) : (armWindow s).sites = s.sites := rfl
@[simp] theorem armWindow_policy (s : State) : (armWindow s).policy = s.policy := rfl
@[simp] theorem armWindow_graces (s : State) : (armWindow s).graces = s.graces := rfl
@[simp] theorem armWindow_load (s : State) : (armWindow s).load = s.load := rfl
@[simp] theorem armWindow_askArb (s : State) : (armWindow s).askArb = s.askArb := rfl
@[simp] theorem armWindow_choices (s : State) : (armWindow s).choices = s.choices := rfl
@[simp] theorem armWindow_pending (s : State) : (armWindow s).pending = s.pending := rfl

/-! ## LINK_FAULT (R177) -/

@[simp] theorem setLinkFault_clock (s : State) : (setLinkFault s).clock = s.clock := rfl
@[simp] theorem setLinkFault_held (s : State) : (setLinkFault s).held = s.held := rfl
@[simp] theorem setLinkFault_port (s : State) : (setLinkFault s).port = { s.port with sticky := { s.port.sticky with linkFault := true } } := rfl
@[simp] theorem setLinkFault_sup (s : State) : (setLinkFault s).sup = s.sup := rfl
@[simp] theorem setLinkFault_trucks (s : State) : (setLinkFault s).trucks = s.trucks := rfl
@[simp] theorem setLinkFault_orders (s : State) : (setLinkFault s).orders = s.orders := rfl
@[simp] theorem setLinkFault_permits (s : State) : (setLinkFault s).permits = s.permits := rfl
@[simp] theorem setLinkFault_points (s : State) : (setLinkFault s).points = s.points := rfl
@[simp] theorem setLinkFault_asks (s : State) : (setLinkFault s).asks = s.asks := rfl
@[simp] theorem setLinkFault_timeouts (s : State) : (setLinkFault s).timeouts = s.timeouts := rfl
@[simp] theorem setLinkFault_air (s : State) : (setLinkFault s).air = s.air := rfl
@[simp] theorem setLinkFault_sites (s : State) : (setLinkFault s).sites = s.sites := rfl
@[simp] theorem setLinkFault_policy (s : State) : (setLinkFault s).policy = s.policy := rfl
@[simp] theorem setLinkFault_graces (s : State) : (setLinkFault s).graces = s.graces := rfl
@[simp] theorem setLinkFault_load (s : State) : (setLinkFault s).load = s.load := rfl
@[simp] theorem setLinkFault_askArb (s : State) : (setLinkFault s).askArb = s.askArb := rfl
@[simp] theorem setLinkFault_choices (s : State) : (setLinkFault s).choices = s.choices := rfl
@[simp] theorem setLinkFault_pending (s : State) : (setLinkFault s).pending = s.pending := rfl

/-! ## LAPSED (R174) -/

@[simp] theorem setLapsed_clock (s : State) : (setLapsed s).clock = s.clock := rfl
@[simp] theorem setLapsed_held (s : State) : (setLapsed s).held = s.held := rfl
@[simp] theorem setLapsed_port (s : State) : (setLapsed s).port = { s.port with sticky := { s.port.sticky with lapsed := true } } := rfl
@[simp] theorem setLapsed_sup (s : State) : (setLapsed s).sup = s.sup := rfl
@[simp] theorem setLapsed_trucks (s : State) : (setLapsed s).trucks = s.trucks := rfl
@[simp] theorem setLapsed_orders (s : State) : (setLapsed s).orders = s.orders := rfl
@[simp] theorem setLapsed_permits (s : State) : (setLapsed s).permits = s.permits := rfl
@[simp] theorem setLapsed_points (s : State) : (setLapsed s).points = s.points := rfl
@[simp] theorem setLapsed_asks (s : State) : (setLapsed s).asks = s.asks := rfl
@[simp] theorem setLapsed_timeouts (s : State) : (setLapsed s).timeouts = s.timeouts := rfl
@[simp] theorem setLapsed_air (s : State) : (setLapsed s).air = s.air := rfl
@[simp] theorem setLapsed_sites (s : State) : (setLapsed s).sites = s.sites := rfl
@[simp] theorem setLapsed_policy (s : State) : (setLapsed s).policy = s.policy := rfl
@[simp] theorem setLapsed_graces (s : State) : (setLapsed s).graces = s.graces := rfl
@[simp] theorem setLapsed_load (s : State) : (setLapsed s).load = s.load := rfl
@[simp] theorem setLapsed_askArb (s : State) : (setLapsed s).askArb = s.askArb := rfl
@[simp] theorem setLapsed_choices (s : State) : (setLapsed s).choices = s.choices := rfl
@[simp] theorem setLapsed_pending (s : State) : (setLapsed s).pending = s.pending := rfl

/-! ## The sticky flags cleared (R181) -/

@[simp] theorem clearSticky_clock (s : State) : (clearSticky s).clock = s.clock := rfl
@[simp] theorem clearSticky_held (s : State) : (clearSticky s).held = s.held := rfl
@[simp] theorem clearSticky_port (s : State) : (clearSticky s).port = { s.port with
      sticky := { restarted := false, linkFault := false, lapsed := false, noticesLost := false } } := rfl
@[simp] theorem clearSticky_sup (s : State) : (clearSticky s).sup = s.sup := rfl
@[simp] theorem clearSticky_trucks (s : State) : (clearSticky s).trucks = s.trucks := rfl
@[simp] theorem clearSticky_orders (s : State) : (clearSticky s).orders = s.orders := rfl
@[simp] theorem clearSticky_permits (s : State) : (clearSticky s).permits = s.permits := rfl
@[simp] theorem clearSticky_points (s : State) : (clearSticky s).points = s.points := rfl
@[simp] theorem clearSticky_asks (s : State) : (clearSticky s).asks = s.asks := rfl
@[simp] theorem clearSticky_timeouts (s : State) : (clearSticky s).timeouts = s.timeouts := rfl
@[simp] theorem clearSticky_air (s : State) : (clearSticky s).air = s.air := rfl
@[simp] theorem clearSticky_sites (s : State) : (clearSticky s).sites = s.sites := rfl
@[simp] theorem clearSticky_policy (s : State) : (clearSticky s).policy = s.policy := rfl
@[simp] theorem clearSticky_graces (s : State) : (clearSticky s).graces = s.graces := rfl
@[simp] theorem clearSticky_load (s : State) : (clearSticky s).load = s.load := rfl
@[simp] theorem clearSticky_askArb (s : State) : (clearSticky s).askArb = s.askArb := rfl
@[simp] theorem clearSticky_choices (s : State) : (clearSticky s).choices = s.choices := rfl
@[simp] theorem clearSticky_pending (s : State) : (clearSticky s).pending = s.pending := rfl

/-! ## The end of the turn in flight (R138) -/

@[simp] theorem clearTurn_clock (s : State) : (clearTurn s).clock = s.clock := rfl
@[simp] theorem clearTurn_held (s : State) : (clearTurn s).held = s.held := rfl
@[simp] theorem clearTurn_port (s : State) : (clearTurn s).port = s.port := rfl
@[simp] theorem clearTurn_sup (s : State) : (clearTurn s).sup = s.sup := rfl
@[simp] theorem clearTurn_trucks (s : State) : (clearTurn s).trucks = s.trucks := rfl
@[simp] theorem clearTurn_orders (s : State) : (clearTurn s).orders = s.orders := rfl
@[simp] theorem clearTurn_permits (s : State) : (clearTurn s).permits = s.permits := rfl
@[simp] theorem clearTurn_points (s : State) : (clearTurn s).points = s.points := rfl
@[simp] theorem clearTurn_asks (s : State) : (clearTurn s).asks = s.asks := rfl
@[simp] theorem clearTurn_timeouts (s : State) : (clearTurn s).timeouts = s.timeouts := rfl
@[simp] theorem clearTurn_air (s : State) : (clearTurn s).air = { s.air with turn := none } := rfl
@[simp] theorem clearTurn_sites (s : State) : (clearTurn s).sites = s.sites := rfl
@[simp] theorem clearTurn_policy (s : State) : (clearTurn s).policy = s.policy := rfl
@[simp] theorem clearTurn_graces (s : State) : (clearTurn s).graces = s.graces := rfl
@[simp] theorem clearTurn_load (s : State) : (clearTurn s).load = s.load := rfl
@[simp] theorem clearTurn_askArb (s : State) : (clearTurn s).askArb = s.askArb := rfl
@[simp] theorem clearTurn_choices (s : State) : (clearTurn s).choices = s.choices := rfl
@[simp] theorem clearTurn_pending (s : State) : (clearTurn s).pending = s.pending := rfl

/-! ## The airtime of an uplink frame (R163) -/

@[simp] theorem countUplink_clock (s : State) (n : Nat) : (countUplink s n).clock = s.clock := rfl
@[simp] theorem countUplink_held (s : State) (n : Nat) : (countUplink s n).held = s.held := rfl
@[simp] theorem countUplink_port (s : State) (n : Nat) : (countUplink s n).port = s.port := rfl
@[simp] theorem countUplink_sup (s : State) (n : Nat) : (countUplink s n).sup = s.sup := rfl
@[simp] theorem countUplink_trucks (s : State) (n : Nat) : (countUplink s n).trucks = s.trucks := rfl
@[simp] theorem countUplink_orders (s : State) (n : Nat) : (countUplink s n).orders = s.orders := rfl
@[simp] theorem countUplink_permits (s : State) (n : Nat) : (countUplink s n).permits = s.permits := rfl
@[simp] theorem countUplink_points (s : State) (n : Nat) : (countUplink s n).points = s.points := rfl
@[simp] theorem countUplink_asks (s : State) (n : Nat) : (countUplink s n).asks = s.asks := rfl
@[simp] theorem countUplink_timeouts (s : State) (n : Nat) : (countUplink s n).timeouts = s.timeouts := rfl
@[simp] theorem countUplink_air (s : State) (n : Nat) : (countUplink s n).air = s.air := rfl
@[simp] theorem countUplink_sites (s : State) (n : Nat) : (countUplink s n).sites = s.sites := rfl
@[simp] theorem countUplink_policy (s : State) (n : Nat) : (countUplink s n).policy = s.policy := rfl
@[simp] theorem countUplink_graces (s : State) (n : Nat) : (countUplink s n).graces = s.graces := rfl
@[simp] theorem countUplink_load (s : State) (n : Nat) : (countUplink s n).load = s.load.uplink s.nowMs (airtime n s.air.rate) := rfl
@[simp] theorem countUplink_askArb (s : State) (n : Nat) : (countUplink s n).askArb = s.askArb := rfl
@[simp] theorem countUplink_choices (s : State) (n : Nat) : (countUplink s n).choices = s.choices := rfl
@[simp] theorem countUplink_pending (s : State) (n : Nat) : (countUplink s n).pending = s.pending := rfl

/-! ## A frame handed to the transceiver link (R131) -/

@[simp] theorem handOver_clock (s : State) (f : DownFrame) (n : Nat) : (handOver s f n).clock = s.clock := rfl
@[simp] theorem handOver_held (s : State) (f : DownFrame) (n : Nat) : (handOver s f n).held = s.held := rfl
@[simp] theorem handOver_port (s : State) (f : DownFrame) (n : Nat) : (handOver s f n).port = s.port := rfl
@[simp] theorem handOver_sup (s : State) (f : DownFrame) (n : Nat) : (handOver s f n).sup = s.sup := rfl
@[simp] theorem handOver_trucks (s : State) (f : DownFrame) (n : Nat) : (handOver s f n).trucks = s.trucks := rfl
@[simp] theorem handOver_orders (s : State) (f : DownFrame) (n : Nat) : (handOver s f n).orders = s.orders := rfl
@[simp] theorem handOver_permits (s : State) (f : DownFrame) (n : Nat) : (handOver s f n).permits = s.permits := rfl
@[simp] theorem handOver_points (s : State) (f : DownFrame) (n : Nat) : (handOver s f n).points = s.points := rfl
@[simp] theorem handOver_asks (s : State) (f : DownFrame) (n : Nat) : (handOver s f n).asks = s.asks := rfl
@[simp] theorem handOver_timeouts (s : State) (f : DownFrame) (n : Nat) : (handOver s f n).timeouts = s.timeouts := rfl
@[simp] theorem handOver_air (s : State) (f : DownFrame) (n : Nat) : (handOver s f n).air = { s.air with ttx := some f } := rfl
@[simp] theorem handOver_sites (s : State) (f : DownFrame) (n : Nat) : (handOver s f n).sites = s.sites := rfl
@[simp] theorem handOver_policy (s : State) (f : DownFrame) (n : Nat) : (handOver s f n).policy = s.policy := rfl
@[simp] theorem handOver_graces (s : State) (f : DownFrame) (n : Nat) : (handOver s f n).graces = s.graces := rfl
@[simp] theorem handOver_load (s : State) (f : DownFrame) (n : Nat) : (handOver s f n).load = { s.load with
      sent := s.load.sent ++ [{ lo := s.nowMs, hi := s.nowMs + airtime n s.air.rate }] } := rfl
@[simp] theorem handOver_askArb (s : State) (f : DownFrame) (n : Nat) : (handOver s f n).askArb = s.askArb := rfl
@[simp] theorem handOver_choices (s : State) (f : DownFrame) (n : Nat) : (handOver s f n).choices = s.choices := rfl
@[simp] theorem handOver_pending (s : State) (f : DownFrame) (n : Nat) : (handOver s f n).pending = s.pending := rfl

/-! ## The frame being received on CRX (R177) -/

@[simp] theorem Port.dropRx_rx (p : Port) : p.dropRx.rx = .hunting := rfl
@[simp] theorem Port.dropRx_buffer (p : Port) : p.dropRx.buffer = p.buffer := rfl
@[simp] theorem Port.dropRx_notices (p : Port) : p.dropRx.notices = p.notices := rfl
@[simp] theorem Port.dropRx_ctx (p : Port) : p.dropRx.ctx = p.ctx := rfl
@[simp] theorem Port.dropRx_sticky (p : Port) : p.dropRx.sticky = p.sticky := rfl
@[simp] theorem Port.dropRx_rate (p : Port) : p.dropRx.rate = p.rate := rfl
@[simp] theorem Port.dropRx_rateToCome (p : Port) : p.dropRx.rateToCome = p.rateToCome := rfl
@[simp] theorem Port.dropRx_restart (p : Port) : p.dropRx.restart = p.restart := rfl
@[simp] theorem Rx.receiving_hunting : Rx.hunting.receiving = false := rfl
@[simp] theorem Rx.receiving_within (got : List Octet) (last : Nat) : (Rx.within got last).receiving = true := rfl
@[simp] theorem Rx.overdue_hunting (t : Nat) : Rx.hunting.overdue t = false := rfl
@[simp] theorem Rx.overdue_within (got : List Octet) (last t : Nat) :
    (Rx.within got last).overdue t = decide (last + 50 < t) := rfl

@[simp] theorem dropOverdue_clock (s : State) : (dropOverdue s).clock = s.clock := by unfold dropOverdue; split <;> rfl
@[simp] theorem dropOverdue_held (s : State) : (dropOverdue s).held = s.held := by unfold dropOverdue; split <;> rfl
@[simp] theorem dropOverdue_sup (s : State) : (dropOverdue s).sup = s.sup := by unfold dropOverdue; split <;> rfl
@[simp] theorem dropOverdue_trucks (s : State) : (dropOverdue s).trucks = s.trucks := by unfold dropOverdue; split <;> rfl
@[simp] theorem dropOverdue_orders (s : State) : (dropOverdue s).orders = s.orders := by unfold dropOverdue; split <;> rfl
@[simp] theorem dropOverdue_permits (s : State) : (dropOverdue s).permits = s.permits := by unfold dropOverdue; split <;> rfl
@[simp] theorem dropOverdue_points (s : State) : (dropOverdue s).points = s.points := by unfold dropOverdue; split <;> rfl
@[simp] theorem dropOverdue_asks (s : State) : (dropOverdue s).asks = s.asks := by unfold dropOverdue; split <;> rfl
@[simp] theorem dropOverdue_timeouts (s : State) : (dropOverdue s).timeouts = s.timeouts := by unfold dropOverdue; split <;> rfl
@[simp] theorem dropOverdue_air (s : State) : (dropOverdue s).air = s.air := by unfold dropOverdue; split <;> rfl
@[simp] theorem dropOverdue_sites (s : State) : (dropOverdue s).sites = s.sites := by unfold dropOverdue; split <;> rfl
@[simp] theorem dropOverdue_policy (s : State) : (dropOverdue s).policy = s.policy := by unfold dropOverdue; split <;> rfl
@[simp] theorem dropOverdue_graces (s : State) : (dropOverdue s).graces = s.graces := by unfold dropOverdue; split <;> rfl
@[simp] theorem dropOverdue_load (s : State) : (dropOverdue s).load = s.load := by unfold dropOverdue; split <;> rfl
@[simp] theorem dropOverdue_askArb (s : State) : (dropOverdue s).askArb = s.askArb := by unfold dropOverdue; split <;> rfl
@[simp] theorem dropOverdue_choices (s : State) : (dropOverdue s).choices = s.choices := by unfold dropOverdue; split <;> rfl
@[simp] theorem dropOverdue_pending (s : State) : (dropOverdue s).pending = s.pending := by unfold dropOverdue; split <;> rfl

/-- An octet on CRX changes the receiver and puts at most two commands behind those that wait, and does nothing else. -/
theorem crxOctet_frame (s : State) (b : Octet) :
    ∃ x l, l.length ≤ 2 ∧ crxOctet s b = { s with port := { s.port with rx := x }, pending := s.pending ++ l } := by
  unfold crxOctet
  split
  · exact ⟨s.port.rx, [], by simp, by simp⟩
  · refine ⟨((s.port.rx.gap s.nowMs).1.octet s.nowMs b).1,
      (s.port.rx.gap s.nowMs).2.toList ++ ((s.port.rx.gap s.nowMs).1.octet s.nowMs b).2.toList, ?_, ?_⟩
    · cases (s.port.rx.gap s.nowMs).2 <;> cases ((s.port.rx.gap s.nowMs).1.octet s.nowMs b).2 <;> simp
    · simp only [List.append_assoc]

@[simp] theorem crxOctet_clock (s : State) (b : Octet) : (crxOctet s b).clock = s.clock := by unfold crxOctet; split <;> rfl
@[simp] theorem crxOctet_held (s : State) (b : Octet) : (crxOctet s b).held = s.held := by unfold crxOctet; split <;> rfl
@[simp] theorem crxOctet_sup (s : State) (b : Octet) : (crxOctet s b).sup = s.sup := by unfold crxOctet; split <;> rfl
@[simp] theorem crxOctet_trucks (s : State) (b : Octet) : (crxOctet s b).trucks = s.trucks := by unfold crxOctet; split <;> rfl
@[simp] theorem crxOctet_orders (s : State) (b : Octet) : (crxOctet s b).orders = s.orders := by unfold crxOctet; split <;> rfl
@[simp] theorem crxOctet_permits (s : State) (b : Octet) : (crxOctet s b).permits = s.permits := by unfold crxOctet; split <;> rfl
@[simp] theorem crxOctet_points (s : State) (b : Octet) : (crxOctet s b).points = s.points := by unfold crxOctet; split <;> rfl
@[simp] theorem crxOctet_asks (s : State) (b : Octet) : (crxOctet s b).asks = s.asks := by unfold crxOctet; split <;> rfl
@[simp] theorem crxOctet_timeouts (s : State) (b : Octet) : (crxOctet s b).timeouts = s.timeouts := by unfold crxOctet; split <;> rfl
@[simp] theorem crxOctet_air (s : State) (b : Octet) : (crxOctet s b).air = s.air := by unfold crxOctet; split <;> rfl
@[simp] theorem crxOctet_sites (s : State) (b : Octet) : (crxOctet s b).sites = s.sites := by unfold crxOctet; split <;> rfl
@[simp] theorem crxOctet_policy (s : State) (b : Octet) : (crxOctet s b).policy = s.policy := by unfold crxOctet; split <;> rfl
@[simp] theorem crxOctet_graces (s : State) (b : Octet) : (crxOctet s b).graces = s.graces := by unfold crxOctet; split <;> rfl
@[simp] theorem crxOctet_load (s : State) (b : Octet) : (crxOctet s b).load = s.load := by unfold crxOctet; split <;> rfl
@[simp] theorem crxOctet_askArb (s : State) (b : Octet) : (crxOctet s b).askArb = s.askArb := by unfold crxOctet; split <;> rfl
@[simp] theorem crxOctet_choices (s : State) (b : Octet) : (crxOctet s b).choices = s.choices := by unfold crxOctet; split <;> rfl

/-! ## Watch contexts of a truck -/

@[simp] theorem Truck.withWatch_num (t : Truck) (seat : Nat) (w : Watch) : (t.withWatch seat w).num = t.num := by
  unfold Truck.withWatch; split <;> rfl
@[simp] theorem Truck.withWatch_reach (t : Truck) (seat : Nat) (w : Watch) : (t.withWatch seat w).reach = t.reach := by
  unfold Truck.withWatch; split <;> rfl
@[simp] theorem Truck.withWatch_miss (t : Truck) (seat : Nat) (w : Watch) : (t.withWatch seat w).miss = t.miss := by
  unfold Truck.withWatch; split <;> rfl
@[simp] theorem Truck.withWatch_zone (t : Truck) (seat : Nat) (w : Watch) : (t.withWatch seat w).zone = t.zone := by
  unfold Truck.withWatch; split <;> rfl
@[simp] theorem Truck.withWatch_lastHeard (t : Truck) (seat : Nat) (w : Watch) : (t.withWatch seat w).lastHeard = t.lastHeard := by
  unfold Truck.withWatch; split <;> rfl
@[simp] theorem Truck.withWatch_orderSlots (t : Truck) (seat : Nat) (w : Watch) : (t.withWatch seat w).orderSlots = t.orderSlots := by
  unfold Truck.withWatch; split <;> rfl
@[simp] theorem Truck.withWatch_permitSlots (t : Truck) (seat : Nat) (w : Watch) : (t.withWatch seat w).permitSlots = t.permitSlots := by
  unfold Truck.withWatch; split <;> rfl
@[simp] theorem Truck.withWatch_queue (t : Truck) (seat : Nat) (w : Watch) : (t.withWatch seat w).queue = t.queue := by
  unfold Truck.withWatch; split <;> rfl
@[simp] theorem Truck.withWatch_seqCtr (t : Truck) (seat : Nat) (w : Watch) : (t.withWatch seat w).seqCtr = t.seqCtr := by
  unfold Truck.withWatch; split <;> rfl
@[simp] theorem Truck.withWatch_upAcks (t : Truck) (seat : Nat) (w : Watch) : (t.withWatch seat w).upAcks = t.upAcks := by
  unfold Truck.withWatch; split <;> rfl
@[simp] theorem Truck.withWatch_one (t : Truck) (w : Watch) : t.withWatch 1 w = { t with w1 := w } := rfl
@[simp] theorem Truck.withWatch_two (t : Truck) (w : Watch) : t.withWatch 2 w = { t with w2 := w } := rfl
@[simp] theorem Truck.watch_one (t : Truck) : t.watch 1 = t.w1 := rfl
@[simp] theorem Truck.watch_two (t : Truck) : t.watch 2 = t.w2 := rfl
@[simp] theorem Truck.withWatch_watch (t : Truck) (seat : Nat) (w : Watch) : (t.withWatch seat w).watch seat = w := by
  unfold Truck.withWatch Truck.watch; split <;> rfl

/-! ## Steps of a permit -/

@[simp] theorem Permit.withStep_num (p : Permit) (i : StepId) (f : StepRec → StepRec) :
    (p.withStep i f).num = p.num := by
  unfold Permit.withStep; split <;> (try split) <;> (try split) <;> rfl
@[simp] theorem Permit.withStep_holder (p : Permit) (i : StepId) (f : StepRec → StepRec) :
    (p.withStep i f).holder = p.holder := by
  unfold Permit.withStep; split <;> (try split) <;> (try split) <;> rfl
@[simp] theorem Permit.withStep_linked (p : Permit) (i : StepId) (f : StepRec → StepRec) :
    (p.withStep i f).linked = p.linked := by
  unfold Permit.withStep; split <;> (try split) <;> (try split) <;> rfl
@[simp] theorem Permit.withStep_state (p : Permit) (i : StepId) (f : StepRec → StepRec) :
    (p.withStep i f).state = p.state := by
  unfold Permit.withStep; split <;> (try split) <;> (try split) <;> rfl
@[simp] theorem Permit.withStep_causes (p : Permit) (i : StepId) (f : StepRec → StepRec) :
    (p.withStep i f).causes = p.causes := by
  unfold Permit.withStep; split <;> (try split) <;> (try split) <;> rfl
@[simp] theorem Permit.withStep_issueTime (p : Permit) (i : StepId) (f : StepRec → StepRec) :
    (p.withStep i f).issueTime = p.issueTime := by
  unfold Permit.withStep; split <;> (try split) <;> (try split) <;> rfl

/-! ## The outcome of a command -/

/-- An event of a live part is taken and settled. -/
theorem event_live {s : State} (f : State → State) (h : s.held = false) : event f s = .next (settleEvent (f s)) := by
  simp [event, unlessHeld, h]

/-- A part held in reset takes nothing (R184). -/
theorem event_held {s : State} (f : State → State) (h : s.held = true) : event f s = .next s := by
  simp [event, unlessHeld, h]

/-- A request that is served: its reply is attached before its effects (R178, R179). -/
theorem request_served {s : State} (k tag : Nat) (f : State → Served) (h : s.held = false)
    (hr : s.port.restart = .running) (hb : s.port.buffer.length < 4) :
    request k tag f s =
      .next (settleEvent (f (attach (armWindow s) k tag (f (armWindow s)).2)).1) := by
  have hb' : ¬4 ≤ s.port.buffer.length := by omega
  simp [request, unlessHeld, serve, h, hr, hb']

/-- A part held in reset takes no request (R184). -/
theorem request_held {s : State} (k tag : Nat) (f : State → Served) (h : s.held = true) : request k tag f s = .next s := by
  simp [request, unlessHeld, h]

end Sys2Proof.Machine
end

