-- ==== Sys2Proof/Laws/Tables.lean ====
section
/-!
SUPPORT. What the table operations do: one lemma for each operation and each question about it, the analogue of read
after write and of the frame of a write.
-/
namespace Sys2Proof.Machine

/-! ## Reading a table -/

@[simp] theorem findBy_nil {α : Type} (key : α → Nat) (n : Nat) : findBy key n [] = none := rfl

theorem findBy_cons {α : Type} (key : α → Nat) (n : Nat) (x : α) (l : List α) :
    findBy key n (x :: l) = if key x = n then some x else findBy key n l := by
  by_cases h : key x = n
  · simp [findBy, h]
  · have hb : (key x == n) = false := by simp [h]
    simp only [findBy, List.find?_cons, hb, h, if_false]

/-- A record found has the key asked for and stands in the table. -/
theorem findBy_some {α : Type} {key : α → Nat} {n : Nat} {l : List α} {r : α} (h : findBy key n l = some r) :
    key r = n ∧ r ∈ l :=
  ⟨by simpa using List.find?_some h, List.mem_of_find?_eq_some h⟩

/-- Nothing is found exactly where no record has the key. -/
theorem findBy_none {α : Type} {key : α → Nat} {n : Nat} {l : List α} :
    findBy key n l = none ↔ ∀ r ∈ l, key r ≠ n := by
  simp [findBy, List.find?_eq_none]

/-- In a table of distinct keys the record found is the one that stands there. -/
theorem findBy_of_mem {α : Type} {key : α → Nat} {l : List α} {r : α} (hk : (l.map key).Nodup) (hr : r ∈ l) :
    findBy key (key r) l = some r := by
  induction l with
  | nil => simp at hr
  | cons x l ih =>
    simp only [List.map_cons, List.nodup_cons, List.mem_map, not_exists, not_and] at hk
    rw [findBy_cons]
    rcases List.mem_cons.mp hr with rfl | hr
    · simp
    · rw [if_neg fun e => hk.1 r hr e.symm, ih hk.2 hr]

/-! ## Changing a record -/

/-- A change of the record with key `n` that keeps keys: what is found after it. -/
theorem findBy_changeBy {α : Type} {key : α → Nat} {f : α → α} (n m : Nat) (l : List α)
    (hf : ∀ r ∈ l, key r = n → key (f r) = n) :
    findBy key m (changeBy key n f l) = (findBy key m l).map fun r => if m = n then f r else r := by
  induction l with
  | nil => rfl
  | cons x l ih =>
    have hl := ih fun r hr => hf r (List.mem_cons_of_mem _ hr)
    have hx := hf x List.mem_cons_self
    have hc : changeBy key n f (x :: l) = (if key x = n then f x else x) :: changeBy key n f l := rfl
    rw [hc, findBy_cons, findBy_cons, hl]
    by_cases h : key x = n
    · rw [if_pos h, hx h]
      by_cases hm : n = m
      · simp [h, hm]
      · simp [h, hm]
    · rw [if_neg h]
      by_cases hm : key x = m
      · simp [← hm, h]
      · simp [hm]

/-- A change that keeps keys keeps the list of keys. -/
theorem changeBy_keys {α : Type} {key : α → Nat} {f : α → α} (n : Nat) (l : List α)
    (hf : ∀ r ∈ l, key r = n → key (f r) = n) : (changeBy key n f l).map key = l.map key := by
  simp only [changeBy, List.map_map]
  refine List.map_congr_left fun r hr => ?_
  by_cases h : key r = n
  · simp [h, hf r hr h]
  · simp [h]

/-! ## Taking a record out -/

/-- What is found after the record with key `n` has been taken out. -/
theorem findBy_eraseBy {α : Type} {key : α → Nat} (n m : Nat) (l : List α) :
    findBy key m (eraseBy key n l) = if m = n then none else findBy key m l := by
  induction l with
  | nil => simp [eraseBy]
  | cons x l ih =>
    have hc : eraseBy key n (x :: l) = if key x = n then eraseBy key n l else x :: eraseBy key n l := by
      by_cases h : key x = n <;> simp [eraseBy, h]
    rw [hc, findBy_cons]
    by_cases h : key x = n
    · rw [if_pos h, ih]
      by_cases hm : m = n
      · simp [hm]
      · simp [h, Ne.symm hm]
    · rw [if_neg h, findBy_cons, ih]
      by_cases hm : key x = m
      · simp [← hm, h]
      · simp [hm]

/-! ## Putting a record in -/

/-- A record put in stands in the table with all that stood there. -/
theorem mem_insertBy {α : Type} {key : α → Nat} {r x : α} {l : List α} :
    x ∈ insertBy key r l ↔ x = r ∨ x ∈ l := by
  induction l with
  | nil => simp [insertBy]
  | cons y l ih =>
    unfold insertBy
    split
    · simp
    · simp only [List.mem_cons, ih]
      tauto

/-- What is found after a record of a new key has been put in. -/
theorem findBy_insertBy {α : Type} {key : α → Nat} (r : α) (m : Nat) (l : List α) (h : findBy key (key r) l = none) :
    findBy key m (insertBy key r l) = if m = key r then some r else findBy key m l := by
  induction l with
  | nil =>
    have hc : insertBy key r [] = [r] := rfl
    rw [hc, findBy_cons, findBy_nil]
    simp [eq_comm]
  | cons x l ih =>
    simp only [findBy_none, List.mem_cons, forall_eq_or_imp] at h
    have hl := ih (findBy_none.mpr h.2)
    unfold insertBy
    split
    · rw [findBy_cons]
      simp [eq_comm]
    · rw [findBy_cons, findBy_cons, hl]
      by_cases hx : key x = m
      · subst hx; simp [h.1]
      · simp [hx]

/-- A record put in makes the table one longer. -/
theorem insertBy_length {α : Type} {key : α → Nat} (r : α) (l : List α) :
    (insertBy key r l).length = l.length + 1 := by
  induction l with
  | nil => rfl
  | cons x l ih => unfold insertBy; split <;> simp [ih]

/-- A record of a new key put into a table in ascending order keeps the order. -/
theorem insertBy_ascending {α : Type} {key : α → Nat} (r : α) (l : List α) (h : (l.map key).Pairwise (· < ·))
    (hr : findBy key (key r) l = none) : ((insertBy key r l).map key).Pairwise (· < ·) := by
  induction l with
  | nil => simp [insertBy]
  | cons x l ih =>
    simp only [List.map_cons, List.pairwise_cons, List.mem_map, forall_exists_index, and_imp,
      forall_apply_eq_imp_iff₂] at h
    simp only [findBy_none, List.mem_cons, forall_eq_or_imp] at hr
    unfold insertBy
    split
    · rename_i hlt
      simp only [List.map_cons, List.pairwise_cons, List.mem_cons, List.mem_map, forall_eq_or_imp,
        forall_exists_index, and_imp, forall_apply_eq_imp_iff₂]
      exact ⟨⟨hlt, fun y hy => hlt.trans (h.1 y hy)⟩, h.1, h.2⟩
    · rename_i hlt
      simp only [List.map_cons, List.pairwise_cons, List.mem_map, forall_exists_index, and_imp,
        forall_apply_eq_imp_iff₂]
      refine ⟨fun y hy => ?_, ih h.2 (findBy_none.mpr hr.2)⟩
      rcases mem_insertBy.mp hy with rfl | hy
      · have := hr.1; omega
      · exact h.1 y hy

/-- A record taken out of a table in ascending order leaves the order. -/
theorem eraseBy_ascending {α : Type} {key : α → Nat} (n : Nat) (l : List α) (h : (l.map key).Pairwise (· < ·)) :
    ((eraseBy key n l).map key).Pairwise (· < ·) :=
  h.sublist (List.Sublist.map key List.filter_sublist)

/-! ## The tables of the part -/

theorem truckOf_modTruck (s : State) (n m : Nat) (f : Truck → Truck) (hf : ∀ t, t.num = n → (f t).num = n) :
    truckOf (modTruck s n f) m = (truckOf s m).map fun t => if m = n then f t else t :=
  findBy_changeBy n m s.trucks fun t _ => hf t

theorem orderOf_modOrder (s : State) (n m : Nat) (f : Order → Order) (hf : ∀ o, o.num = n → (f o).num = n) :
    orderOf (modOrder s n f) m = (orderOf s m).map fun o => if m = n then f o else o :=
  findBy_changeBy n m s.orders fun o _ => hf o

theorem permitOf_modPermit (s : State) (n m : Nat) (f : Permit → Permit) (hf : ∀ p, p.num = n → (f p).num = n) :
    permitOf (modPermit s n f) m = (permitOf s m).map fun p => if m = n then f p else p :=
  findBy_changeBy n m s.permits fun p _ => hf p

theorem pointOf_modPoint (s : State) (n m : Nat) (f : Point → Point) (hf : ∀ q, q.num = n → (f q).num = n) :
    pointOf (modPoint s n f) m = (pointOf s m).map fun q => if m = n then f q else q :=
  findBy_changeBy n m s.points fun q _ => hf q

theorem siteOf_modSite (s : State) (n m : Nat) (f : Site → Site) (hf : ∀ x, x.num = n → (f x).num = n) :
    siteOf (modSite s n f) m = (siteOf s m).map fun x => if m = n then f x else x :=
  findBy_changeBy n m s.sites fun x _ => hf x

theorem truckOf_modWatch (s : State) (n seat m : Nat) (f : Watch → Watch) :
    truckOf (modWatch s n seat f) m =
      (truckOf s m).map fun t => if m = n then t.withWatch seat (f (t.watch seat)) else t :=
  truckOf_modTruck s n m _ fun t h => by simp [h]

theorem permitOf_modStep (s : State) (n m : Nat) (i : StepId) (f : StepRec → StepRec) :
    permitOf (modStep s n i f) m = (permitOf s m).map fun p => if m = n then p.withStep i f else p :=
  permitOf_modPermit s n m _ fun p h => by simp [h]

end Sys2Proof.Machine
end

