-- ==== Sys2Proof/Laws/Frames.lean ====
section
/-!
SUPPORT. What each shared operation may change: one lemma an operation, naming the fields of the state outside which it
leaves everything as it was.
-/
namespace Sys2Proof.Machine

-- One proof after another: proofs that wait for the same equations would each take a thread of their own.
set_option Elab.async false

/-- The fields of the state. -/
inductive Field where
  | clock | held | port | sup | trucks | orders | permits | points | asks | timeouts | air | sites | policy | graces | load
  | askArb | choices | pending
  deriving DecidableEq, Repr

/-- Two states agree in a field. -/
def Field.same : Field → State → State → Prop
  | .clock, s, t => t.clock = s.clock
  | .held, s, t => t.held = s.held
  | .port, s, t => t.port = s.port
  | .sup, s, t => t.sup = s.sup
  | .trucks, s, t => t.trucks = s.trucks
  | .orders, s, t => t.orders = s.orders
  | .permits, s, t => t.permits = s.permits
  | .points, s, t => t.points = s.points
  | .asks, s, t => t.asks = s.asks
  | .timeouts, s, t => t.timeouts = s.timeouts
  | .air, s, t => t.air = s.air
  | .sites, s, t => t.sites = s.sites
  | .policy, s, t => t.policy = s.policy
  | .graces, s, t => t.graces = s.graces
  | .load, s, t => t.load = s.load
  | .askArb, s, t => t.askArb = s.askArb
  | .choices, s, t => t.choices = s.choices
  | .pending, s, t => t.pending = s.pending

/-- `t` is as `s` outside the fields `l`. -/
def Keeps (l : List Field) (s t : State) : Prop := ∀ f, f ∉ l → f.same s t

theorem Field.same_refl (f : Field) (s : State) : f.same s s := by cases f <;> rfl

theorem Field.same_trans {f : Field} {s t u : State} (h1 : f.same s t) (h2 : f.same t u) : f.same s u := by
  cases f <;> exact Eq.trans h2 h1

theorem Keeps.refl (l : List Field) (s : State) : Keeps l s s := fun f _ => f.same_refl s

theorem Keeps.trans {l : List Field} {s t u : State} (h1 : Keeps l s t) (h2 : Keeps l t u) : Keeps l s u :=
  fun f hf => Field.same_trans (h1 f hf) (h2 f hf)

/-- More fields may change. -/
theorem Keeps.to {a l : List Field} {s t : State} (h : Keeps a s t) (ha : ∀ f ∈ a, f ∈ l := by decide) : Keeps l s t :=
  fun f hf => h f fun hm => hf (ha f hm)

/-- A fold of operations of one frame has that frame. -/
theorem Keeps.foldl {α : Type} {l : List Field} {f : State → α → State} (h : ∀ s a, Keeps l s (f s a)) (xs : List α)
    (s : State) : Keeps l s (xs.foldl f s) := by
  induction xs generalizing s with
  | nil => exact .refl l s
  | cons a xs ih => exact (h s a).trans (ih (f s a))

/-- The fields dispatching may change: the tables of crew, orders, permits, points and pending requests, the console port
and the arbiter's occasion. -/
def crewFields : List Field := [.trucks, .orders, .permits, .points, .asks, .port, .askArb]

/-! ## Single updates -/

theorem modTruck_keeps (s : State) (n : Nat) (f : Truck → Truck) : Keeps [.trucks] s (modTruck s n f) := by
  intro x hx; cases x <;> first | rfl | simp at hx

theorem modOrder_keeps (s : State) (n : Nat) (f : Order → Order) : Keeps [.orders] s (modOrder s n f) := by
  intro x hx; cases x <;> first | rfl | simp at hx

theorem modPermit_keeps (s : State) (n : Nat) (f : Permit → Permit) : Keeps [.permits] s (modPermit s n f) := by
  intro x hx; cases x <;> first | rfl | simp at hx

theorem modPoint_keeps (s : State) (n : Nat) (f : Point → Point) : Keeps [.points] s (modPoint s n f) := by
  intro x hx; cases x <;> first | rfl | simp at hx

theorem modSite_keeps (s : State) (n : Nat) (f : Site → Site) : Keeps [.sites] s (modSite s n f) := by
  intro x hx; cases x <;> first | rfl | simp at hx

theorem modWatch_keeps (s : State) (n seat : Nat) (f : Watch → Watch) : Keeps [.trucks] s (modWatch s n seat f) :=
  modTruck_keeps s n _

theorem modStep_keeps (s : State) (n : Nat) (i : StepId) (f : StepRec → StepRec) : Keeps [.permits] s (modStep s n i f) :=
  modPermit_keeps s n _

theorem air_keeps (s : State) (a : Air) : Keeps [.air] s { s with air := a } := by
  intro x hx; cases x <;> first | rfl | simp at hx

theorem load_keeps (s : State) (m : Load) : Keeps [.load] s { s with load := m } := by
  intro x hx; cases x <;> first | rfl | simp at hx

theorem port_keeps (s : State) (p : Port) : Keeps [.port] s { s with port := p } := by
  intro x hx; cases x <;> first | rfl | simp at hx

theorem askArb_keeps (s : State) (b : Bool) : Keeps [.askArb] s { s with askArb := b } := by
  intro x hx; cases x <;> first | rfl | simp at hx

theorem asks_keeps (s : State) (l : List Ask) : Keeps [.asks] s { s with asks := l } := by
  intro x hx; cases x <;> first | rfl | simp at hx

theorem points_keeps (s : State) (l : List Point) : Keeps [.points] s { s with points := l } := by
  intro x hx; cases x <;> first | rfl | simp at hx

theorem sup_keeps (s : State) (p : Sup) : Keeps [.sup] s { s with sup := p } := by
  intro x hx; cases x <;> first | rfl | simp at hx

/-! ## The console port -/

/-- Choosing the next frame changes the port alone (R179). -/
theorem kick_keeps (s : State) : Keeps [.port] s (kick s) := by
  unfold kick
  split
  · exact .refl _ s
  · split
    · exact port_keeps s _
    · split
      · split
        · exact port_keeps s _
        · exact .refl _ s
      · exact .refl _ s

/-- A notice changes the port alone (R180). -/
theorem post_keeps (s : State) (b : NoticeBody) : Keeps [.port] s (post s b) :=
  (port_keeps s _).trans (kick_keeps _)

/-- A reply put into the buffer changes the port alone (R178). -/
theorem attach_keeps (s : State) (k tag : Nat) (a : Answer) : Keeps [.port] s (attach s k tag a) :=
  (port_keeps s _).trans (kick_keeps _)

/-- Arming the window changes the Console Supervisor alone (R172). -/
theorem armWindow_keeps (s : State) : Keeps [.sup] s (armWindow s) := sup_keeps s _

/-! ## Records -/

/-- A removal changes the trucks alone (R118). -/
theorem dropRec_keeps (s : State) (n : Nat) (x : Subject) : Keeps [.trucks] s (dropRec s n x) := modTruck_keeps s n _

/-- A record given changes the trucks, and asks the arbiter (R114, R143). -/
theorem give_keeps (s : State) (n : Nat) (c : Content) : Keeps [.trucks, .askArb] s (give s n c) := by
  unfold give
  split
  · exact .refl _ s
  · split
    · exact .refl _ s
    · exact ((modTruck_keeps s n _).to).trans ((askArb_keeps _ _).to)

theorem givePermit_keeps (s : State) (n : Nat) : Keeps [.trucks, .askArb] s (givePermit s n) := by
  unfold givePermit
  split
  · exact give_keeps s _ _
  · exact .refl _ s

theorem giveOrder_keeps (s : State) (t n : Nat) (d : Disposition) (b : Bool) :
    Keeps [.trucks, .askArb] s (giveOrder s t n d b) := by
  unfold giveOrder
  split
  · exact give_keeps s _ _
  · exact .refl _ s

theorem updateOrderRec_keeps (s : State) (t n : Nat) (d : Disposition) :
    Keeps [.trucks, .askArb] s (updateOrderRec s t n d) := by
  unfold updateOrderRec
  split
  · exact giveOrder_keeps s t n d false
  · exact .refl _ s

theorem refreshOrderRec_keeps (s : State) (t n : Nat) : Keeps [.trucks, .askArb] s (refreshOrderRec s t n) := by
  unfold refreshOrderRec
  split
  · exact giveOrder_keeps s t n _ false
  · exact .refl _ s

/-! ## Reachability and slots -/

theorem setReach_keeps (s : State) (n : Nat) (r : Reach) (c : Nat) :
    Keeps [.trucks, .port, .askArb] s (setReach s n r c) := by
  unfold setReach
  split
  · dsimp only
    split
    · exact (modTruck_keeps s n _).to
    · exact ((modTruck_keeps s n _).to).trans (((askArb_keeps _ _).to).trans ((post_keeps _ _).to))
  · exact .refl _ s

theorem missedTurn_keeps (s : State) (n : Nat) : Keeps [.trucks, .port, .askArb] s (missedTurn s n) := by
  unfold missedTurn
  split
  · split
    · exact .refl _ s
    · exact setReach_keeps s n _ _
  · exact .refl _ s

theorem routeDown_keeps (s : State) (n : Nat) : Keeps [.trucks, .port, .askArb] s (routeDown s n) := by
  unfold routeDown
  split
  · split
    · exact .refl _ s
    · exact setReach_keeps s n _ _
  · exact .refl _ s

theorem routeRestored_keeps (s : State) (n : Nat) : Keeps [.trucks, .port, .askArb] s (routeRestored s n) := by
  unfold routeRestored
  split
  · split
    · exact setReach_keeps s n _ _
    · exact .refl _ s
  · exact .refl _ s

/-! ## Steps, marks, holds and causes -/

theorem stepPending_keeps (s : State) (n : Nat) (i : StepId) (r : Option Reason) :
    Keeps [.permits] s (stepPending s n i r) := modPermit_keeps s n _

theorem clearBusy_keeps (s : State) (m n : Nat) (i : StepId) : Keeps [.points] s (clearBusy s m n i) :=
  modPoint_keeps s m _

theorem clearStepBusy_keeps (s : State) (n : Nat) (i : StepId) : Keeps [.points] s (clearStepBusy s n i) := by
  unfold clearStepBusy
  split
  · exact clearBusy_keeps s _ n i
  · exact .refl _ s

theorem releaseHold_keeps (s : State) (m n : Nat) : Keeps [.points] s (releaseHold s m n) := modPoint_keeps s m _

theorem releaseHolds_keeps (s : State) (n : Nat) : Keeps [.points] s (releaseHolds s n) := points_keeps s _

theorem releaseMarks_keeps (s : State) (n : Nat) : Keeps [.points] s (releaseMarks s n) := points_keeps s _

/-- Supersession of a GRANT (R104, R126). -/
theorem supersede_keeps (s : State) (n : Nat) (r : Reason) :
    Keeps [.trucks, .permits, .points, .askArb] s (supersede s n r) := by
  unfold supersede
  split
  · split
    · exact ((give_keeps s _ _).to).trans (((stepPending_keeps _ _ _ _).to).trans ((clearStepBusy_keeps _ _ _).to))
    · exact .refl _ s
  · exact .refl _ s

/-- The answer to a pending request (R100, R104). -/
theorem refusePending_keeps (s : State) (n : Nat) (r : Reason) :
    Keeps [.trucks, .permits, .asks, .askArb] s (refusePending s n r) := by
  unfold refusePending
  split
  · exact ((give_keeps s _ _).to).trans (((asks_keeps _ _).to).trans ((stepPending_keeps _ _ _ _).to))
  · exact .refl _ s

/-- A halt cause added (R79). -/
theorem addCause_keeps (s : State) (n : Nat) (c : Cause) :
    Keeps [.trucks, .permits, .points, .asks, .port, .askArb] s (addCause s n c) := by
  unfold addCause
  split
  · split
    · dsimp only
      split
      · exact ((modPermit_keeps s n _).to).trans (((post_keeps _ _).to).trans (((givePermit_keeps _ n).to).trans
          (((supersede_keeps _ n _).to).trans ((refusePending_keeps _ n _).to))))
      · exact ((modPermit_keeps s n _).to).trans ((post_keeps _ _).to)
    · exact .refl _ s
  · exact .refl _ s

theorem dropCause_keeps (s : State) (n : Nat) (c : Cause) : Keeps [.permits, .port] s (dropCause s n c) := by
  unfold dropCause
  split
  · split
    · exact ((modPermit_keeps s n _).to).trans ((post_keeps _ _).to)
    · exact .refl _ s
  · exact .refl _ s

theorem afterDrop_keeps (s : State) (n : Nat) : Keeps [.trucks, .askArb] s (afterDrop s n) := by
  unfold afterDrop
  split
  · split
    · exact givePermit_keeps s n
    · exact .refl _ s
  · exact .refl _ s

/-- A halt cause removed (R80). -/
theorem removeCause_keeps (s : State) (n : Nat) (c : Cause) :
    Keeps [.trucks, .permits, .port, .askArb] s (removeCause s n c) := by
  unfold removeCause
  split
  · split
    · exact ((dropCause_keeps s n c).to).trans ((afterDrop_keeps _ n).to)
    · exact .refl _ s
  · exact .refl _ s

theorem evalSite_keeps (s : State) (n : Nat) :
    Keeps [.trucks, .permits, .points, .asks, .port, .askArb] s (evalSite s n) := by
  unfold evalSite
  split
  · split
    · split
      · exact addCause_keeps s n _
      · exact (removeCause_keeps s n _).to
    · exact .refl _ s
  · exact .refl _ s

theorem evalAllSites_keeps (s : State) :
    Keeps [.trucks, .permits, .points, .asks, .port, .askArb] s (evalAllSites s) :=
  Keeps.foldl evalSite_keeps _ s

theorem evalSlots_keeps (s : State) (n : Nat) :
    Keeps [.trucks, .permits, .points, .asks, .port, .askArb] s (evalSlots s n) := by
  unfold evalSlots
  split
  · exact Keeps.foldl evalSite_keeps _ s
  · exact .refl _ s

theorem haltForAlarm_keeps (s : State) (n : Nat) :
    Keeps [.trucks, .permits, .points, .asks, .port, .askArb] s (haltForAlarm s n) := by
  unfold haltForAlarm
  split
  · refine Keeps.foldl (fun s n => ?_) _ s
    split
    · split
      · exact addCause_keeps s n _
      · exact .refl _ s
    · exact .refl _ s
  · exact .refl _ s

theorem weigh_keeps (s : State) (m : Nat) (src : ConflictSource) :
    Keeps [.trucks, .permits, .points, .asks, .port, .askArb] s (weigh s m src) := by
  unfold weigh
  split
  · split
    · exact ((post_keeps s _).to).trans (Keeps.foldl (fun s n => addCause_keeps s n _) _ _)
    · exact .refl _ s
  · exact .refl _ s

/-! ## The header of a frame -/

theorem takeZone_keeps (s : State) (n z : Nat) :
    Keeps [.trucks, .permits, .points, .asks, .port, .askArb] s (takeZone s n z) := by
  unfold takeZone
  split
  · split
    · exact ((modTruck_keeps s n _).to).trans (((post_keeps _ _).to).trans (evalSlots_keeps _ n))
    · exact .refl _ s
  · exact .refl _ s

theorem takeHeader_keeps (s : State) (n z : Nat) :
    Keeps [.trucks, .permits, .points, .asks, .port, .askArb] s (takeHeader s n z) :=
  ((setReach_keeps s n _ _).to).trans (((modTruck_keeps _ n _).to).trans (takeZone_keeps _ n z))

/-! ## The air -/

theorem handOver_keeps (s : State) (f : DownFrame) (n : Nat) : Keeps [.air, .load] s (handOver s f n) := by
  intro x hx; cases x <;> first | rfl | simp at hx

/-- The GRANTs of a POLL reported change the permits alone (R101). -/
theorem reportSent_keeps (s : State) (l : List (Nat × Content)) : Keeps [.permits] s (reportSent s l) := by
  refine Keeps.foldl (fun s r => ?_) l s
  split
  · split
    · exact modStep_keeps s _ _ _
    · exact .refl _ s
  · exact .refl _ s

/-- A turn begun (R137). -/
theorem beginTurn_keeps (s : State) (n : Nat) (k : TurnKind) :
    Keeps [.trucks, .permits, .air, .load] s (beginTurn s n k) := by
  unfold beginTurn
  split
  · exact ((modTruck_keeps s n _).to).trans
      (((reportSent_keeps _ _).to).trans (((handOver_keeps _ _ _).to).trans ((air_keeps _ _).to)))
  · exact .refl _ s

theorem askInGap_keeps (s : State) : Keeps [.trucks, .permits, .air, .load] s (askInGap s) := by
  unfold askInGap
  split
  · exact beginTurn_keeps s _ _
  · exact .refl _ s

theorem enterGap_keeps (s : State) : Keeps [.trucks, .permits, .air, .load] s (enterGap s) :=
  ((air_keeps s _).to).trans (askInGap_keeps _)

theorem enterWindow_keeps {past : State → State} (h : ∀ s, Keeps [.trucks, .permits, .air, .load] s (past s)) (s : State) :
    Keeps [.trucks, .permits, .air, .load] s (enterWindow past s) := by
  unfold enterWindow
  split
  · exact h s
  · exact ((handOver_keeps s _ _).to).trans ((air_keeps _ _).to)

theorem takeEntries_keeps {past : State → State} (h : ∀ s, Keeps [.trucks, .permits, .air, .load] s (past s))
    (l : List ListEntry) (s : State) : Keeps [.trucks, .permits, .air, .load] s (takeEntries past l s) := by
  induction l with
  | nil => exact ((air_keeps s _).to).trans (enterWindow_keeps h _)
  | cons e l ih =>
    unfold takeEntries
    split
    · exact ih
    · exact ((air_keeps s _).to).trans (beginTurn_keeps _ _ _)

theorem startCycle_keeps (b : Bool) (s : State) : Keeps [.trucks, .permits, .air, .load] s (startCycle b s) := by
  refine Keeps.trans ?_ (takeEntries_keeps enterGap_keeps _ _)
  intro x hx; cases x <;> first | rfl | simp at hx

theorem pastWindow_keeps (s : State) : Keeps [.trucks, .permits, .air, .load] s (pastWindow s) := by
  unfold pastWindow
  split
  · exact startCycle_keeps false s
  · exact enterGap_keeps s

/-- The Scheduler goes on (R138 stage 7). -/
theorem goOn_keeps (s : State) : Keeps [.trucks, .permits, .air, .load] s (goOn s) := by
  unfold goOn
  split
  · unfold goOnInList
    split
    · split
      · exact ((air_keeps s _).to).trans (beginTurn_keeps _ _ _)
      · exact takeEntries_keeps pastWindow_keeps _ s
    · exact takeEntries_keeps pastWindow_keeps _ s
  · exact .refl _ s
  · split
    · exact startCycle_keeps false s
    · exact askInGap_keeps s

/-- The end of an event: at most an urgent turn begins, and no occasion for the arbiter is left (R143). -/
theorem settleEvent_keeps (s : State) : Keeps [.trucks, .permits, .air, .load, .askArb] s (settleEvent s) := by
  unfold settleEvent askIfIdle
  dsimp only
  split
  · split
    · exact ((askArb_keeps s _).to).trans ((askInGap_keeps _).to)
    · exact (askArb_keeps s _).to
  · exact (askArb_keeps s _).to

/-! ## Watches and orders -/

theorem postWatchState_keeps (s : State) (n seat : Nat) (w : WatchReason) : Keeps [.port] s (postWatchState s n seat w) := by
  unfold postWatchState
  split
  · exact post_keeps s _
  · exact .refl _ s

theorem removePrompt_keeps (s : State) (n seat : Nat) (k : PromptKind) : Keeps [.trucks] s (removePrompt s n seat k) := by
  unfold removePrompt
  split
  · split
    · exact dropRec_keeps s n _
    · exact .refl _ s
  · exact .refl _ s

theorem computeWatch_keeps (s : State) (n seat : Nat) : Keeps [.trucks] s (computeWatch s n seat) := by
  unfold computeWatch
  split
  · exact modWatch_keeps s n seat _
  · exact .refl _ s

theorem enterWarn_keeps (s : State) (n seat : Nat) : Keeps [.trucks, .port, .askArb] s (enterWarn s n seat) := by
  unfold enterWarn
  split
  · exact ((modWatch_keeps s n seat _).to).trans (((give_keeps _ _ _).to).trans ((post_keeps _ _).to))
  · exact .refl _ s

theorem warnAtOnce_keeps (s : State) (n seat : Nat) : Keeps [.trucks, .port, .askArb] s (warnAtOnce s n seat) := by
  unfold warnAtOnce
  split
  · split
    · exact enterWarn_keeps s n seat
    · exact .refl _ s
  · exact .refl _ s

theorem assistOne_keeps (s : State) (n : Nat) : Keeps [.trucks, .askArb] s (assistOne s n) := by
  unfold assistOne
  split
  · dsimp only
    split
    · split
      · exact (dropRec_keeps s n _).to
      · split
        · exact .refl _ s
        · exact give_keeps s n _
    · split
      · exact .refl _ s
      · exact give_keeps s n _
  · exact .refl _ s

theorem assistSite_keeps (s : State) (n : Nat) : Keeps [.trucks, .askArb] s (assistSite s n) :=
  Keeps.foldl assistOne_keeps _ s

/-- An assist recomputation changes queues alone (R62). -/
theorem assistFor_keeps (s : State) (n : Nat) : Keeps [.trucks, .askArb] s (assistFor s n) := by
  unfold assistFor
  split
  · split
    · exact assistSite_keeps s _
    · exact .refl _ s
  · exact .refl _ s

/-- Entry into ALARM (R55). -/
theorem enterAlarm_keeps (s : State) (n seat : Nat) (c : AlarmCause) :
    Keeps [.trucks, .permits, .points, .asks, .port, .askArb] s (enterAlarm s n seat c) := by
  unfold enterAlarm
  split
  · dsimp only
    split
    · exact ((modWatch_keeps s n seat _).to).trans (((post_keeps _ _).to).trans
        (((give_keeps _ _ _).to).trans ((assistFor_keeps _ n).to)))
    · exact ((modWatch_keeps s n seat _).to).trans (((post_keeps _ _).to).trans
        (((give_keeps _ _ _).to).trans ((haltForAlarm_keeps _ n).trans ((assistFor_keeps _ n).to))))
  · exact .refl _ s

theorem postOrderState_keeps (s : State) (n : Nat) : Keeps [.port] s (postOrderState s n) := by
  unfold postOrderState
  split
  · exact post_keeps s _
  · exact .refl _ s

theorem backToQueued_keeps (s : State) (n : Nat) : Keeps [.orders, .port] s (backToQueued s n) :=
  ((modOrder_keeps s n _).to).trans ((postOrderState_keeps _ n).to)

/-- An offer (R22). -/
theorem makeOffer_keeps (s : State) (n t : Nat) : Keeps [.trucks, .orders, .port, .askArb] s (makeOffer s n t) := by
  unfold makeOffer
  dsimp only
  split
  · exact ((modTruck_keeps s t _).to).trans (((modOrder_keeps _ n _).to).trans
      (((postOrderState_keeps _ n).to).trans ((giveOrder_keeps _ t n _ _).to)))
  · exact ((modTruck_keeps s t _).to).trans (((modOrder_keeps _ n _).to).trans
      (((postOrderState_keeps _ n).to).trans (((modTruck_keeps _ t _).to).trans ((backToQueued_keeps _ n).to))))

theorem rolloverAlong_keeps (n : Nat) (l : List Nat) (s : State) :
    Keeps [.trucks, .orders, .port, .askArb] s (rolloverAlong n l s) := by
  induction l generalizing s with
  | nil =>
    unfold rolloverAlong
    split
    · exact (post_keeps s _).to
    · exact .refl _ s
  | cons t l ih =>
    unfold rolloverAlong
    split
    · split
      · exact makeOffer_keeps s n t
      · exact (makeOffer_keeps s n t).trans (ih _)
    · exact ih s

/-- Rollover (R23). -/
theorem rollover_keeps (s : State) (n : Nat) : Keeps [.trucks, .orders, .port, .askArb] s (rollover s n) := by
  unfold rollover
  split
  · split
    · exact .refl _ s
    · exact rolloverAlong_keeps n _ s
  · exact .refl _ s

end Sys2Proof.Machine
end

