-- ==== Sys2Proof/Laws/Numbers.lean ====
section
/-!
SUPPORT. What the number operations answer: clamps, rounding, the load figure, the counting of ended frames, the lengths
of octet fields.
-/
namespace Sys2Proof.Machine

/-! ## Clamps and rounding (spec/00_scope.md section 4.5) -/

/-- A clamped value lies within its limits. -/
theorem clamp_bounds {lo hi : Nat} (_ : lo ≤ hi) (n : Nat) : lo ≤ clamp lo hi n ∧ clamp lo hi n ≤ hi := by
  unfold clamp; split <;> (try split) <;> omega

/-- A value within the limits is kept, and only such a value. -/
theorem clamp_eq_self {lo hi n : Nat} (_ : lo ≤ hi) : clamp lo hi n = n ↔ lo ≤ n ∧ n ≤ hi := by
  unfold clamp; split <;> (try split) <;> omega

/-- A warning lead is at least 10 and below the interval, for an interval within its limits (R20, R41). -/
theorem clampLead_bounds {interval : Nat} (h : 60 ≤ interval) (lead : Nat) :
    10 ≤ clampLead interval lead ∧ clampLead interval lead < interval := by
  have := clamp_bounds (lo := 10) (hi := 600) (by decide) lead
  unfold clampLead
  dsimp only
  split <;> omega

theorem ceilDiv_le {a b c : Nat} (hb : 0 < b) : ceilDiv a b ≤ c ↔ a ≤ c * b := by
  unfold ceilDiv
  rw [← Nat.lt_succ_iff, Nat.div_lt_iff_lt_mul hb, Nat.succ_mul]
  omega

/-! ## The load figure (R165) -/

/-- The load figure moves toward the sample and never past it. -/
theorem nextLevel_between (level sample : Nat) :
    min level sample ≤ nextLevel level sample ∧ nextLevel level sample ≤ max level sample := by
  unfold nextLevel ceilDiv; split <;> (try split) <;> omega

/-! ## Frames counted at their end (R163) -/

/-- Counting frames changes the busy time and the covers alone. -/
theorem count_foldl (m : Load) (l : List Span) :
    ∃ b c, l.foldl Load.count m = { m with busy := b, covers := c } := by
  induction l generalizing m with
  | nil => exact ⟨m.busy, m.covers, rfl⟩
  | cons x l ih =>
    obtain ⟨b, c, h⟩ := ih (m.count x)
    exact ⟨b, c, by rw [List.foldl_cons, h]; rfl⟩

/-- Counting the ended frames changes the busy time, the covers and the frames not yet counted alone. -/
theorem settle_eq (m : Load) (t : Nat) :
    m.settle t = { m with
      busy := (m.settle t).busy, covers := (m.settle t).covers, sent := m.sent.filter fun x => !endedBy t x } := by
  obtain ⟨b, c, h⟩ := count_foldl { m with sent := m.sent.filter fun x => !endedBy t x } (m.sent.filter (endedBy t))
  unfold Load.settle
  rw [h]

/-- With no frame on the air nothing is counted. -/
theorem settle_nil {m : Load} (t : Nat) (h : m.sent = []) : m.settle t = m := by
  obtain ⟨⟩ := m
  simp only at h
  subst h
  rfl

/-! ## Octet fields (spec/11 section 11.5) -/

@[simp] theorem put8_length (n : Nat) : (put8 n).length = 1 := rfl
@[simp] theorem put16_length (n : Nat) : (put16 n).length = 2 := rfl
@[simp] theorem put32_length (n : Nat) : (put32 n).length = 4 := rfl

/-- A count written is the count read. -/
theorem get8_put8 {n : Nat} (h : n < 256) (l : List Octet) : get8 (put8 n ++ l) = some (n, l) := by
  simp [get8, put8, Nat.mod_eq_of_lt h]

/-- A number written is the number read. -/
theorem get16_put16 {n : Nat} (h : n < 65536) (l : List Octet) : get16 (put16 n ++ l) = some (n, l) := by
  simp only [get16, put16, List.cons_append, List.nil_append, BitVec.toNat_ofNat, Option.some.injEq, Prod.mk.injEq,
    and_true]
  omega

/-- A time written is the time read. -/
theorem get32_put32 {n : Nat} (h : n < 4294967296) (l : List Octet) : get32 (put32 n ++ l) = some (n, l) := by
  simp only [get32, put32, put16, List.cons_append, List.nil_append, BitVec.toNat_ofNat, Option.some.injEq,
    Prod.mk.injEq, and_true]
  omega

/-- A text written behind its length is the text read. -/
theorem getText_putText {t : Text} (h : t.length < 256) (l : List Octet) : getText (putText t ++ l) = some (t, l) := by
  have e : get8 (putText t ++ l) = some (t.length, t ++ l) := by
    rw [putText, List.append_assoc]; exact get8_put8 h (t ++ l)
  simp [getText, Reader.andThen, e, getOctets]

end Sys2Proof.Machine
end

