-- ==== Sys2Proof/Laws/PerInstr.lean ====
section
/-!
SUPPORT. Statements made of every command, one lemma a constructor: the kind code and the tag of a well-formed console
request each fit one octet, and its kind names a request unless it is an unknown request (R177, spec/11 section 11.5).
-/
namespace Sys2Proof.Laws.RequestFits

-- One proof after another: proofs that wait for the same equations would each take a thread of their own.
set_option Elab.async false

open Sys2Proof.Machine

/-- The kind and the tag a well-formed command's reply carries fit their octets; the kind is that of a request. -/
def Statement (i : Instr) : Prop :=
  i.wf = true → ∀ k tag, kindTag i = some (k, tag) →
    k < 256 ∧ tag < 256 ∧ (isRequestKind k = true ∨ ∃ kind t, i = .unknownRequest kind t)

/-- A command that is no console request has no kind. -/
theorem of_none {i : Instr} (h : kindTag i = none) : Statement i := by
  intro _ k tag hk
  rw [h] at hk
  exact absurd hk (by simp)

/-- A console request of a kind of the table whose tag its well-formedness bounds. -/
theorem of_request {i : Instr} {k tag : Nat} (h : kindTag i = some (k, tag)) (hk : isRequestKind k = true)
    (hb : k < 256) (ht : i.wf = true → tag < 256) : Statement i := by
  intro hw k0 tag0 h0
  rw [h] at h0
  obtain ⟨rfl, rfl⟩ := Prod.mk.inj (Option.some.inj h0)
  exact ⟨hb, ht hw, .inl hk⟩

theorem enrollTruck (tag truck : Nat) : Statement (.enrollTruck tag truck) :=
  of_request rfl rfl (by decide) fun h => by
  simp [Instr.wf, fitsOctet] at h; omega
theorem removeTruck (tag truck : Nat) : Statement (.removeTruck tag truck) :=
  of_request rfl rfl (by decide) fun h => by
  simp [Instr.wf, fitsOctet] at h; omega
theorem queryTruck (tag truck : Nat) : Statement (.queryTruck tag truck) :=
  of_request rfl rfl (by decide) fun h => by
  simp [Instr.wf, fitsOctet] at h; omega
theorem postOrder (tag order prio : Nat) (loc desc : Text) (cands : List Nat) (profile : Option ProfileIn) :
    Statement (.postOrder tag order prio loc desc cands profile) :=
  of_request rfl rfl (by decide) fun h => by
  simp [Instr.wf, fitsOctet] at h; omega
theorem assignOrder (tag order truck : Nat) : Statement (.assignOrder tag order truck) :=
  of_request rfl rfl (by decide) fun h => by
  simp [Instr.wf, fitsOctet] at h; omega
theorem changeOrder (tag order : Nat) (prio : Option Nat) (loc desc : Option Text) (cands : Option (List Nat)) (profile : Option ProfileIn) (remove : Bool) :
    Statement (.changeOrder tag order prio loc desc cands profile remove) :=
  of_request rfl rfl (by decide) fun h => by
  simp [Instr.wf, fitsOctet] at h; omega
theorem cancelOrder (tag order : Nat) : Statement (.cancelOrder tag order) :=
  of_request rfl rfl (by decide) fun h => by
  simp [Instr.wf, fitsOctet] at h; omega
theorem retireOrder (tag order : Nat) : Statement (.retireOrder tag order) :=
  of_request rfl rfl (by decide) fun h => by
  simp [Instr.wf, fitsOctet] at h; omega
theorem queryOrder (tag order : Nat) : Statement (.queryOrder tag order) :=
  of_request rfl rfl (by decide) fun h => by
  simp [Instr.wf, fitsOctet] at h; omega
theorem setOfferTimeout (tag secs : Nat) : Statement (.setOfferTimeout tag secs) :=
  of_request rfl rfl (by decide) fun h => by
  simp [Instr.wf, fitsOctet] at h; omega
theorem setWatch (tag truck seat : Nat) (set : SettingsIn) : Statement (.setWatch tag truck seat set) :=
  of_request rfl rfl (by decide) fun h => by
  simp [Instr.wf, fitsOctet] at h; omega
theorem startWatch (tag truck seat : Nat) : Statement (.startWatch tag truck seat) :=
  of_request rfl rfl (by decide) fun h => by
  simp [Instr.wf, fitsOctet] at h; omega
theorem stopWatch (tag truck seat : Nat) : Statement (.stopWatch tag truck seat) :=
  of_request rfl rfl (by decide) fun h => by
  simp [Instr.wf, fitsOctet] at h; omega
theorem closeAlarm (tag truck seat : Nat) : Statement (.closeAlarm tag truck seat) :=
  of_request rfl rfl (by decide) fun h => by
  simp [Instr.wf, fitsOctet] at h; omega
theorem queryWatch (tag truck seat : Nat) : Statement (.queryWatch tag truck seat) :=
  of_request rfl rfl (by decide) fun h => by
  simp [Instr.wf, fitsOctet] at h; omega
theorem loadPermit (tag permit holder : Nat) (linked : Option Nat) (iso rest : List StepIn) :
    Statement (.loadPermit tag permit holder linked iso rest) :=
  of_request rfl rfl (by decide) fun h => by
  simp [Instr.wf, fitsOctet] at h; omega
theorem issuePermit (tag permit : Nat) : Statement (.issuePermit tag permit) :=
  of_request rfl rfl (by decide) fun h => by
  simp [Instr.wf, fitsOctet] at h; omega
theorem haltPermit (tag permit : Nat) : Statement (.haltPermit tag permit) :=
  of_request rfl rfl (by decide) fun h => by
  simp [Instr.wf, fitsOctet] at h; omega
theorem resumePermit (tag permit : Nat) : Statement (.resumePermit tag permit) :=
  of_request rfl rfl (by decide) fun h => by
  simp [Instr.wf, fitsOctet] at h; omega
theorem cancelPermit (tag permit : Nat) : Statement (.cancelPermit tag permit) :=
  of_request rfl rfl (by decide) fun h => by
  simp [Instr.wf, fitsOctet] at h; omega
theorem retirePermit (tag permit : Nat) : Statement (.retirePermit tag permit) :=
  of_request rfl rfl (by decide) fun h => by
  simp [Instr.wf, fitsOctet] at h; omega
theorem queryPermit (tag permit : Nat) : Statement (.queryPermit tag permit) :=
  of_request rfl rfl (by decide) fun h => by
  simp [Instr.wf, fitsOctet] at h; omega
theorem decideStep (tag permit : Nat) (step : StepId) (decision : Nat) :
    Statement (.decideStep tag permit step decision) :=
  of_request rfl rfl (by decide) fun h => by
  simp [Instr.wf, fitsOctet] at h; omega
theorem queryPending (tag : Nat) : Statement (.queryPending tag) :=
  of_request rfl rfl (by decide) fun h => by
  simp [Instr.wf, fitsOctet] at h; omega
theorem setDecisionTimeout (tag secs : Nat) : Statement (.setDecisionTimeout tag secs) :=
  of_request rfl rfl (by decide) fun h => by
  simp [Instr.wf, fitsOctet] at h; omega
theorem setPoint (tag point position : Nat) : Statement (.setPoint tag point position) :=
  of_request rfl rfl (by decide) fun h => by
  simp [Instr.wf, fitsOctet] at h; omega
theorem queryPoint (tag point : Nat) : Statement (.queryPoint tag point) :=
  of_request rfl rfl (by decide) fun h => by
  simp [Instr.wf, fitsOctet] at h; omega
theorem sendText (tag truck : Nat) (text : Text) : Statement (.sendText tag truck text) :=
  of_request rfl rfl (by decide) fun h => by
  simp [Instr.wf, fitsOctet] at h; omega
theorem setAnswerDiscard (tag secs : Nat) : Statement (.setAnswerDiscard tag secs) :=
  of_request rfl rfl (by decide) fun h => by
  simp [Instr.wf, fitsOctet] at h; omega
theorem queryQueue (tag truck : Nat) : Statement (.queryQueue tag truck) :=
  of_request rfl rfl (by decide) fun h => by
  simp [Instr.wf, fitsOctet] at h; omega
theorem setAir (tag rate window slots budget : Nat) : Statement (.setAir tag rate window slots budget) :=
  of_request rfl rfl (by decide) fun h => by
  simp [Instr.wf, fitsOctet] at h; omega
theorem queryAir (tag : Nat) : Statement (.queryAir tag) :=
  of_request rfl rfl (by decide) fun h => by
  simp [Instr.wf, fitsOctet] at h; omega
theorem setSite (tag site parent lo hi hop timeout : Nat) : Statement (.setSite tag site parent lo hi hop timeout) :=
  of_request rfl rfl (by decide) fun h => by
  simp [Instr.wf, fitsOctet] at h; omega
theorem clearSite (tag site : Nat) : Statement (.clearSite tag site) :=
  of_request rfl rfl (by decide) fun h => by
  simp [Instr.wf, fitsOctet] at h; omega
theorem setSitePolicy (tag policy : Nat) : Statement (.setSitePolicy tag policy) :=
  of_request rfl rfl (by decide) fun h => by
  simp [Instr.wf, fitsOctet] at h; omega
theorem setZoneGrace (tag first last grace : Nat) : Statement (.setZoneGrace tag first last grace) :=
  of_request rfl rfl (by decide) fun h => by
  simp [Instr.wf, fitsOctet] at h; omega
theorem querySites (tag : Nat) : Statement (.querySites tag) :=
  of_request rfl rfl (by decide) fun h => by
  simp [Instr.wf, fitsOctet] at h; omega
theorem queryZone (tag zone : Nat) : Statement (.queryZone tag zone) :=
  of_request rfl rfl (by decide) fun h => by
  simp [Instr.wf, fitsOctet] at h; omega
theorem setLoadBands (tag t1 t2 t3 h : Nat) : Statement (.setLoadBands tag t1 t2 t3 h) :=
  of_request rfl rfl (by decide) fun h => by
  simp [Instr.wf, fitsOctet] at h; omega
theorem setBandEntry (tag band interval allowance : Nat) : Statement (.setBandEntry tag band interval allowance) :=
  of_request rfl rfl (by decide) fun h => by
  simp [Instr.wf, fitsOctet] at h; omega
theorem queryLoad (tag : Nat) : Statement (.queryLoad tag) :=
  of_request rfl rfl (by decide) fun h => by
  simp [Instr.wf, fitsOctet] at h; omega
theorem setSupervision (tag mode window : Nat) : Statement (.setSupervision tag mode window) :=
  of_request rfl rfl (by decide) fun h => by
  simp [Instr.wf, fitsOctet] at h; omega
theorem querySupervision (tag : Nat) : Statement (.querySupervision tag) :=
  of_request rfl rfl (by decide) fun h => by
  simp [Instr.wf, fitsOctet] at h; omega
theorem resume (tag : Nat) : Statement (.resume tag) :=
  of_request rfl rfl (by decide) fun h => by
  simp [Instr.wf, fitsOctet] at h; omega
theorem status (tag : Nat) : Statement (.status tag) :=
  of_request rfl rfl (by decide) fun h => by
  simp [Instr.wf, fitsOctet] at h; omega
theorem identify (tag : Nat) : Statement (.identify tag) :=
  of_request rfl rfl (by decide) fun h => by
  simp [Instr.wf, fitsOctet] at h; omega
theorem setTime (tag value : Nat) : Statement (.setTime tag value) :=
  of_request rfl rfl (by decide) fun h => by
  simp [Instr.wf, fitsOctet] at h; omega
theorem setLink (tag rate : Nat) : Statement (.setLink tag rate) :=
  of_request rfl rfl (by decide) fun h => by
  simp [Instr.wf, fitsOctet] at h; omega
theorem keepalive (tag : Nat) : Statement (.keepalive tag) :=
  of_request rfl rfl (by decide) fun h => by
  simp [Instr.wf, fitsOctet] at h; omega
theorem restart (tag : Nat) : Statement (.restart tag) :=
  of_request rfl rfl (by decide) fun h => by
  simp [Instr.wf, fitsOctet] at h; omega
theorem unknownRequest (kind tag : Nat) : Statement (.unknownRequest kind tag) := by
  intro hw k t hk
  obtain ⟨rfl, rfl⟩ := Prod.mk.inj (Option.some.inj hk)
  simp only [Instr.wf, Bool.and_eq_true, fitsOctet, decide_eq_true_eq] at hw
  exact ⟨hw.1.1, hw.2, .inr ⟨_, _, rfl⟩⟩
theorem failedFrame (why : FrameFault) : Statement (.failedFrame why) := of_none rfl
theorem octetGap : Statement .octetGap := of_none rfl
theorem replySent (receiving : Bool) : Statement (.replySent receiving) := of_none rfl
theorem noticeSent : Statement .noticeSent := of_none rfl
theorem warmReset : Statement .warmReset := of_none rfl
theorem coldReset : Statement .coldReset := of_none rfl
theorem carrierOn : Statement .carrierOn := of_none rfl
theorem carrierOff : Statement .carrierOff := of_none rfl
theorem reply (hdr : Header) (acks : List Nat) (items : List Item) : Statement (.reply hdr acks items) := of_none rfl
theorem burst (hdr : Header) (item : Item) : Statement (.burst hdr item) := of_none rfl
theorem beacon (relay : List Nat) (site : Nat) : Statement (.beacon relay site) := of_none rfl
theorem rejectedFrame : Statement .rejectedFrame := of_none rfl
theorem offerTimeout (order : Nat) : Statement (.offerTimeout order) := of_none rfl
theorem warning (truck seat : Nat) : Statement (.warning truck seat) := of_none rfl
theorem deadline (truck seat : Nat) : Statement (.deadline truck seat) := of_none rfl
theorem decisionTimeout (permit : Nat) : Statement (.decisionTimeout permit) := of_none rfl
theorem discardTime (truck permit : Nat) : Statement (.discardTime truck permit) := of_none rfl
theorem lapse : Statement .lapse := of_none rfl
theorem beaconTimeout (site : Nat) : Statement (.beaconTimeout site) := of_none rfl
theorem cycleStart : Statement .cycleStart := of_none rfl
theorem openWindowEnd : Statement .openWindowEnd := of_none rfl
theorem windowClosing : Statement .windowClosing := of_none rfl
theorem periodEnd : Statement .periodEnd := of_none rfl
theorem resetLineAssertion : Statement .resetLineAssertion := of_none rfl

end Sys2Proof.Laws.RequestFits
end

