-- ==== Sys2Proof/Laws/Queues.lean ====
section
/-!
SUPPORT. What the queue operations of the Delivery Unit do: the record found for a subject after each of them, and the
sequence number a new record gets.
-/
namespace Sys2Proof.Machine

/-! ## The record for a subject -/

@[simp] theorem recFor_nil (x : Subject) : recFor [] x = none := rfl

theorem recFor_cons (r : Rec) (q : List Rec) (x : Subject) :
    recFor (r :: q) x = if r.subject = x then some r else recFor q x := by
  by_cases h : r.subject = x
  · simp [recFor, h]
  · have hb : (r.subject == x) = false := by simp [h]
    simp only [recFor, List.find?_cons, hb, h, if_false]

theorem recFor_append (a b : List Rec) (x : Subject) : recFor (a ++ b) x = (recFor a x).or (recFor b x) := by
  simp [recFor, List.find?_append]

/-- A record found for a subject has it and stands in the queue. -/
theorem recFor_some {q : List Rec} {x : Subject} {r : Rec} (h : recFor q x = some r) : r.subject = x ∧ r ∈ q :=
  ⟨by simpa using List.find?_some h, List.mem_of_find?_eq_some h⟩

theorem recFor_none {q : List Rec} {x : Subject} : recFor q x = none ↔ ∀ r ∈ q, r.subject ≠ x := by
  simp [recFor, List.find?_eq_none]

/-- A record of a subject that stands nowhere put anywhere into a queue. -/
theorem recFor_insert {a b : List Rec} {r : Rec} (h : recFor (a ++ b) r.subject = none) (x : Subject) :
    recFor (a ++ r :: b) x = if x = r.subject then some r else recFor (a ++ b) x := by
  have ha : recFor a r.subject = none := by
    rw [recFor_append] at h
    cases hr : recFor a r.subject with
    | none => rfl
    | some y => simp [hr] at h
  rw [recFor_append, recFor_cons, recFor_append]
  by_cases hx : x = r.subject
  · subst hx; simp [ha]
  · simp [hx, Ne.symm hx]

/-- The queue without a subject's record (R118). -/
theorem recFor_without (q : List Rec) (x y : Subject) :
    recFor (without q x) y = if y = x then none else recFor q y := by
  induction q with
  | nil => simp [without]
  | cons r q ih =>
    have hc : without (r :: q) x = if r.subject = x then without q x else r :: without q x := by
      by_cases h : r.subject = x <;> simp [without, h]
    rw [hc, recFor_cons]
    by_cases h : r.subject = x
    · rw [if_pos h, ih]
      by_cases hy : y = x
      · simp [hy]
      · simp [h, Ne.symm hy]
    · rw [if_neg h, recFor_cons, ih]
      by_cases hy : r.subject = y
      · simp [← hy, h]
      · simp [hy]

/-! ## Places in the queue (R116, R117) -/

/-- The urgent run and the routine part are the queue. -/
theorem run_part (q : List Rec) : urgentRun q ++ routinePart q = q := List.takeWhile_append_dropWhile

/-- Behind a subject is one place in the queue. -/
theorem behindSubject_split (x : Subject) (r : Rec) (q : List Rec) :
    ∃ a b, behindSubject x r q = a ++ r :: b ∧ q = a ++ b := by
  induction q with
  | nil => exact ⟨[], [], rfl, rfl⟩
  | cons y q ih =>
    unfold behindSubject
    split
    · exact ⟨[y], q, rfl, rfl⟩
    · obtain ⟨a, b, h1, h2⟩ := ih
      exact ⟨y :: a, b, by rw [h1]; rfl, by rw [h2]; rfl⟩

theorem recFor_behindRun {q : List Rec} {r : Rec} (h : recFor q r.subject = none) (x : Subject) :
    recFor (behindRun q r) x = if x = r.subject then some r else recFor q x := by
  have e := recFor_insert (a := urgentRun q) (b := routinePart q) (r := r) (by rw [run_part]; exact h) x
  rw [run_part] at e
  exact e

theorem recFor_behindSubject {q : List Rec} {r : Rec} (y : Subject) (h : recFor q r.subject = none) (x : Subject) :
    recFor (behindSubject y r q) x = if x = r.subject then some r else recFor q x := by
  obtain ⟨a, b, h1, h2⟩ := behindSubject_split y r q
  rw [h1, recFor_insert (h2 ▸ h), ← h2]

/-- A permit's ANSWER moved behind its PERMIT record leaves every subject its record (R117). -/
theorem recFor_tuckAnswer (p : Nat) (q : List Rec) (x : Subject) : recFor (tuckAnswer p q) x = recFor q x := by
  unfold tuckAnswer
  split
  · rename_i a ha
    split
    · have hs := (recFor_some ha).1
      rw [recFor_behindSubject _ (by rw [recFor_without, hs]; simp), recFor_without, hs]
      by_cases hx : x = .answer p
      · rw [if_pos hx, hx, ha]
      · rw [if_neg hx, if_neg hx]
    · rfl
  · rfl

theorem recFor_tuckFor (y : Subject) (q : List Rec) (x : Subject) : recFor (tuckFor y q) x = recFor q x := by
  unfold tuckFor
  split
  · exact recFor_tuckAnswer _ q x
  · rfl

/-- A record placed anew is the record for its subject, and every other subject keeps its own (R116, R117). -/
theorem recFor_placeNew {q : List Rec} {r : Rec} (h : recFor q r.subject = none) (x : Subject) :
    recFor (placeNew q r) x = if x = r.subject then some r else recFor q x := by
  have tail : recFor (q ++ [r]) x = if x = r.subject then some r else recFor q x := by
    have e := recFor_insert (a := q) (b := []) (r := r) (by simpa using h) x
    simpa using e
  unfold placeNew
  split
  · rename_i p hp
    split
    · exact recFor_behindSubject _ h x
    · exact recFor_behindRun h x
  · rw [recFor_tuckFor]
    split
    · exact recFor_behindRun h x
    · exact tail

/-- An updated record is the record for its subject, and every other subject keeps its own (R114, R117). -/
theorem recFor_placeUpdated {q : List Rec} {old new : Rec} (hq : recFor q old.subject = some old)
    (hs : new.subject = old.subject) (x : Subject) :
    recFor (placeUpdated q old new) x = if x = new.subject then some new else recFor q x := by
  unfold placeUpdated
  split
  · induction q with
    | nil => simp at hq
    | cons r q ih =>
      rw [List.map_cons, recFor_cons, recFor_cons]
      by_cases hr : r.subject = old.subject
      · rw [if_pos hr]
        by_cases hx : x = old.subject
        · simp [hx, hs]
        · rw [if_neg (by rw [hs]; exact Ne.symm hx), if_neg (by rw [hs]; exact hx), if_neg (by rw [hr]; exact Ne.symm hx)]
          rw [recFor_cons, if_pos hr] at hq
          clear ih
          induction q with
          | nil => rfl
          | cons y q ih =>
            rw [List.map_cons, recFor_cons, recFor_cons, ih]
            by_cases hy : y.subject = old.subject
            · rw [if_pos hy, if_neg (by rw [hs]; exact Ne.symm hx), if_neg (by rw [hy]; exact Ne.symm hx)]
            · rw [if_neg hy]
      · rw [if_neg hr]
        rw [recFor_cons, if_neg hr] at hq
        rw [ih hq]
        by_cases hx : r.subject = x
        · rw [if_pos hx, if_pos hx, if_neg (by rw [hs, ← hx]; exact hr)]
        · rw [if_neg hx, if_neg hx]
  · rw [recFor_tuckFor, recFor_behindRun (by rw [recFor_without, hs]; simp), recFor_without]
    by_cases hx : x = new.subject
    · simp [hx]
    · rw [if_neg hx, if_neg hx, if_neg (by rw [← hs]; exact hx)]

/-- Whatever leaves a queue of one record a subject, every other subject keeps its record (R118). -/
theorem recFor_afterLeaving {q : List Rec} (hn : (q.map Rec.subject).Nodup) (x y : Subject) :
    recFor (afterLeaving q x) y = if y = x then none else recFor q y := by
  unfold afterLeaving
  split
  · rename_i p
    split
    · split
      · rename_i a ha
        obtain ⟨hs, hm⟩ := recFor_some ha
        have hrun : recFor (urgentRun q) (.answer p) = none := by
          rw [recFor_none]
          intro r hr e
          rw [← run_part q, List.map_append, List.nodup_append] at hn
          exact hn.2.2 _ (List.mem_map_of_mem hr) _ (List.mem_map_of_mem hm) (by rw [e, hs])
        have hq : recFor q (.answer p) = some a := by rw [← run_part q, recFor_append, hrun, ha]; rfl
        rw [recFor_behindRun (by rw [recFor_without, hs]; simp), recFor_without, recFor_without, hs]
        by_cases hy : y = .answer p
        · subst hy; simp [hq]
        · simp [hy]
      · exact recFor_without q _ y
    · exact recFor_without q _ y
  · exact recFor_without q x y

/-! ## Sequence numbers (R115) -/

/-- While a search of `k` tries from `n` on finds no free value, `n` and the `k` values behind it are all in use. -/
theorem freeSeq_used {used : List Nat} {n k : Nat} (h : freeSeq used n k ∈ used) :
    ∀ j, j ≤ k → (if j = 0 then n else (n + j) % 256) ∈ used := by
  induction k generalizing n with
  | zero =>
    intro j hj
    have : j = 0 := by omega
    subst this
    simpa [freeSeq] using h
  | succ k ih =>
    unfold freeSeq at h
    have hn : n ∈ used := by
      by_contra hn
      simp [hn] at h
    simp only [List.contains_iff_mem, hn, if_true] at h
    intro j hj
    match j with
    | 0 => simpa using hn
    | j + 1 =>
      have := ih h j (by omega)
      by_cases h0 : j = 0
      · subst h0; simpa using this
      · simp only [h0, if_false] at this
        simpa [show ((n + 1) % 256 + j) % 256 = (n + (j + 1)) % 256 by omega] using this

/-- The sequence number a truck's counter gives next is held by no record of a queue of at most 12 (R115). -/
theorem nextSeq_fresh (t : Truck) (h : t.queue.length ≤ 12) : ∀ r ∈ t.queue, r.seq ≠ t.nextSeq := by
  intro r hr e
  have hu : t.nextSeq ∈ t.queue.map Rec.seq := e ▸ List.mem_map_of_mem hr
  have all := freeSeq_used hu
  let f : Nat → Nat := fun j => (t.seqCtr + (j + 1)) % 256
  have hsub : (List.range 13).map f ⊆ t.queue.map Rec.seq := by
    intro x hx
    obtain ⟨j, hj, rfl⟩ := List.mem_map.mp hx
    have := all (j + 1) (by have := List.mem_range.mp hj; omega)
    simpa [f] using this
  have hnd : ((List.range 13).map f).Nodup := by
    refine List.Nodup.map_on (fun a ha b hb hab => ?_) List.nodup_range
    have := List.mem_range.mp ha
    have := List.mem_range.mp hb
    simp only [f] at hab
    omega
  have hle := (List.subperm_of_subset hnd hsub).length_le
  simp at hle
  omega

/-- The sequence number found is below 256 where the counter is. -/
theorem freeSeq_lt (used : List Nat) {n : Nat} (hn : n < 256) (k : Nat) : freeSeq used n k < 256 := by
  induction k generalizing n with
  | zero => exact hn
  | succ k ih =>
    unfold freeSeq
    split
    · exact ih (Nat.mod_lt _ (by decide))
    · exact hn

/-! ## Placing and updating (R114) -/

/-- A record can be given exactly where the queue can take one for its subject. -/
theorem give_isSome (now wait : Nat) (t : Truck) (c : Content) :
    (t.give now wait c).isSome = t.canTake c.subject := by
  unfold Truck.give Truck.canTake
  cases h : recFor t.queue c.subject with
  | some r => simp
  | none => by_cases hl : t.queue.length < 12 <;> simp [hl]

/-- What giving a record does to a truck: its subject's record is a fresh one with this content, every other subject
keeps its own, and nothing else of the truck changes but the sequence counter (R114, R115). -/
theorem truck_give {now wait : Nat} {t u : Truck} {c : Content} (h : t.give now wait c = some u) :
    ∃ r : Rec, r.content = c ∧ r.seq = t.nextSeq ∧ r.attempts = 0 ∧ r.inFlight = false ∧
      u = { t with queue := u.queue, seqCtr := (t.nextSeq + 1) % 256 } ∧
      ∀ x, recFor u.queue x = if x = c.subject then some r else recFor t.queue x := by
  unfold Truck.give at h
  dsimp only at h
  split at h
  · rename_i old hold
    obtain rfl := Option.some.inj h
    let r : Rec := { old with
      content := c, seq := t.nextSeq, attempts := 0, inFlight := false, discard := discardFor now wait (some old) c }
    have hs : r.subject = old.subject := (recFor_some hold).1.symm
    exact ⟨r, rfl, rfl, rfl, rfl, rfl, fun x =>
      recFor_placeUpdated (by rw [(recFor_some hold).1]; exact hold) hs x⟩
  · rename_i hold
    split at h
    · obtain rfl := Option.some.inj h
      exact ⟨{ content := c, seq := t.nextSeq, attempts := 0, inFlight := false, entry := now
               discard := discardFor now wait none c, origin := c.origin }, rfl, rfl, rfl, rfl, rfl, fun x =>
        recFor_placeNew hold x⟩
    · exact absurd h (by simp)

/-- A record given for a truck whose queue can take it: what the state holds then. -/
theorem give_taken {s : State} {n : Nat} {t : Truck} {c : Content} (ht : truckOf s n = some t)
    (hc : t.canTake c.subject = true) :
    ∃ (u : Truck) (r : Rec), truckOf (give s n c) n = some u ∧ (∀ m, m ≠ n → truckOf (give s n c) m = truckOf s m) ∧
      r.content = c ∧ r.seq = t.nextSeq ∧ r.attempts = 0 ∧ r.inFlight = false ∧
      u = { t with queue := u.queue, seqCtr := (t.nextSeq + 1) % 256 } ∧
      (∀ x, recFor u.queue x = if x = c.subject then some r else recFor t.queue x) ∧
      (give s n c).askArb = (s.askArb || c.urgent || (recFor t.queue c.subject).any Rec.inFlight) := by
  have hs : (t.give s.now s.timeouts.discard c).isSome = true := by rw [give_isSome, hc]
  obtain ⟨u, hu⟩ := Option.isSome_iff_exists.mp hs
  obtain ⟨r, h1, h2, h3, h4, h5, h6⟩ := truck_give hu
  have hn : u.num = n := by rw [h5]; exact (findBy_some ht).1
  have key : ∀ m, truckOf (give s n c) m = (truckOf s m).map fun k => if m = n then u else k := by
    intro m
    have e := truckOf_modTruck s n m (fun _ => u) fun _ _ => hn
    have hg : give s n c = { modTruck s n (fun _ => u) with
        askArb := s.askArb || c.urgent || ((recFor t.queue c.subject).any Rec.inFlight) } := by simp [give, ht, hu]
    rw [hg]
    exact e
  refine ⟨u, r, by rw [key, ht]; simp, fun m hm => ?_, h1, h2, h3, h4, h5, h6, by simp [give, ht, hu]⟩
  rw [key]
  simp [hm]

/-- A record given for a truck whose queue cannot take it, or for no truck, is not placed. -/
theorem give_refused {s : State} {n : Nat} {c : Content} (h : canGive s n c.subject = false) : give s n c = s := by
  unfold canGive at h
  unfold give
  split
  · rfl
  · rename_i t ht
    rw [ht] at h
    have hn : t.give s.now s.timeouts.discard c = none := by
      have e := give_isSome s.now s.timeouts.discard t c
      dsimp only at h
      rw [h] at e
      simpa using e
    rw [hn]

/-! ## Removal (R118) -/

/-- A removal from a truck of one record a subject: what the state holds then. -/
theorem dropRec_taken {s : State} {n : Nat} {t : Truck} {x : Subject} (ht : truckOf s n = some t)
    (hn : (t.queue.map Rec.subject).Nodup) :
    ∃ u, truckOf (dropRec s n x) n = some u ∧ (∀ m, m ≠ n → truckOf (dropRec s n x) m = truckOf s m) ∧
      u = { t with queue := u.queue } ∧ ∀ y, recFor u.queue y = if y = x then none else recFor t.queue y := by
  have key : ∀ m, truckOf (dropRec s n x) m =
      (truckOf s m).map fun k => if m = n then { k with queue := afterLeaving k.queue x } else k :=
    fun m => truckOf_modTruck s n m _ fun k hk => hk
  refine ⟨{ t with queue := afterLeaving t.queue x }, by rw [key, ht]; simp, fun m hm => ?_, rfl,
    fun y => recFor_afterLeaving hn x y⟩
  rw [key]
  simp [hm]

end Sys2Proof.Machine
end

