-- ==== Sys2Proof/Machine/WireOut.lean ====
section
/-!
DEFINITION. Replies, notices and downlink air frames as octets, by the layouts of spec/11_the_console_link.md section
11.5: enumerations are numbered from 0 in the order the manual lists their values. Where the section leaves a field's
form open, notes/assumptions/25.md says what is written here, and 48.md and 50.md there for QUERY_WATCH and QUERY_PENDING.
-/
namespace Sys2Proof.Machine

/-! ## Codes of enumerations -/

/-- Result codes, 0 for OK to 18 for STILL_CONFLICT, in the order of spec/00_scope.md section 4.6. -/
def Result.num : Result → Nat
  | .ok => 0 | .clamped => 1 | .unknownRequest => 2 | .badField => 3 | .notFound => 4 | .duplicate => 5
  | .tableFull => 6 | .wrongState => 7 | .limit => 8 | .queueFull => 9 | .inUse => 10 | .badOrder => 11
  | .rangeOverlap => 12 | .tooLate => 13 | .permitOpen => 14 | .orderMismatch => 15 | .crewAlarm => 16
  | .stillAlarm => 17 | .stillConflict => 18

/-- Step refusal reasons in the order of spec/00_scope.md section 4.7. -/
def Reason.num : Reason → Nat
  | .mismatch => 0 | .notActive => 1 | .halted => 2 | .outOfOrder => 3 | .crewAlarm => 4 | .unattended => 5
  | .heldByOther => 6 | .pointBusy => 7 | .holdLimit => 8 | .unknownPosition => 9 | .position => 10 | .denied => 11
  | .timeout => 12 | .busy => 13

def Reach.num : Reach → Nat
  | .absent => 0 | .reachable => 1 | .missed => 2 | .lost => 3

def Position.num : Position → Nat
  | .open => 0 | .closed => 1 | .grounded => 2 | .unknown => 3

def Action.num : Action → Nat
  | .open => 0 | .close => 1 | .ground => 2 | .unground => 3 | .verify => 4

def StepState.num : StepState → Nat
  | .pending => 0 | .asked => 1 | .answered => 2 | .executing => 3 | .done => 4

def StepResult.num : StepResult → Nat
  | .normal => 0 | .abnormal => 1

/-- The seven states of spec/04 section 4.1; a PERMIT record counts from ISSUED (R72). -/
def PermitState.num : PermitState → Nat
  | .loaded => 0 | .issued => 1 | .isolating => 2 | .cleared => 3 | .restoring => 4 | .closed => 5 | .cancelled => 6

def Cause.num : Cause → Nat
  | .host => 0 | .alarm => 1 | .mismatch => 2 | .conflict => 3 | .site => 4

/-- The seven states of spec/02 section 2.1. -/
def OrderState.num : OrderState → Nat
  | .queued => 0 | .offered => 1 | .accepted => 2 | .enRoute => 3 | .onSite => 4 | .complete => 5 | .cancelled => 6

def Disposition.num : Disposition → Nat
  | .offer => 0 | .held => 1 | .withdrawn => 2 | .cancelled => 3

def TimerMode.num : TimerMode → Nat
  | .interval => 0 | .stillness => 1 | .task => 2

def AlarmMode.num : AlarmMode → Nat
  | .latched => 0 | .selfClear => 1 | .reportOnly => 2

def WatchState.num : WatchState → Nat
  | .idle => 0 | .watch => 1 | .warn => 2 | .alarm => 3

def AlarmCause.num : AlarmCause → Nat
  | .deadline => 0 | .taskOverrun => 1 | .stillness => 2 | .emergency => 3

def PromptKind.num : PromptKind → Nat
  | .due => 0 | .alarmed => 1

def AnswerKind.num : AnswerKind → Nat
  | .grant => 0 | .held => 1 | .refuse => 2

def SiteState.num : SiteState → Nat
  | .unused => 0 | .up => 1 | .down => 2

def Policy.num : Policy → Nat
  | .global => 0 | .affected => 1

def SupMode.num : SupMode → Nat
  | .off => 0 | .report => 1 | .act => 2

def ConsoleState.num : ConsoleState → Nat
  | .attended => 0 | .unattended => 1

def Phase.num : Phase → Nat
  | .list => 0 | .window => 1 | .gap => 2

def TurnKind.num : TurnKind → Nat
  | .rollCall => 0 | .urgent => 1

def Originator.num : Originator → Nat
  | .console => 0 | .part => 1

def WatchReason.num : WatchReason → Nat
  | .start => 0 | .orderStart => 1 | .stop => 2 | .orderStop => 3 | .close => 4 | .checkIn => 5 | .motion => 6

/-- A notice names an item by its air code. -/
def ItemKind.num : ItemKind → Nat
  | .checkIn => 2 | .motion => 3 | .taskDone => 4 | .emergency => 5 | .permitAccept => 7 | .workDone => 8
  | .stepAsk => 9 | .stepDone => 10

def ReplyCode.num : ReplyCode → Nat
  | .accept => 0 | .decline => 1 | .enRoute => 2 | .onSite => 3 | .complete => 4

def PermitIgnored.num : PermitIgnored → Nat
  | .state => 0 | .notHolder => 1 | .unknownPermit => 2 | .halted => 3

def StepIgnored.num : StepIgnored → Nat
  | .queueFull => 0 | .answerStanding => 1 | .unknownPermit => 2 | .notHolder => 3 | .noStep => 4 | .notGranted => 5

def AbnormalReason.num : AbnormalReason → Nat
  | .position => 0 | .holdRefused => 1

def LossReason.num : LossReason → Nat
  | .attempts => 0 | .discarded => 1

/-- An air rate's code (R133), 0xFF for a rate that is none of the three. -/
def airRateCode (r : Nat) : Nat := if r = 4800 then 0 else if r = 9600 then 1 else if r = 19200 then 2 else 0xFF

/-- A link rate's code (R183), 0xFF for a rate that is none of the four. -/
def linkRateCode (r : Nat) : Nat :=
  if r = 57600 then 0 else if r = 115200 then 1 else if r = 230400 then 2 else if r = 460800 then 3 else 0xFF

/-! ## Sets and groups -/

def putCauses (c : Causes) : List Octet := putSet [c.host, c.alarm, c.mismatch, c.conflict, c.site]

def putFlags (x : EventFlags) : List Octet := putSet [x.warned, x.alarmed, x.contactAfterAlarm, x.stagedApplied]

def putStepId (i : StepId) : List Octet := put8 i.list ++ put8 i.num

def putSettings (x : Settings) : List Octet :=
  put8 x.timer.num ++ put8 x.alarm.num ++ put16 x.interval ++ put16 x.lead ++ put16 x.task ++ put16 x.still

def putProfile (p : Profile) : List Octet := put8 p.seat ++ putSettings p.set

def putMark (b : BusyMark) : List Octet := put16 b.permit ++ putStepId b.step

def putThresholds (x : Thresholds) : List Octet := put16 x.t1 ++ put16 x.t2 ++ put16 x.t3 ++ put8 x.h

def putEntry (e : BandEntry) : List Octet := put16 e.interval ++ put16 e.allowance

/-- A record's kind code. -/
def Subject.kindCode : Subject → Nat
  | .order _ => 1
  | .permit _ => 2
  | .answer _ => 3
  | .prompt _ => 4
  | .assist => 5
  | .text => 6

/-- A record's kind and subject: a number, 0 for the one subject of ASSIST and TEXT. -/
def putSubject (x : Subject) : List Octet :=
  put8 x.kindCode ++
    match x with
    | .order n => put16 n
    | .permit n => put16 n
    | .answer n => put16 n
    | .prompt seat => put16 seat
    | .assist => put16 0
    | .text => put16 0

/-- A content summary (R123). -/
def putSummary : Summary → List Octet
  | .order d => put8 d.num
  | .permit st => put8 (st.num - 1)
  | .answer k i => put8 k.num ++ putStepId i
  | .prompt k => put8 k.num
  | .assist n => put8 n
  | .text n => put8 n

/-! ## Record contents on the air -/

/-- An order state in an ORDER content: 0 OFFERED to 3 ON_SITE. -/
def putOrderState (st : Option OrderState) : List Octet := putOpt8 (st.map fun x => x.num - 1)

def putStepContent (x : StepContent) : List Octet :=
  putStepId x.step ++ put16 x.point ++ put8 x.action.num ++ putOpt8 (x.required.map Position.num)
    ++ putSet [x.hold, x.confirm] ++ putBool x.done

/-- The content of a record; times become stamps as the frame is handed over. -/
def putContent (s : State) : Content → List Octet
  | .order c =>
    put16 c.num ++ put8 c.disp.num ++ putOrderState c.state ++ put8 c.prio ++ putText c.loc ++ putText c.desc
      ++ putId c.linked ++ put8 (if c.permitOpen then 0 else 0xFF)
  | .permit c =>
    put16 c.num ++ put8 (c.state.num - 1) ++ putBool c.causes.any ++ putCauses c.causes ++ putId c.linked
      ++ putList putStepContent c.steps
  | .answer c =>
    put16 c.permit ++ putStepId c.step ++ put8 c.kind.num ++ putOpt8 (c.reason.map Reason.num) ++ putId c.point
      ++ putOpt8 (c.action.map Action.num) ++ putOpt8 (c.required.map Position.num)
  | .prompt c =>
    put8 c.seat ++ put8 c.kind.num ++ putTime (stampOpt s c.deadline) ++ putOpt8 (c.cause.map AlarmCause.num)
  | .assist l =>
    putList (fun e => put16 e.truck ++ put8 e.seat ++ put8 e.zone ++ putTime (stampOpt s e.lastContact)) l
  | .text t => putText t

/-! ## Air frames -/

/-- An air frame's octets around its route, kind and body: the length ahead, the check behind. -/
def airFrame (l : List Octet) : List Octet := put16 (l.length + 2) ++ l ++ put16 (crc l).toNat

/-- The route octets of a downlink frame (R154). -/
def putRoute (route : List Nat) : List Octet :=
  if route.isEmpty then [] else put8 (0x80 + route.length) ++ route.flatMap put8

/-- A record in a POLL: kind, sequence number, content length, content. -/
def putRec (s : State) (r : Nat × Content) : List Octet :=
  put8 (match r.2 with
    | .order _ => 1
    | .permit _ => 2
    | .answer _ => 3
    | .prompt _ => 4
    | .assist _ => 5
    | .text _ => 6)
    ++ put8 r.1 ++ put16 (putContent s r.2).length ++ putContent s r.2

/-- A downlink frame's octets as handed to the transceiver link (R131, R154). -/
def putDown (s : State) : DownFrame → List Octet
  | .poll route truck acks recs =>
    airFrame (putRoute route ++ put8 0x01 ++ put16 truck ++ putList put8 acks ++ putList (putRec s) recs)
  | .open slots => airFrame (put8 0x02 ++ put8 slots ++ put16 300)

/-! ## Console frames -/

/-- A console frame from its kind, tag and body (R177). -/
def consoleFrame (kind tag : Nat) (body : List Octet) : List Octet :=
  let l := put16 (body.length + 2) ++ put8 kind ++ put8 tag ++ body
  0xD1 :: l ++ put16 (crc l).toNat

/-- A reply's kind code: 0x80 plus the request's, or 0x80 for a kind outside 0x01 to 0x3F. -/
def replyKind (kind : Nat) : Nat := if 0x01 ≤ kind ∧ kind ≤ 0x3F then 0x80 + kind else 0x80

def putContext (x : WatchState × TimerMode × AlarmMode) : List Octet := put8 x.1.num ++ put8 x.2.1.num ++ put8 x.2.2.num

def putTruckReport (r : TruckReport) : List Octet :=
  put16 r.num ++ put8 r.reach.num ++ put8 r.miss ++ putOpt8 r.zone ++ putTime r.lastHeard ++ putList put16 r.orderSlots
    ++ putList put16 r.permitSlots ++ putContext r.ctx1 ++ putContext r.ctx2 ++ put8 r.queued

def putOrderReport (r : OrderReport) : List Octet :=
  put16 r.num ++ put8 r.prio ++ putText r.loc ++ putText r.desc ++ put8 r.state.num ++ putId r.assigned
    ++ putList put16 r.cands ++ putList put16 r.tried ++ putGroup putProfile r.profile ++ putId r.linked
    ++ putTime r.offerTime ++ putOpt16 r.remaining

/-- The body of QUERY_WATCH (R59), its fields in the order of the table in section 3.1; R59 lists the still-since time with
the other times, ahead of the grace. DESIGN CHOICE: notes/assumptions/48.md. -/
def putWatchReport (r : WatchReport) : List Octet :=
  put8 r.seat ++ put8 r.state.num ++ putSettings r.set ++ putGroup putSettings r.staged ++ putTime r.lastContact
    ++ putTime r.startTime ++ putTime r.deadline ++ putTime r.warnTime ++ put16 r.grace ++ put16 r.allowance
    ++ put16 r.stillAcc ++ putTime r.stillSince ++ putId r.startedBy ++ put8 r.warnCount ++ putFlags r.flags
    ++ putGroup (fun a => put8 a.cause.num ++ put32 a.raised) r.alarm ++ putTime r.elapsed ++ putTime r.remaining

/-- One step of QUERY_PERMIT behind its list and number (R87). -/
def putStepRec (x : StepId × StepRec) : List Octet :=
  putStepId x.1 ++ put16 x.2.point ++ put8 x.2.action.num ++ putOpt8 (x.2.required.map Position.num)
    ++ putSet [x.2.hold, x.2.confirm] ++ put8 x.2.state.num ++ putOpt8 (x.2.result.map StepResult.num)
    ++ putBool x.2.sent ++ putOpt8 (x.2.reason.map Reason.num)

def putPermitReport (r : PermitReport) : List Octet :=
  put16 r.num ++ put16 r.holder ++ putId r.linked ++ put8 r.state.num ++ putTime r.issueTime ++ putCauses r.causes
    ++ putList putStepRec (named 0 1 r.iso ++ named 1 1 r.rest) ++ putGroup putBool r.record ++ putBool r.asked

/-- An entry of QUERY_PENDING (R98): its fields in the order of the table in section 5.4, the two times as stamps at their
place there, and behind them the step's point and action. DESIGN CHOICE: notes/assumptions/50.md. -/
def putAskReport (r : AskReport) : List Octet :=
  put16 r.permit ++ putStepId r.step ++ put16 r.holder ++ put32 r.askTime ++ put32 r.expiry ++ putId r.point
    ++ putOpt8 (r.action.map Action.num) ++ put16 r.remaining

def putPointReport (r : PointReport) : List Octet :=
  put16 r.num ++ put8 r.position.num ++ put8 r.refCount
    ++ putList (fun h => put16 h.permit ++ put8 h.position.num) r.holds ++ putGroup putMark r.busy
    ++ putList putMark r.verifying

def putRecReport (r : RecReport) : List Octet :=
  putSubject r.subject ++ put8 (if r.urgent then 0 else 1) ++ put8 r.units ++ put8 r.seq ++ put8 r.attempts
    ++ putBool r.inFlight ++ put32 r.entry ++ putTime r.discard ++ put8 r.origin.num ++ putSummary r.summary

def putTurnReport (r : TurnReport) : List Octet :=
  put16 r.truck ++ put8 r.kind.num ++ putList put8 r.route ++ putBool r.abandoned ++ putOffset r.opening
    ++ putOffset r.closing

def putAirReport (r : AirReport) : List Octet :=
  put8 (airRateCode r.rate) ++ put16 r.replyWindow ++ put8 r.slots ++ put8 r.budget
    ++ putOpt8 (r.rateWaiting.map airRateCode) ++ put8 r.phase.num ++ put8 r.cycle ++ put32 r.startTime
    ++ put32 r.nextStart ++ putList put16 r.list ++ putGroup putTurnReport r.turn
    ++ putGroup (fun w => put8 w.1 ++ put16 w.2) r.window ++ put16 r.overruns ++ put16 r.missedTurns
    ++ put16 r.rejected ++ put16 r.skipped

def putSiteReport (r : SiteReport) : List Octet :=
  put8 r.state.num ++ putOpt8 r.parent ++ putOpt8 (r.range.map Prod.fst) ++ putOpt8 (r.range.map Prod.snd)
    ++ putOpt16 r.hop ++ putOpt16 r.timeout ++ putTime r.lastBeacon ++ putOpt16 r.remaining ++ put8 r.trucks

def putZoneReport (r : ZoneReport) : List Octet :=
  put16 r.grace ++ put8 r.serving ++ putList put8 r.route ++ putBool r.passesDown ++ putList put16 r.trucks

/-- A band's entry in force with its staged one. -/
def putBand (x : BandEntry × Option BandEntry) : List Octet := putEntry x.1 ++ putGroup putEntry x.2

def putLoadReport (r : LoadReport) : List Octet :=
  put16 r.level ++ put8 r.band ++ putOpt16 r.sample ++ put16 (min r.busy 65534) ++ put16 r.left
    ++ put8 (if r.carrierOn then 0 else 1) ++ putThresholds r.thr ++ putGroup putThresholds r.thrStaged
    ++ (r.table.zip r.staged).flatMap putBand

def putDerived (x : DerivedFlags) : List Octet :=
  putSet [x.alarmOpen, x.warnOpen, x.permitHalted, x.siteDown, x.truckLost]

def putSticky (x : StickyFlags) : List Octet := putSet [x.restarted, x.linkFault, x.lapsed, x.noticesLost]

def putStatus (r : StatusReport) : List Octet :=
  put8 r.console.num ++ put16 r.level ++ put8 r.band ++ put16 r.overruns ++ put8 r.trucks ++ put8 r.orders
    ++ put8 r.permits ++ put16 r.points ++ put8 r.asks ++ put8 r.notices ++ putDerived r.derived ++ putSticky r.sticky

/-- A capacity: a count, or a number above 255 (R182). -/
def putCapacity (n : Nat) : List Octet := if 255 < n then put16 n else put8 n

/-- The fields of a reply behind its result code. -/
def putReplyBody : ReplyBody → List Octet
  | .none => []
  | .truckNumber n => put16 n
  | .truck r => putTruckReport r
  | .order r => putOrderReport r
  | .setWatch staged => put8 staged.toNat
  | .started d w => putTime d ++ putTime w
  | .watch r => putWatchReport r
  | .loaded iso rest => put8 iso ++ put8 rest
  | .causes c => putCauses c
  | .permit r => putPermitReport r
  | .decided k reason => put8 k.num ++ putOpt8 (reason.map Reason.num)
  | .asks l => putList putAskReport l
  | .point r => putPointReport r
  | .text seq units => put8 seq ++ put8 units
  | .queue r => put8 r.seqCtr ++ put8 r.budget ++ putList putRecReport r.recs ++ put8 r.leading
  | .airSettings rate window slots budget => put8 (airRateCode rate) ++ put16 window ++ put8 slots ++ put8 budget
  | .air r => putAirReport r
  | .sites policy l => put8 policy.num ++ l.flatMap putSiteReport
  | .zone r => putZoneReport r
  | .graces first last grace => put8 first ++ put8 last ++ put16 grace
  | .bands thr nextEnd => putThresholds thr ++ put32 nextEnd
  | .bandEntry e => putEntry e
  | .load r => putLoadReport r
  | .supSet mode window console => put8 mode.num ++ put16 window ++ put8 console.num
  | .sup mode window console lastValid remaining =>
    put8 mode.num ++ put16 window ++ put8 console.num ++ putTime lastValid ++ putOpt16 remaining
  | .resumed before => put8 before.num
  | .status r => putStatus r
  | .identity vendor part revision capacities =>
    put16 vendor ++ putText part ++ put16 revision ++ capacities.flatMap putCapacity
  | .time secs => put32 secs
  | .link rate => put8 (linkRateCode rate)

/-- The stamp is a notice's; a reply's body begins with the result code (R179, spec/11 section 11.5). -/
def putReply (e : Entry) : List Octet := consoleFrame (replyKind e.kind) e.tag (put8 e.code.num ++ putReplyBody e.body)

/-! ## Notices -/

/-- A notice's kind code (spec/11 section 11.5). -/
def NoticeBody.kindCode : NoticeBody → Nat
  | .alarm .. => 0x40 | .contact .. => 0x41 | .holdConflict .. => 0x42 | .consoleLapsed .. => 0x43
  | .truckState .. => 0x44 | .zoneChange .. => 0x45 | .unknownTruck .. => 0x46
  | .orderState .. => 0x47 | .noTaker .. => 0x48 | .orderIgnored .. => 0x49 | .lateAccept .. => 0x4A
  | .completeBlocked .. => 0x4B
  | .watchState .. => 0x4C | .warn .. => 0x4D | .recovered .. => 0x4E | .taskEnded .. => 0x4F
  | .permitState .. => 0x50 | .permitHalt .. => 0x51 | .permitIgnored .. => 0x52
  | .stepPending .. => 0x53 | .decisionTimeout .. => 0x54 | .stepResult .. => 0x55 | .doneAfterRevoke .. => 0x56
  | .stepIgnored .. => 0x57
  | .undeliverable .. => 0x58 | .textDelivered .. => 0x59
  | .siteState .. => 0x5A
  | .loadBand .. => 0x5B

def putSource : ConflictSource → List Octet
  | .telemetry => put8 0
  | .stepDone permit step => put8 1 ++ put16 permit ++ putStepId step

/-- The fields of a notice behind its stamp. -/
def putNoticeBody : NoticeBody → List Octet
  | .alarm truck seat cause mode zone last placed =>
    put16 truck ++ put8 seat ++ put8 cause.num ++ put8 mode.num ++ putOpt8 zone ++ putTime last ++ putBool placed
  | .contact truck seat item last => put16 truck ++ put8 seat ++ put8 item.num ++ putTime last
  | .holdConflict point position hold permits source =>
    put16 point ++ put8 position.num ++ put8 hold.num ++ putList put16 permits ++ putSource source
  | .consoleLapsed last window answered superseded alarms =>
    putTime last ++ put16 window ++ put8 answered ++ put8 superseded ++ put8 alarms
  | .truckState truck reach miss zone => put16 truck ++ put8 reach.num ++ put8 miss ++ putOpt8 zone
  | .zoneChange truck old new => put16 truck ++ putOpt8 old ++ put8 new
  | .unknownTruck truck zone => put16 truck ++ put8 zone
  | .orderState order state assigned => put16 order ++ put8 state.num ++ putId assigned
  | .noTaker order prio => put16 order ++ put8 prio
  | .orderIgnored order truck code => put16 order ++ put16 truck ++ put8 code.num
  | .lateAccept order truck state assigned => put16 order ++ put16 truck ++ put8 state.num ++ putId assigned
  | .completeBlocked order truck permit state => put16 order ++ put16 truck ++ put16 permit ++ put8 state.num
  | .watchState truck seat state reason deadline startedBy =>
    put16 truck ++ put8 seat ++ put8 state.num ++ put8 reason.num ++ putTime deadline ++ putId startedBy
  | .warn truck seat mode deadline count placed =>
    put16 truck ++ put8 seat ++ put8 mode.num ++ putTime deadline ++ put8 count ++ putBool placed
  | .recovered truck seat item deadline => put16 truck ++ put8 seat ++ put8 item.num ++ putTime deadline
  | .taskEnded truck seat start => put16 truck ++ put8 seat ++ putTime start
  | .permitState permit state holder linked causes =>
    put16 permit ++ put8 state.num ++ put16 holder ++ putId linked ++ putCauses causes
  | .permitHalt permit holder cause added causes =>
    put16 permit ++ put16 holder ++ put8 cause.num ++ put8 (if added then 0 else 1) ++ putCauses causes
  | .permitIgnored permit truck item reason state =>
    put16 permit ++ put16 truck ++ put8 item.num ++ put8 reason.num ++ putOpt8 (state.map PermitState.num)
  | .stepPending permit step point action holder expiry =>
    put16 permit ++ putStepId step ++ put16 point ++ put8 action.num ++ put16 holder ++ put32 expiry
  | .decisionTimeout permit step holder placed => put16 permit ++ putStepId step ++ put16 holder ++ putBool placed
  | .stepResult permit step point position result reason =>
    put16 permit ++ putStepId step ++ put16 point ++ put8 position.num ++ put8 result.num
      ++ putOpt8 (reason.map AbnormalReason.num)
  | .doneAfterRevoke permit step point position state =>
    put16 permit ++ putStepId step ++ put16 point ++ put8 position.num ++ put8 state.num
  | .stepIgnored truck item permit step reason refusal =>
    put16 truck ++ put8 item.num ++ put16 permit ++ putStepId step ++ put8 reason.num
      ++ putOpt8 (refusal.map Reason.num)
  | .undeliverable truck subject summary origin reason attempts entry =>
    put16 truck ++ putSubject subject ++ putSummary summary ++ put8 origin.num ++ put8 reason.num ++ put8 attempts
      ++ put32 entry
  | .textDelivered truck seq length => put16 truck ++ put8 seq ++ put8 length
  | .siteState site old new last => put8 site ++ put8 old.num ++ put8 new.num ++ putTime last
  | .loadBand old new level sample thr =>
    put8 old ++ put8 new ++ put16 level ++ put16 sample ++ putThresholds thr

/-- A notice as a console frame: tag 0, and a body that begins with its stamp (R180, spec/11 section 11.5). -/
def putNotice (n : Notice) : List Octet := consoleFrame n.body.kindCode 0 (put32 n.stamp ++ putNoticeBody n.body)

/-- The octets of the frame on CTX. -/
def putFrame : TxFrame → List Octet
  | .reply e => putReply e
  | .notice n => putNotice n

end Sys2Proof.Machine
end

