-- ==== Sys2Proof/Tests/Slice0.lean ====
section
/-!
SUPPORT. Checks of the model: an ill-formed command for each well-formedness check, facts and worked examples the spec
gives, and a concrete state for the hypotheses of every statement that has any.
-/
namespace Sys2Proof.Tests

-- One proof after another: many kernel evaluations at once would each take a thread of their own.
set_option Elab.async false

open Sys2Proof Sys2Proof.Machine

/-! ## Well-formedness refuses -/

def settings0 : SettingsIn := { timer := 0, alarm := 0, interval := 900, lead := 120, task := 3600, still := 120 }
def header0 : Header := { relay := [], truck := 1, zone := 10, uplink := 0 }
def step1 : StepId := { list := 0, num := 1 }
def stepIn0 : StepIn := { point := 1, action := 0, required := none, hold := false, confirm := false }

theorem test_wf_octet : (Instr.keepalive 256).wf = false := by decide
theorem test_wf_number : (Instr.enrollTruck 0 65536).wf = false := by decide
theorem test_wf_time : (Instr.setTime 0 4294967296).wf = false := by decide
theorem test_wf_text : (Instr.sendText 0 1 (List.replicate 256 65)).wf = false := by decide +kernel
theorem test_wf_list : (Instr.postOrder 0 1 1 [] [] (List.replicate 256 1) none).wf = false := by decide +kernel
theorem test_wf_list_entry : (Instr.postOrder 0 1 1 [] [] [65536] none).wf = false := by decide
theorem test_wf_settings : (Instr.setWatch 0 1 1 { settings0 with lead := 65536 }).wf = false := by decide
theorem test_wf_profile : (Instr.postOrder 0 1 1 [] [] [] (some { seat := 256, set := settings0 })).wf = false := by
  decide
theorem test_wf_presence : (Instr.changeOrder 0 1 (some 256) none none none none false).wf = false := by decide
theorem test_wf_linked : (Instr.loadPermit 0 1 1 (some 0) [stepIn0] []).wf = false := by decide
theorem test_wf_step : (Instr.loadPermit 0 1 1 none [{ stepIn0 with required := some 255 }] []).wf = false := by decide
theorem test_wf_steps : (Instr.loadPermit 0 1 1 none (List.replicate 256 stepIn0) []).wf = false := by decide +kernel
theorem test_wf_step_name : (Instr.decideStep 0 1 { list := 256, num := 1 } 0).wf = false := by decide
theorem test_wf_kind : (Instr.unknownRequest 0x32 0).wf = false := by decide
theorem test_wf_relay : (Instr.beacon [1, 2, 3] 1).wf = false := by decide
theorem test_wf_header : (Instr.burst { header0 with zone := 256 } .register).wf = false := by decide
theorem test_wf_item : (Instr.burst header0 (.motion 1 256)).wf = false := by decide
theorem test_wf_acks : (Instr.reply header0 [256] []).wf = false := by decide
theorem test_wf_timer_truck : (Instr.warning 1000 1).wf = false := by decide
theorem test_wf_timer_seat : (Instr.deadline 1 3).wf = false := by decide
theorem test_wf_timer_order : (Instr.offerTimeout 0).wf = false := by decide
theorem test_wf_timer_site : (Instr.beaconTimeout 8).wf = false := by decide
theorem test_wf_accepts : (Instr.reply header0 [1] [.stepAsk 81 step1 5 0]).wf = true := by decide

/-! ## Facts and worked examples of the spec -/

/-- The CRC of the nine characters 123456789 (spec/11 section 11.5). -/
theorem test_crc : crc [0x31, 0x32, 0x33, 0x34, 0x35, 0x36, 0x37, 0x38, 0x39] = 0x29B1 := by decide +kernel

/-- The frame lengths and airtimes of the tables of spec/07 section 7.9 and spec/09 section 9.7. -/
theorem test_airtimes :
    airtime 9 9600 = 33 ∧ airtime 22 9600 = 44 ∧ airtime 24 9600 = 45 ∧ airtime 113 9600 = 120 ∧ airtime 8 9600 = 32 ∧
    airtime 40 9600 = 59 ∧ airtime 30 9600 = 50 ∧ airtime 18 9600 = 40 := by decide

/-- The POLLs of that cycle: no record; a PROMPT over one site; a GRANT with one uplink number; an ORDER of 24 and 66
characters (spec/07 section 7.9). -/
theorem test_poll_lengths :
    pollOctets [] [] [] = 9 ∧
    pollOctets [3] [] [(0, .prompt { seat := 1, kind := .due, deadline := none, cause := none })] = 22 ∧
    pollOctets [] [17] [(0, .answer { permit := 81, step := step1, kind := .grant, reason := none, point := none
                                      action := none, required := none })] = 24 ∧
    pollOctets [] [] [(0, .order { num := 640, disp := .offer, state := some .offered, prio := 2
                                   loc := List.replicate 24 65, desc := List.replicate 66 65, linked := none
                                   permitOpen := false })] = 113 := by decide

/-- The period of spec/09 section 9.7: 3704 ms busy, sample 370, figure 303, the band still CALM. -/
def period0 : Load :=
  { State.reset.load with periodStart := 20000000, busy := 1770 + 1200 + 120 + 64 + 450 + 100, level := 280, sent := [] }

theorem test_period :
    period0.periodBusy = 3704 ∧ period0.afterPeriod.sample = some 370 ∧ period0.afterPeriod.level = 303 ∧
    period0.afterPeriod.band = 0 := by decide +kernel

/-- The failed burst's carrier, clipped to the period (spec/09 section 9.7). -/
theorem test_carrier_clipped :
    ({ period0 with busy := 0, carrier := some 19999950 } : Load).carrierTime 20000100 = 100 := by decide +kernel

/-- A storm builds (spec/09 section 9.7): 280, 385 in BUSY, 514 in BUSY. -/
theorem test_storm :
    nextLevel 280 700 = 385 ∧ selectBand State.reset.load.thr 385 0 = 1 ∧ nextLevel 385 900 = 514 ∧
    selectBand State.reset.load.thr 514 1 = 1 := by decide

/-- The deadlines at the limits of the cap (spec/03 section 3.13). -/
theorem test_cap :
    (Watch.fresh.compute 90 20 40000).deadline = some 41010 ∧ (Watch.fresh.compute 90 20 40000).warnTime = some 40890 ∧
    (({ Watch.fresh with set := { Watch.fresh.set with interval := 120, lead := 30 } } : Watch).compute 90 30 0).deadline
      = some 180 ∧
    (({ Watch.fresh with set := { Watch.fresh.set with interval := 120, lead := 30 } } : Watch).compute 90 30 0).warnTime
      = some 150 := by decide

/-- In STILLNESS mode the warning leads by half the stillness limit at most (spec/03 section 3.13). -/
theorem test_still_lead : ({ Settings.fresh with timer := .stillness } : Settings).warnLead = 60 := by decide

/-- The text sizes of spec/06: 1 unit and one for each 40 characters begun; an ORDER of 66 characters takes 3. -/
theorem test_units :
    (Content.text (List.replicate 41 65)).units = 3 ∧ (Content.text (List.replicate 40 65)).units = 2 ∧
    (Content.order { num := 640, disp := .offer, state := some .offered, prio := 2, loc := [], linked := none
                     desc := List.replicate 66 65, permitOpen := false }).units = 3 := by decide

/-- A KEEPALIVE frame with tag 7 written out by the table of spec/11 section 11.5, behind an octet outside any frame. -/
def keepalive7 : List Octet := [0x55, 0xD1, 0x00, 0x02, 0x31, 0x07] ++ put16 (crc [0x00, 0x02, 0x31, 0x07]).toNat

/-- The state so many milliseconds later. -/
def later (s : State) (n : Nat) : State := { s with clock := { s.clock with ms := s.clock.ms + n } }

theorem test_frame_read :
    (crxOctets State.reset keepalive7).pending = [.keepalive 7] ∧
    (crxOctets State.reset keepalive7).port.rx = .hunting := by decide +kernel

/-- A wrong CRC fails the frame; so does a body of another length, and a length of 1 as it stands; a gap of more than 50 ms
fails it too, and its rest is discarded, one of 50 ms does not (R177). -/
theorem test_frame_failed :
    (crxOctets State.reset (keepalive7.take 7 ++ [0])).pending = [.failedFrame .crc] ∧
    (crxOctets State.reset ([0xD1, 0, 3, 0x31, 7, 0] ++ put16 (crc [0, 3, 0x31, 7, 0]).toNat)).pending =
      [.failedFrame .body] ∧
    (crxOctets State.reset [0xD1, 0, 1]).pending = [.failedFrame .length] ∧
    (let s := crxOctets (later (crxOctets State.reset (keepalive7.take 5)) 51) (keepalive7.drop 5)
     s.pending = [.octetGap] ∧ s.port.rx = .hunting) ∧
    (crxOctets (later (crxOctets State.reset (keepalive7.take 5)) 50) (keepalive7.drop 5)).pending = [.keepalive 7] := by
  decide +kernel

/-- A KEEPALIVE half received when the reply of a SET_LINK ends is cut, with LINK_FAULT, and its other half completes no
command; at the end of another reply it is received on (R183). -/
theorem test_frame_cut_by_rate_change :
    let link : Entry := { kind := 0x30, tag := 1, code := .ok, body := .link 57600 }
    let half (e : Entry) : State := crxOctets
      { State.reset with port := { State.reset.port with buffer := [e], ctx := some (.reply e), rateToCome := some 57600 } }
      (keepalive7.take 5)
    let rest (e : Entry) : Option (Nat × Bool × List Instr) :=
      match exec (.replySent false) (half e) with
      | .next t => some (t.port.rate, t.port.sticky.linkFault, (crxOctets t (keepalive7.drop 5)).pending)
      | _ => none
    rest link = some (57600, true, []) ∧
    rest { link with kind := 0x31, body := .none } = some (115200, false, [.keepalive 7]) := by
  decide +kernel

/-- A KEEPALIVE half received at the warm reset, and at the assertion of RESETN, is lost and sets no flag; a part held in
reset receives nothing (R184). -/
theorem test_frame_lost_at_reset :
    let half : State := crxOctets { State.reset with port := { State.reset.port with restart := .replied } }
      (keepalive7.take 5)
    let rest (c : Instr) : Option (Rx × Bool × List Instr) :=
      match exec c half with
      | .next t => some (t.port.rx, t.port.sticky.linkFault, (crxOctets t (keepalive7.drop 5)).pending)
      | _ => none
    half.port.rx = .within [0x00, 0x02, 0x31] 0 ∧
    rest .warmReset = some (.hunting, false, []) ∧ rest .resetLineAssertion = some (.hunting, false, []) ∧
    rest .coldReset = some (.hunting, false, []) ∧
    (crxOctets { State.reset with held := true } keepalive7).pending = [] := by decide +kernel

/-- The reply to that request: kind 0xB1, the tag, the result code OK. -/
theorem test_reply_written :
    putReply { kind := 0x31, tag := 7, code := .ok, body := .none } =
      [0xD1, 0x00, 0x03, 0xB1, 0x07, 0x00] ++ put16 (crc [0x00, 0x03, 0xB1, 0x07, 0x00]).toNat := by decide +kernel

/-- A BURST of truck 214 in zone 37 with a REGISTER item, direct and passed on by site 3 (spec/11 section 11.5); a route
octet that is neither 0x81 nor 0x82 makes a rejected frame. -/
theorem test_air_read :
    airCommand [0, 9, 0x04, 0, 214, 37, 5, 0x01, 0, 0xAA, 0xAA] =
      .burst { relay := [], truck := 214, zone := 37, uplink := 5 } .register ∧
    airCommand [0, 11, 0x81, 3, 0x04, 0, 214, 37, 5, 0x01, 0, 0xAA, 0xAA] =
      .burst { relay := [3], truck := 214, zone := 37, uplink := 5 } .register ∧
    airCommand [0, 11, 0x83, 3, 0x04, 0, 214, 37, 5, 0x01, 0, 0xAA, 0xAA] = .rejectedFrame := by decide +kernel

/-- Cold reset begins the first cycle (R134): starting it on cold-reset values with nothing on the air gives the air side
and the load meter of the reset state. -/
theorem test_first_cycle :
    let bare : State := { State.reset with
      air := { State.reset.air with phase := .gap, nextStart := 0, winSlots := 0, winEnd := 0, ttx := none }
      load := { State.reset.load with sent := [] } }
    startCycle true bare = State.reset := by decide +kernel

/-! ## Steps on small states -/

/-- The state a command leaves. -/
def after (c : Instr) (s : State) : State :=
  match exec c s with
  | .next t => t
  | _ => s

/-- A live part at mission second 1000 with an attended console and an idle GAP, nothing on the air. -/
def base : State :=
  { State.reset with
    clock := { sec := 1000, ms := 0, offset := 0 }
    sup := { State.reset.sup with console := .attended, lastValid := some 990, lapse := some 1020 }
    air := { State.reset.air with phase := .gap, startTime := 990000, nextStart := 1020000 }
    load := { State.reset.load with periodStart := 995000, sent := [] } }

/-- A REACHABLE truck of zone 10. -/
def tk (n : Nat) : Truck := { Truck.fresh n with reach := .reachable, zone := some 10, lastHeard := some 990 }

/-- A context in a state, in INTERVAL mode, last heard at 900. -/
def wt (st : WatchState) : Watch :=
  { Watch.fresh with state := st, lastContact := some 900, startTime := some 900, deadline := some 1800
                     warnTime := some 1680 }

def od (n : Nat) (st : OrderState) (asg : Option Nat) : Order :=
  { num := n, prio := 2, loc := [], desc := [], state := st, assigned := asg, cands := [], tried := [], profile := none
    linked := none, offerTime := none, offerExpiry := none }

def stp (point : Nat) (a : Action) (st : StepState) : StepRec :=
  { point := point, action := a, required := none, hold := false, confirm := false, state := st, result := none
    sent := false, reason := none }

def pm (n holder : Nat) (st : PermitState) (iso rest : List StepRec) : Permit :=
  { num := n, holder := holder, linked := none, state := st, causes := Causes.none, iso := iso, rest := rest
    issueTime := if st = .loaded then none else some 950 }

def pt (n : Nat) (x : Position) : Point := { num := n, position := x, holds := [], busy := none, refCount := 1 }

def rc (c : Content) (seq : Nat) (fly : Bool) : Rec :=
  { content := c, seq := seq, attempts := 0, inFlight := fly, entry := 980
    discard := if c.isGrant then some 1280 else none, origin := c.origin }

def grant (permit : Nat) : Content :=
  .answer { permit := permit, step := step1, kind := .grant, reason := none, point := some 1, action := some .open
            required := none }

/-- A queue of 12 records. -/
def fullQueue : List Rec :=
  ((List.range 11).map fun i => rc (.permit (permitContent (pm (i + 101) 1 .closed [] []))) i false) ++
    [rc (.text [65]) 11 false]

theorem base_ready : Ready base := ⟨rfl, rfl, rfl, by decide⟩
theorem base_live : Live base := ⟨rfl, rfl⟩

/-- One truck through a storm night (spec/01 section 1.6): the REGISTER burst, the third missed turn. -/
theorem test_storm_night :
    let s := after (.enrollTruck 0 214) base
    let t := after (.burst { relay := [], truck := 214, zone := 37, uplink := 0 } .register) s
    let u := missedTurn (missedTurn (missedTurn t 214) 214) 214
    ((truckOf s 214).map fun k => (k.reach, k.miss, k.zone, k.lastHeard)) = some (.absent, 0, none, none) ∧
    ((truckOf t 214).map fun k => (k.reach, k.miss, k.zone, k.lastHeard)) = some (.reachable, 0, some 37, some 1000) ∧
    ((truckOf u 214).map fun k => (k.reach, k.miss)) = some (.missed, 3) := by decide +kernel

/-- A still worker (spec/03 section 3.13): 50 s accumulated, then STILL at 1300 gives 1370 and 1310. -/
theorem test_still_worker :
    let w : Watch := { wt .watch with
      set := { Settings.fresh with timer := .stillness }, deadline := none, warnTime := none, stillAcc := 50 }
    let s : State := { base with clock := { sec := 1300, ms := 0, offset := 0 }, trucks := [{ tk 305 with w2 := w }] }
    ((watchOf (motionStill s 305 2) 305 2).map fun w => (w.stillSince, w.deadline, w.warnTime)) =
      some (some 1300, some 1370, some 1310) := by decide +kernel

/-- A repeat STILL moves the last contact alone, though the warning time has been reached; no start time is left in IDLE
(R49, R54). -/
theorem test_repeat_still_and_idle_start :
    let w : Watch := { wt .watch with set := { Settings.fresh with timer := .stillness }, stillSince := some 940, warnTime := some 1000 }
    let s : State := { base with trucks := [{ tk 305 with w2 := w }] }
    motionStill s 305 2 = { s with trucks := [{ tk 305 with w2 := { w with lastContact := some 1000 } }] } ∧
    ((watchOf (after (.stopWatch 1 305 2) s) 305 2).map fun w => (w.state, w.startTime)) = some (.idle, none) := by
  decide +kernel

/-- A refused request is answered with its code alone and changes nothing (R179): NOT_FOUND. -/
theorem test_refused : (after (.removeTruck 9 5) base).port.buffer =
    [{ kind := 0x02, tag := 9, code := .notFound, body := .none }] := by decide +kernel

/-- CLAMPED carries the number used (R2). -/
theorem test_clamped : (after (.enrollTruck 9 0) base).port.buffer =
    [{ kind := 0x01, tag := 9, code := .clamped, body := .truckNumber 1 }] := by decide +kernel

/-! ## A state for the hypotheses of every statement -/

/-! ### Stepping and reset -/

theorem witness_StepRunsFrontCommand :
    ({ base with pending := [.keepalive 1, .restart 2] } : State).pending = .keepalive 1 :: [.restart 2] := rfl

theorem reset_tables : TablesInv State.reset :=
  have e : State.reset.trucks = [] := rfl
  ⟨.nil, .nil, .nil, .nil, by simp [e], by decide, by decide, by decide, by decide, by decide, by decide, by decide⟩

/-- Held; no timer reached with ms 998 and 999 and at the last second; a timer reached; tables in order. -/
theorem witness_IdleStepTicksOrTakesDueTimer :
    ({ base with held := true } : State).pending = [] ∧ ({ base with held := true } : State).held = true ∧
    (∀ k : Nat × Nat, k ∈ [(1000, 998), (1000, 999), (4294967293, 999), (4294967294, 999)] →
      let s : State := { State.reset with
        clock := { sec := k.1, ms := k.2, offset := 0 }, sup := { State.reset.sup with lapse := none }
        air := { State.reset.air with phase := .gap, nextStart := 9999999999999 }
        load := { State.reset.load with periodStart := 9999999999999 } }
      s.pending = [] ∧ s.held = false ∧ dueEvents s = []) ∧
    dueEvents { base with sup := { base.sup with lapse := some 1000 } } = [.lapse] ∧ TablesInv State.reset ∧
    dueEvents { base with port := { base.port with rx := .within [] (base.nowMs - 50) } } = [] ∧
    dueEvents { base with port := { base.port with rx := .within [] (base.nowMs - 51) } } = [.octetGap] := by
  exact ⟨rfl, rfl, by decide +kernel, by decide +kernel, reset_tables, by decide +kernel, by decide +kernel⟩

/-- Sites 1 and 7; a command other than the two reset commands on a held part. -/
theorem witness_ColdResetValues :
    (siteOf State.reset 1).isSome = true ∧ (siteOf State.reset 7).isSome = true ∧
    ({ base with held := true } : State).held = true ∧ (Instr.warmReset ≠ .coldReset ∧ Instr.warmReset ≠ .resetLineAssertion) := by
  decide +kernel

theorem witness_WarmResetKeepsConfiguration :
    Live { base with port := { base.port with restart := .replied } } ∧ Live base ∧ base.port.restart ≠ .replied :=
  ⟨⟨rfl, rfl⟩, base_live, by decide⟩

/-! ### The console link -/

theorem witness_AcceptedFrameArmsWindow :
    kindTag (.keepalive 1) = some (0x31, 1) ∧ base.held = false ∧
    (∀ tag mode window, Instr.keepalive 1 ≠ .setSupervision tag mode window) ∧ (∀ tag, Instr.keepalive 1 ≠ .resume tag) ∧
    Ready base ∧ (1 = 1 ∨ 1 = 2) ∧ (2 = 1 ∨ 2 = 2) :=
  ⟨rfl, rfl, fun _ _ _ => nofun, fun _ => nofun, base_ready, by decide, by decide⟩

/-- A request buffered, and so many as make the buffer full. -/
def entry0 : Entry := { kind := 0x31, tag := 1, code := .ok, body := .none }

/-- Served with an OK and with a refusal; after RESTART; with four requests buffered. -/
theorem witness_ServedRequestGetsOneReply :
    kindTag (.removeTruck 1 5) = some (0x02, 1) ∧ Ready base ∧
    Ready { base with port := { base.port with buffer := List.replicate 3 entry0 } } ∧
    ({ base with port := { base.port with restart := .served } } : State).port.restart ≠ .running ∧
    ({ base with port := { base.port with buffer := List.replicate 4 entry0 } } : State).port.restart = .running ∧
    4 ≤ ({ base with port := { base.port with buffer := List.replicate 4 entry0 } } : State).port.buffer.length :=
  ⟨rfl, base_ready, ⟨rfl, rfl, rfl, by decide⟩, by decide, rfl, by decide⟩

def notice0 : Notice := { stamp := 1, body := .noTaker 1 2 }
def alarm0 : Notice := { stamp := 1, body := .contact 1 1 .checkIn none }

/-- 63 notices; 64 of the ALARM class; 64 with the ROUTINE one last and first; the resets. -/
theorem witness_NoticeOverflowByClass :
    (List.replicate 63 notice0).length < 64 ∧
    (64 ≤ (List.replicate 64 alarm0).length ∧ ∀ m ∈ List.replicate 64 alarm0, m.body.isAlarmClass = true) ∧
    (64 ≤ (List.replicate 63 alarm0 ++ [notice0]).length ∧ List.replicate 63 alarm0 ++ [notice0] =
      List.replicate 63 alarm0 ++ notice0 :: [] ∧ (∀ m ∈ List.replicate 63 alarm0, m.body.isAlarmClass = true) ∧
      notice0.body.isAlarmClass = false) ∧
    (64 ≤ (notice0 :: List.replicate 63 notice0).length ∧ notice0 :: List.replicate 63 notice0 =
      [] ++ notice0 :: List.replicate 63 notice0) ∧
    (∃ t, exec .coldReset base = .next t) ∧
    (Live { base with port := { base.port with restart := .replied } } ∧
      ∃ t, exec .warmReset { base with port := { base.port with restart := .replied } } = .next t) := by
  refine ⟨by decide, ?_, ?_, ?_, ⟨_, rfl⟩, ⟨rfl, rfl⟩, ⟨_, rfl⟩⟩ <;> decide +kernel

/-- Choosing a frame: CTX busy; RESTART replied; a request; a notice with the flow open and, at its last moment, closed; no
valid frame yet; nothing to send. Ends of frames: the reply of the head, of SET_LINK and of RESTART; a notice; neither. -/
theorem witness_FramesLeaveCtxInOrder :
    let p := base.port
    let link : Entry := { kind := 0x30, tag := 1, code := .ok, body := .link 57600 }
    let restart : Entry := { kind := 0x32, tag := 1, code := .ok, body := .none }
    (p.ctx = none ∧ p.restart ≠ .replied ∧ p.buffer = [] ∧ p.notices = []) ∧
    ({ p with ctx := some (.reply entry0) } : Port).ctx.isSome = true ∧
    ({ p with restart := .replied } : Port).restart = .replied ∧
    ({ p with buffer := [entry0] } : Port).buffer = entry0 :: [] ∧
    (({ p with notices := [notice0] } : Port).notices = notice0 :: [] ∧ base.sup.lastValid = some 990 ∧
      base.now < 990 + base.sup.window ∧ 970 + base.sup.window ≤ base.now ∧ base.now < 971 + base.sup.window) ∧
    ({ base.sup with lastValid := none } : Sup).lastValid = none ∧
    Live { base with port := { p with ctx := some (.reply entry0), buffer := [entry0, link] } } ∧
    Live { base with port := { p with ctx := some (.reply link), buffer := [link, entry0], rateToCome := some 57600 } } ∧
    Live { base with port := { p with ctx := some (.reply restart), buffer := [restart], restart := .served } } ∧
    Live { base with port := { p with ctx := some (.notice notice0) } } ∧
    (Live base ∧ (∀ e, p.ctx ≠ some (.reply e)) ∧ ∀ n, p.ctx ≠ some (.notice n)) := by
  refine ⟨by decide, rfl, rfl, rfl, by decide, rfl, ⟨rfl, rfl⟩, ⟨rfl, rfl⟩, ⟨rfl, rfl⟩, ⟨rfl, rfl⟩, base_live, ?_, ?_⟩ <;>
    intro <;> nofun

/-- Octets on CRX: a held part; between frames; within a frame 50 and 51 ms after its last octet, with one octet of its
length, with a length of 1, 2, 402 and 403, and with its last octet; bodies of 0 and 400 octets. -/
theorem witness_FramesLeaveCtxInOrder_crx :
    let rx (got : List Octet) (ago : Nat) : State :=
      { base with port := { base.port with rx := .within got (base.nowMs - ago) } }
    ({ base with held := true } : State).held = true ∧ (base.held = false ∧ base.port.rx = .hunting) ∧
    (∀ got ago, (rx got ago).held = false ∧ (rx got ago).port.rx = .within got (base.nowMs - ago)) ∧
    (¬base.nowMs - 50 + 50 < base.nowMs ∧ base.nowMs - 51 + 50 < base.nowMs) ∧
    ((crxOctet (rx [] 0) 0).pending = [] ∧ (crxOctet (rx [0] 0) 1).pending = [.failedFrame .length] ∧
      (crxOctet (rx [0] 0) 2).pending = [] ∧ (crxOctet (rx [1] 0) 146).pending = [] ∧
      (crxOctet (rx [1] 0) 147).pending = [.failedFrame .length] ∧
      (crxOctet (rx [0, 2, 0x31, 7, 0] 0) 0).pending = [.failedFrame .crc]) ∧
    ([] : List Octet).length ≤ 400 ∧ (List.replicate 400 (0 : Octet)).length ≤ 400 := by
  refine ⟨rfl, ⟨rfl, rfl⟩, fun _ _ => ⟨rfl, rfl⟩, ?_, ?_, ?_, ?_⟩ <;> decide +kernel

theorem witness_HousekeepingRequests :
    Ready base ∧ (0 ≤ 4294967295 ∧ 4294967295 ≤ 4294967295) ∧
    [57600, 115200, 230400, 460800][0]? = some 57600 ∧ [57600, 115200, 230400, 460800][3]? = some 460800 ∧ 4 ≤ 4 :=
  ⟨base_ready, by decide, rfl, rfl, by decide⟩

/-! ### The crew -/

def crew (l : List Truck) : State := { base with trucks := l }

theorem crew_ready (l : List Truck) : Ready (crew l) := ⟨rfl, rfl, rfl, (by decide : 0 < 4)⟩
theorem crew_live (l : List Truck) : Live (crew l) := ⟨rfl, rfl⟩

/-- Numbers brought to 1 and 999; a duplicate; 64 trucks; room for one more. -/
theorem witness_EnrollTruckCreatesFreshRecord :
    Ready (crew [tk 1]) ∧ clamp 1 999 0 = 1 ∧ clamp 1 999 1000 = 999 ∧ (truckOf (crew [tk 1]) 1).isSome = true ∧
    Ready (crew ((List.range 64).map fun i => tk (i + 1))) ∧
    (truckOf (crew ((List.range 64).map fun i => tk (i + 1))) 999).isSome = false ∧
    64 ≤ (crew ((List.range 64).map fun i => tk (i + 1))).trucks.length ∧
    (truckOf (crew ((List.range 63).map fun i => tk (i + 1))) 999).isSome = false ∧
    ¬64 ≤ (crew ((List.range 63).map fun i => tk (i + 1))).trucks.length := by
  refine ⟨crew_ready _, ?_, ?_, ?_, crew_ready _, ?_, ?_, ?_, ?_⟩ <;> decide +kernel

/-- No such truck; a permit slot held; an alarm on either seat; a truck whose slots name an order OFFERED to it, one ON_SITE
with it and one it has not, with a turn in flight for it and an entry of the cycle list. -/
theorem witness_RemoveTruckFreesRecord :
    let t : Truck := { tk 1 with orderSlots := [2, 3, 4] }
    let s : State := { crew [t, tk 2] with
      orders := [od 2 .offered (some 1), od 3 .onSite (some 1), od 4 .queued none, od 5 .accepted (some 2)]
      air := { base.air with
        list := [{ truck := 1, live := true }]
        turn := some { truck := 1, kind := .urgent, route := [], pollEnd := 0, winOpen := 0, winClose := 9, abandoned := false } } }
    Ready s ∧ truckOf s 9 = none ∧ truckOf s 1 = some t ∧ t.permitSlots = [] ∧ ¬(t.w1.state = .alarm ∨ t.w2.state = .alarm) ∧
    ({ t with permitSlots := [1] } : Truck).permitSlots ≠ [] ∧
    ({ t with w2 := wt .alarm } : Truck).w2.state = .alarm ∧
    ((∀ m ∈ t.orderSlots, (orderOf s m).isSome = true) ∧ orderOf s 9 = none) ∧ (orderOf s 5).isSome = true ∧ (s.air.turn.isSome = true) ∧
    base.air.turn = none := by
  refine ⟨⟨rfl, rfl, rfl, by decide⟩, ?_, ?_, ?_, ?_, ?_, ?_, ?_, ?_, ?_, ?_⟩ <;> decide +kernel

/-- Each table with the number asked for and without it. -/
theorem witness_TableQueriesReportRecord :
    let s : State := { crew [tk 1] with
      orders := [od 1 .queued none], permits := [pm 1 1 .loaded [stp 1 .open .pending] []], points := [pt 1 .closed] }
    Ready s ∧ (truckOf s 1).isSome = true ∧ (orderOf s 1).isSome = true ∧ (permitOf s 1).isSome = true ∧
    (pointOf s 1).isSome = true ∧ truckOf s 2 = none ∧ orderOf s 2 = none ∧ permitOf s 2 = none ∧ pointOf s 2 = none := by
  refine ⟨⟨rfl, rfl, rfl, by decide⟩, ?_⟩
  decide +kernel

/-- A pending entry, a turn in flight, the open window, every site, zones 1, 250, 0 and 251, no carrier. -/
theorem witness_StateQueriesChangeNothing :
    let a : Ask := { permit := 1, step := step1, holder := 1, askTime := 990, expiry := 1110 }
    let s : State := { crew [tk 1] with
      permits := [pm 1 1 .isolating [stp 1 .open .asked] []], asks := [a]
      air := { base.air with
        phase := .window, winEnd := 1001000
        turn := some { truck := 1, kind := .urgent, route := [], pollEnd := 0, winOpen := 0, winClose := 9, abandoned := false } } }
    Ready s ∧ s.asks[0]? = some a ∧ (stepIn s a.permit a.step).isSome = true ∧ s.air.turn.isSome = true ∧
    s.air.phase = .window ∧ s.sites[0]?.isSome = true ∧ s.sites[6]?.isSome = true ∧ (1 ≤ 1 ∧ 250 ≤ 250) ∧ 250 < 251 ∧
    s.load.carrier = none ∧ s.load.sent = [] := by
  refine ⟨⟨rfl, rfl, rfl, by decide⟩, ?_⟩
  decide +kernel

/-- A carrier open for 1 s, with no frame and with one frame of 200 ms inside it, one more on the air; no open window. -/
theorem witness_StateQueriesChangeNothing_carrier :
    let x : Span := { lo := 999300, hi := 999500 }
    let s : State := { base with load := { base.load with
      carrier := some 999000, covers := [x], sent := [{ lo := 999900, hi := 1000001 }] } }
    Ready s ∧ s.air.phase ≠ .window ∧ (∀ y ∈ s.load.sent, s.nowMs < y.hi) ∧ s.load.carrier = some 999000 ∧
    s.load.covers = [x] ∧ (max 999000 s.load.periodStart ≤ x.lo ∧ x.lo ≤ x.hi ∧ x.hi ≤ s.nowMs) ∧
    ({ s.load with covers := [] } : Load).covers = [] := by
  refine ⟨⟨rfl, rfl, rfl, by decide⟩, ?_⟩
  decide +kernel

/-! ### Orders -/

def profile0 : ProfileIn := { seat := 1, set := settings0 }

/-- A profile with a bad mode; a duplicate; 128 orders; room for one; a profile whose lead falls below the interval and one
whose lead does not. -/
theorem witness_PostOrderCreatesQueuedOrder :
    ((some { profile0 with set := { settings0 with timer := 3 } }).any
      fun p => decide (3 ≤ p.set.timer ∨ 3 ≤ p.set.alarm)) = true ∧
    ((some profile0).any fun p => decide (3 ≤ p.set.timer ∨ 3 ≤ p.set.alarm)) = false ∧
    Ready { base with orders := (List.range 128).map fun i => od (i + 1) .queued none } ∧
    128 ≤ ((List.range 128).map fun i => od (i + 1) .queued none).length ∧
    ¬128 ≤ ((List.range 127).map fun i => od (i + 1) .queued none).length ∧
    (orderOf { base with orders := [od 1 .queued none] } (max 0 1)).isSome = true ∧
    (orderOf { base with orders := [od 1 .queued none] } 65535).isSome = false ∧
    (clamp 60 3600 0 ≤ clamp 10 600 600 ∧ ¬clamp 60 3600 601 ≤ clamp 10 600 600) := by
  refine ⟨?_, ?_, ⟨rfl, rfl, rfl, by decide⟩, ?_, ?_, ?_, ?_, ?_⟩ <;> decide +kernel

/-- An offer that can be placed; no candidates; none eligible; the second candidate the first eligible. -/
theorem witness_RolloverOffersFirstEligible :
    let s : State := { crew [tk 1, { tk 2 with reach := .missed, miss := 3 }, { tk 3 with orderSlots := [7, 8, 9] }] with
      orders := [od 1 .queued none, { od 2 .queued none with cands := [2] }, { od 3 .queued none with cands := [2, 3, 1] }] }
    orderOf s 1 = some (od 1 .queued none) ∧ truckOf s 1 = some (tk 1) ∧ (tk 1).orderSlots.length < 4 ∧
    (tk 1).queue.length < 12 ∧ (od 1 .queued none).cands = [] ∧
    (([2] : List Nat) ≠ [] ∧ ∀ t ∈ ([2] : List Nat), eligible s 2 t = false) ∧
    (([2, 3, 1] : List Nat) = [2] ++ 3 :: [1] ∧ (∀ k ∈ ([2] : List Nat), eligible s 3 k = false) ∧ eligible s 3 3 = true ∧
      canGive s 3 (.order 3) = true) := by decide +kernel

/-- An eligible candidate whose queue is full, so that its offer fails. -/
theorem witness_RolloverOffersFirstEligible_failing :
    let o := { od 1 .queued none with cands := [1, 2] }
    let s : State := { crew [{ tk 1 with queue := fullQueue }, tk 2] with orders := [o] }
    orderOf s 1 = some o ∧ truckOf s 1 = some { tk 1 with queue := fullQueue } ∧ eligible s 1 1 = true ∧
    recFor fullQueue (.order 1) = none ∧ 12 ≤ fullQueue.length ∧ canGive s 1 (.order 1) = false ∧
    (orderOf (rollover s 1) 1).map (fun o => (o.assigned, o.tried)) = some (some 2, [1, 2]) := by decide +kernel

/-- ASSIGN_ORDER: no order; not QUEUED; no truck; four slots taken; a blocking alarm; a full queue; an offer to an ABSENT
truck with three slots taken. RETIRE_ORDER: none; open; COMPLETE with a linked permit and a record standing. -/
theorem witness_AssignAndRetireOrder :
    let cmplt := { od 3 .complete (some 1) with linked := some 8 }
    let s : State := { crew [{ tk 1 with orderSlots := [5, 6, 7, 9] }, { tk 2 with w1 := wt .alarm },
          { tk 3 with queue := fullQueue },
          { Truck.fresh 4 with orderSlots := [3, 6, 7], queue := [rc (.order (orderContent cmplt .held false)) 0 false] }] with
      orders := [od 1 .queued none, od 2 .offered (some 1), cmplt], permits := [{ pm 8 1 .closed [] [] with linked := some 3 }] }
    Ready s ∧ orderOf s 9 = none ∧ orderOf s 2 = some (od 2 .offered (some 1)) ∧ orderOf s 1 = some (od 1 .queued none) ∧
    truckOf s 9 = none ∧ (truckOf s 1).map (fun k => (k.orderSlots.contains 1, k.orderSlots.length)) = some (false, 4) ∧
    (truckOf s 2).map Truck.blocked = some true ∧
    (truckOf s 3).map (fun k => ((recFor k.queue (.order 1)).isNone, k.queue.length)) = some (true, 12) ∧
    (truckOf s 4).map (fun k => (k.orderSlots.length, k.queue.length, k.blocked)) = some (3, 1, false) ∧
    orderOf s 3 = some cmplt ∧ (recOf s 4 (.order 3)).isSome = true ∧ (permitOf s 8).isSome = true := by
  refine ⟨⟨rfl, rfl, rfl, by decide⟩, ?_⟩
  decide +kernel

/-- CHANGE_ORDER: both of the last two fields; no order; an ended order; a QUEUED one with a new candidate list; one with
a truck whose queue holds its record; one whose truck has a full queue. -/
theorem witness_ChangeOrderUpdatesOrderAndRecord :
    let held := od 3 .accepted (some 1)
    let s : State := { crew [{ tk 1 with queue := [rc (.order (orderContent held .held true)) 0 false] },
          { tk 2 with queue := fullQueue }] with
      orders := [od 1 .queued none, od 2 .cancelled none, held, od 4 .onSite (some 2)] }
    Ready s ∧ ((some profile0).any fun p => decide (true = true ∨ 3 ≤ p.set.timer ∨ 3 ≤ p.set.alarm)) = true ∧
    orderOf s 9 = none ∧ orderOf s 2 = some (od 2 .cancelled none) ∧ orderOf s 1 = some (od 1 .queued none) ∧
    orderOf s 3 = some held ∧ (recOf s 1 (.order 3)).isSome = true ∧ orderOf s 4 = some (od 4 .onSite (some 2)) ∧
    (truckOf s 2).map (fun k => ((recFor k.queue (.order 4)).isNone, k.queue.length)) = some (true, 12) := by
  refine ⟨⟨rfl, rfl, rfl, by decide⟩, ?_⟩
  decide +kernel

/-- CANCEL_ORDER: none; ended; an open permit; no truck; an undelivered offer; a delivered one with room, and without. -/
theorem witness_CancelOrderTellsAssignedTruck :
    let off := od 5 .offered (some 1)
    let s : State := { crew [{ tk 1 with queue := [rc (.order (orderContent off .offer false)) 0 false] },
          { tk 2 with queue := fullQueue }] with
      orders := [od 1 .queued none, od 2 .complete none, { od 3 .accepted (some 1) with linked := some 8 },
        od 4 .onSite (some 2), off, od 6 .enRoute (some 1)]
      permits := [pm 8 1 .issued [] []] }
    Ready s ∧ orderOf s 9 = none ∧ orderOf s 2 = some (od 2 .complete none) ∧
    (orderOf s 3).map (fun o => (o.linked.bind (permitOf s)).any fun p => p.state.isOpen) = some true ∧
    orderOf s 1 = some (od 1 .queued none) ∧ orderOf s 5 = some off ∧ (recOf s 1 (.order 5)).isSome = true ∧
    orderOf s 6 = some (od 6 .enRoute (some 1)) ∧ (truckOf s 1).map (fun k => k.queue.length) = some 1 ∧
    orderOf s 4 = some (od 4 .onSite (some 2)) ∧ (truckOf s 2).map (fun k => k.queue.length) = some 12 := by
  refine ⟨⟨rfl, rfl, rfl, by decide⟩, ?_⟩
  decide +kernel

/-- The replies: no order; a standing offer; a repeat; a late accept that can be told and one that cannot; a decline; the
progress with and without a profile, a repeat, one backward; a completion with the permit open, and without, a repeat. -/
theorem witness_OrderRepliesMoveOrder :
    let s : State := { crew [tk 1, { tk 2 with queue := fullQueue }] with
      orders := [od 1 .offered (some 1), od 2 .accepted (some 1), od 3 .cancelled (some 2),
        { od 4 .enRoute (some 1) with profile := some { seat := 1, set := Settings.fresh } }, od 5 .onSite (some 1),
        { od 6 .onSite (some 1) with linked := some 8 }, od 7 .complete (some 1)]
      permits := [pm 8 1 .issued [] []] }
    orderOf s 9 = none ∧ truckOf s 1 = some (tk 1) ∧ (truckOf s 2).map (fun k => k.queue.length) = some 12 ∧
    (orderOf s 1).map (fun o => (o.assigned, o.state)) = some (some 1, .offered) ∧
    (orderOf s 2).map (fun o => (o.assigned, o.state)) = some (some 1, .accepted) ∧
    (orderOf s 3).map (fun o => (o.assigned, o.state)) = some (some 2, .cancelled) ∧
    (orderOf s 4).map (fun o => (o.assigned, o.state, o.profile.isSome)) = some (some 1, .enRoute, true) ∧
    (orderOf s 5).map (fun o => (o.assigned, o.state)) = some (some 1, .onSite) ∧
    (orderOf s 6).map (fun o => (o.linked.bind (permitOf s)).any fun p => p.state.isOpen) = some true ∧
    (orderOf s 7).map (fun o => (o.assigned, o.state)) = some (some 1, .complete) := by decide +kernel

/-- COMPLETE with the permit open: a full queue without a record for the order, and with one. -/
theorem witness_OrderRepliesMoveOrder_blocked :
    let o (n : Nat) : Order := { od n .onSite (some 2) with linked := some 8 }
    let s : State := { crew [{ tk 2 with queue := rc (.order (orderContent (o 2) .held false)) 12 false :: fullQueue.drop 1 }] with
      orders := [o 1, o 2], permits := [pm 8 1 .issued [] []] }
    orderOf s 1 = some (o 1) ∧ orderOf s 2 = some (o 2) ∧ (o 1).state.isTaken = true ∧
    (((o 1).linked.bind (permitOf s)).any fun p => p.state.isOpen) = true ∧
    (truckOf s 2).map (fun k => ((recFor k.queue (.order 1)).isSome, (recFor k.queue (.order 2)).isSome, k.queue.length)) =
      some (false, true, 12) := by decide +kernel

theorem witness_SetOfferTimeoutAppliesToLaterOffers :
    Ready base ∧
    (orderOf { crew [tk 1] with orders := [od 1 .queued none] } 1 = some (od 1 .queued none) ∧
      canGive { crew [tk 1] with orders := [od 1 .queued none] } 1 (.order 1) = true) ∧
    ∃ t, exec .warmReset { base with port := { base.port with restart := .replied } } = .next t := by
  refine ⟨base_ready, ?_, ⟨_, rfl⟩⟩
  decide +kernel

/-- Limits on both sides for each request; a rate that names one and one that does not; a range turned about; thresholds
that fit exactly and that do not; bands 3 and 4. -/
theorem witness_SettingsRequestsSetOneSetting :
    Ready base ∧ [4800, 9600, 19200][2]? = some 19200 ∧ [4800, 9600, 19200][3]? = none ∧
    clamp 1 250 5 < clamp 1 250 6 ∧ ¬clamp 1 250 251 < clamp 1 250 250 ∧
    (300 + 40 ≤ 340 ∧ 340 + 40 ≤ 380 ∧ 960 + 40 ≤ 1000) ∧ ¬300 + 40 ≤ 339 ∧ ¬3 < 3 ∧ 3 < 4 :=
  ⟨base_ready, rfl, rfl, by decide, by decide, by decide, by decide, by decide, by decide⟩

/-! ### Watches -/

/-- No truck; IDLE and not; a bad mode; a seat brought to 2; a running STILLNESS time. -/
theorem witness_SetAndQueryWatch :
    let s := crew [{ tk 1 with w2 := { wt .watch with
      set := { Settings.fresh with timer := .stillness }, stillSince := some 980 } }]
    Ready s ∧ truckOf s 9 = none ∧ (truckOf s 1).map (fun t => ((t.watch 1).state, (t.watch (clamp 1 2 3)).state)) =
      some (.idle, .watch) ∧ (3 ≤ 3 ∧ ¬(3 ≤ settings0.timer ∨ 3 ≤ settings0.alarm)) ∧
    (truckOf s 1).map (fun t => (t.watch 2).stillSince) = some (some 980) := by
  refine ⟨crew_ready _, ?_⟩
  decide +kernel

/-- No truck; not IDLE; IDLE in each timer mode, with and without a zone; a warning time not later than now. -/
theorem witness_StartWatchComputesDeadline :
    let s := crew [{ tk 1 with w2 := wt .warn },
      { tk 2 with zone := none, w1 := { Watch.fresh with set := { Settings.fresh with timer := .task } }
                  w2 := { Watch.fresh with set := { Settings.fresh with timer := .stillness } } },
      { tk 3 with w1 := { Watch.fresh with set := { Settings.fresh with timer := .task, task := 300, lead := 600 } } }]
    Ready s ∧ truckOf s 9 = none ∧ (truckOf s 1).map (fun t => ((t.watch 1).state, (t.watch 2).state)) = some (.idle, .warn) ∧
    (truckOf s 2).map (fun t => (t.zone, (t.watch 1).set.timer, (t.watch 2).set.timer)) = some (none, .task, .stillness) ∧
    ((1000 + 300 : Nat) : Int) - (600 : Nat) ≤ ((1000 : Nat) : Int) := by
  refine ⟨crew_ready _, ?_⟩
  decide +kernel

/-- The band in force has its entry; a truck with a zone and one without. -/
theorem witness_StartWatchComputesDeadline_additions :
    base.load.table[base.load.band]? = some ⟨30, 0⟩ ∧ (tk 1).zone = some 10 ∧ ({ tk 2 with zone := none } : Truck).zone = none := by
  decide +kernel

/-- A profile for a seat in IDLE and for one that is not; contexts that an order started, in WATCH, WARN and ALARM, one that
it did not start, and one in IDLE. -/
theorem witness_StartAndStopForOrder :
    let by7 (st : WatchState) : Watch := { wt st with startedBy := some 7 }
    let s := crew [{ tk 1 with w1 := by7 .watch, w2 := by7 .warn }, { tk 2 with w1 := by7 .alarm, w2 := wt .watch }, tk 3]
    ((1 = 1 ∨ 1 = 2) ∧ (2 = 1 ∨ 2 = 2)) ∧
    (truckOf s 1).map (fun t => ((t.watch 1).startedBy, (t.watch 1).state, (t.watch 2).state)) = some (some 7, .watch, .warn) ∧
    (truckOf s 2).map (fun t => ((t.watch 1).startedBy, (t.watch 1).state, (t.watch 2).startedBy)) =
      some (some 7, .alarm, none) ∧
    (truckOf s 3).map (fun t => (t.watch 1).state) = some .idle := by decide +kernel

/-- No truck; WATCH with staged settings, WARN with a PROMPT DUE standing, ALARM with a PROMPT ALARMED, IDLE. -/
theorem witness_StopAndCloseReturnToIdle :
    let prompt (k : PromptKind) : Content := .prompt { seat := 1, kind := k, deadline := none, cause := none }
    let s := crew [{ tk 1 with w1 := { wt .watch with staged := some Settings.fresh } },
      { tk 2 with w1 := wt .warn, queue := [rc (prompt .due) 0 false] },
      { tk 3 with w1 := wt .alarm, queue := [rc (prompt .alarmed) 0 false] }]
    Ready s ∧ truckOf s 9 = none ∧ (truckOf s 1).map (fun t => (t.w1.state, t.w1.staged.isSome)) = some (.watch, true) ∧
    (truckOf s 2).map (fun t => (t.w1.state, (recFor t.queue (.prompt 1)).isSome)) = some (.warn, true) ∧
    (truckOf s 3).map (fun t => (t.w1.state, (recFor t.queue (.prompt 1)).isSome)) = some (.alarm, true) ∧
    (truckOf s 1).map (fun t => (t.watch 2).state) = some .idle := by
  refine ⟨crew_ready _, ?_⟩
  decide +kernel

/-- IDLE; a LATCHED alarm; WATCH and WARN in INTERVAL mode with and without staged settings; STILLNESS with no running
time, and with one before its deadline; TASK; seats 1, 2 and any other. -/
theorem witness_SeatItemsActOnContext :
    let still : Settings := { Settings.fresh with timer := .stillness }
    let s := crew [{ tk 1 with w1 := wt .alarm }, { tk 2 with w1 := wt .watch, w2 := { wt .warn with staged := some Settings.fresh } },
      { tk 3 with w1 := { wt .watch with set := still }, w2 := { wt .warn with set := still, stillSince := some 990 } },
      { tk 4 with w2 := { wt .warn with set := { Settings.fresh with timer := .task } } }]
    (truckOf s 1).map (fun t => ((t.watch 2).state, (t.watch 1).state, (t.watch 1).set.alarm)) =
      some (.idle, .alarm, .latched) ∧
    (truckOf s 2).map (fun t => ((t.watch 1).state, (t.watch 1).set.timer, (t.watch 2).state, (t.watch 2).staged.map Settings.timer)) =
      some (.watch, .interval, .warn, some .interval) ∧
    (truckOf s 3).map (fun t => ((t.watch 1).set.timer, (t.watch 1).stillSince)) = some (.stillness, none) ∧
    (truckOf s 3).map (fun t => ((t.watch 2).state, (t.watch 2).stillSince, (t.watch 2).deadline)) =
      some (.warn, some 990, some 1800) ∧ s.now < 1800 ∧
    (truckOf s 4).map (fun t => ((t.watch 2).state, (t.watch 2).set.timer)) = some (.warn, .task) ∧
    ((if 2 = 2 then 2 else 1) = 2 ∧ (if 3 = 2 then 2 else 1) = 1) := by decide +kernel

/-- STILLNESS running since 950, with its deadline to come and at this moment, and with no running time; a staged change of
timer mode from WARN and from WATCH; an alarm in SELF_CLEAR and in REPORT_ONLY; no seat 0 or 3. -/
theorem witness_SeatItemsActOnContext_other :
    let still : Settings := { Settings.fresh with timer := .stillness }
    let alarm (m : AlarmMode) : Watch := { wt .alarm with
      set := { Settings.fresh with alarm := m }, alarm := some { cause := .deadline, raised := 950 } }
    let s := crew [
      { tk 1 with w1 := { wt .watch with set := still, stillSince := some 950 }
                  w2 := { wt .warn with set := still, stillSince := some 950, deadline := some 1000 } },
      { tk 2 with w1 := { wt .warn with staged := some still }
                  w2 := { wt .watch with set := still, staged := some Settings.fresh, deadline := none } },
      { tk 3 with w1 := alarm .selfClear, w2 := alarm .reportOnly }]
    (truckOf s 1).map (fun t => ((t.watch 1).staged, (t.watch 1).stillSince, (t.watch 2).deadline)) =
      some (none, some 950, some 1000) ∧ (1000 ≤ s.now ∧ s.now < 1800) ∧ 0 < still.still ∧
    (truckOf s 2).map (fun t => ((t.watch 1).state, (t.watch 1).set.timer, (t.watch 1).staged.map Settings.timer)) =
      some (.warn, .interval, some .stillness) ∧
    (truckOf s 2).map (fun t => ((t.watch 2).state, (t.watch 2).set.timer, (t.watch 2).stillSince, (t.watch 2).deadline)) =
      some (.watch, .stillness, none, none) ∧
    (truckOf s 3).map (fun t => ((t.watch 1).state, (t.watch 1).set.alarm, (t.watch 2).set.alarm)) =
      some (.alarm, .selfClear, .reportOnly) ∧ (0 ≠ 1 ∧ 0 ≠ 2 ∧ 3 ≠ 1 ∧ 3 ≠ 2) := by decide +kernel

/-- A warning and a deadline at their very moment, before it, and on IDLE; a full queue; REPORT_ONLY. -/
theorem witness_WarningAndDeadlineReached :
    let s := crew [{ tk 1 with w1 := { wt .watch with warnTime := some 1000 }, w2 := { wt .warn with deadline := some 1000 } },
      { tk 2 with w1 := { wt .watch with warnTime := some 1001 }, queue := fullQueue },
      { tk 3 with w1 := { wt .watch with deadline := some 1000, set := { Settings.fresh with alarm := .reportOnly } } }]
    Live s ∧ (truckOf s 1).map (fun t => (t.w1.state, t.w1.warnTime, t.w2.state, t.w2.deadline)) =
      some (.watch, some 1000, .warn, some 1000) ∧ ((1000 : Int) ≤ (s.now : Int) ∧ 1000 ≤ s.now) ∧
    (truckOf s 2).map (fun t => (t.w1.warnTime, t.queue.length, t.w2.state)) = some (some 1001, 12, .idle) ∧
    ¬(1001 : Int) ≤ (s.now : Int) ∧
    (truckOf s 3).map (fun t => (t.w1.deadline, t.w1.set.alarm)) = some (some 1000, .reportOnly) := by
  refine ⟨crew_live _, ?_⟩
  decide +kernel

/-- A recipient with an ASSIST record that still stands, one whose list is now empty, one without a record, and one without
a zone; trucks in ascending number. -/
theorem witness_WarningAndDeadlineReached_assist :
    let w : Watch := { wt .alarm with alarm := some { cause := .deadline, raised := 950 } }
    let x : AssistEntry := { truck := 1, seat := 1, zone := 10, lastContact := some 900 }
    let s := crew [{ tk 1 with w1 := w, queue := [rc (.assist [x]) 0 false] }, { tk 2 with queue := [rc (.assist [x]) 0 false] }, tk 3,
      { tk 4 with zone := none }]
    ascending Truck.num s.trucks ∧ (truckOf s 1).map (assistList s) = some [] ∧ (truckOf s 2).map (assistList s) = some [x] ∧
    (recOf s 2 .assist).map Rec.content = some (.assist [x]) ∧ recOf s 3 .assist = none ∧
    (truckOf s 4).bind Truck.zone = none ∧ (truckOf s 4).map (assistList s) = some [] := by
  refine ⟨?_, ?_⟩
  · unfold ascending; decide +kernel
  · decide +kernel

/-! ### Permits -/

/-- No step; a bad action and a VERIFY without a position; a duplicate; 32 permits; no holder; no order; an ended order; an
order linked already; a full point table; a permit that fits, with a linked order whose record stands. -/
theorem witness_LoadPermitCreatesLoadedPermit :
    let bad : StepIn → Bool := fun x => decide (5 ≤ x.action) || (x.action == 4 &&
      match x.required with
      | none => true
      | some r => decide (3 ≤ r))
    let o := od 3 .accepted (some 1)
    let s : State := { crew [{ tk 1 with queue := [rc (.order (orderContent o .held false)) 0 false] }] with
      orders := [od 1 .complete none, { od 2 .queued none with linked := some 8 }, o]
      permits := [pm 8 1 .loaded [stp 1 .open .pending] []], points := [pt 1 .closed] }
    Ready s ∧ (bad { stepIn0 with action := 5 } = true ∧ bad { stepIn0 with action := 4 } = true ∧
      bad { stepIn0 with action := 4, required := some 3 } = true ∧ bad { stepIn0 with action := 4, required := some 2 } = false ∧
      bad stepIn0 = false) ∧
    (permitOf s 8).isSome = true ∧ (permitOf s (max 0 1)).isSome = false ∧
    32 ≤ ((List.range 32).map fun i => pm (i + 1) 1 .loaded [] []).length ∧ ¬32 ≤ s.permits.length ∧
    (truckOf s (clamp 1 999 0)).isNone = false ∧ (truckOf s (clamp 1 999 1000)).isNone = true ∧
    (orderOf s 9).isNone = true ∧ (orderOf s 1).map (fun o => o.state.isOpen) = some false ∧
    (orderOf s 2).map (fun o => o.linked.isSome) = some true ∧
    (orderOf s 3).map (fun o => (o.state.isOpen, o.linked)) = some (true, none) ∧ (recOf s 1 (.order 3)).isSome = true ∧
    256 < ((List.range 256).map fun i => pt (i + 1) .unknown).length + ([300].filter fun m => m == 300).length ∧
    ¬256 < s.points.length + ([1, 2].filter fun m => (pointOf s m).isNone).length := by
  refine ⟨⟨rfl, rfl, rfl, by decide⟩, ?_⟩
  decide +kernel

/-- No permit; an ended state; no holder; an order that is not the holder's; two slots taken; a full queue; LOADED; ISSUED. -/
theorem witness_IssuePermitSendsRecord :
    let s : State := { crew [{ tk 1 with permitSlots := [6, 7] }, { tk 2 with queue := fullQueue }, tk 3] with
      orders := [od 1 .offered (some 3)]
      permits := [pm 1 3 .closed [] [], pm 2 9 .loaded [] [], { pm 3 3 .loaded [] [] with linked := some 1 },
        pm 4 1 .loaded [] [], pm 5 2 .loaded [] [], pm 6 3 .loaded [] [], pm 7 3 .issued [] []] }
    Ready s ∧ permitOf s 9 = none ∧ (permitOf s 1).map Permit.state = some .closed ∧ truckOf s 9 = none ∧
    ((orderOf s 1).any fun o => o.assigned == some 3 && (o.state == .accepted || o.state == .enRoute || o.state == .onSite)) = false ∧
    (truckOf s 1).map (fun k => k.permitSlots.length) = some 2 ∧
    (truckOf s 2).map (fun k => ((recFor k.queue (.permit 5)).isNone, k.queue.length)) = some (true, 12) ∧
    (permitOf s 6).map Permit.state = some .loaded ∧ (permitOf s 7).map Permit.state = some .issued ∧
    (truckOf s 3).map (fun k => k.queue.length) = some 0 := by
  refine ⟨⟨rfl, rfl, rfl, by decide⟩, ?_⟩
  decide +kernel

/-- The first and the last step of each list, and where they stand in the content (R72). -/
theorem witness_IssuePermitSendsRecord_content :
    let p := pm 1 3 .isolating [stp 1 .open .done, stp 2 .verify .pending] [stp 2 .close .pending]
    p.iso[0]? = some (stp 1 .open .done) ∧ p.iso[1]? = some (stp 2 .verify .pending) ∧ p.rest[0]? = some (stp 2 .close .pending) ∧
    (permitContent p).steps.map (fun x => (x.step.list, x.step.num, x.point, x.done)) =
      [(0, 1, 1, true), (0, 2, 2, false), (1, 1, 2, false)] := by decide +kernel

/-- A LOADED permit; an issued one with a GRANT standing and a busy point; one with a pending entry; one halted by HOST; an
ended one; none. -/
theorem witness_HaltCauseStopsPermit :
    let p := pm 2 1 .isolating [stp 1 .open .answered] []
    let q := pm 3 1 .isolating [stp 2 .open .asked] []
    let s : State := { crew [{ tk 1 with queue := [rc (grant 2) 0 false] }] with
      permits := [pm 1 1 .loaded [] [], p, q, { pm 4 1 .cleared [] [] with causes := { Causes.none with host := true } },
        pm 5 1 .closed [] []]
      points := [{ pt 1 .closed with busy := some { permit := 2, step := step1 } }, pt 2 .closed]
      asks := [{ permit := 3, step := step1, holder := 1, askTime := 990, expiry := 1110 }] }
    Ready s ∧ (permitOf s 1).map (fun p => (p.state.isOpen, p.causes.has .host, p.issueTime)) = some (true, false, none) ∧
    permitOf s 2 = some p ∧ ((answerIn s 1 2).map AnswerContent.kind = some .grant ∧ askOf s 2 = none ∧
      p.step step1 = some (stp 1 .open .answered)) ∧
    permitOf s 3 = some q ∧ ((askOf s 3).isSome = true ∧ q.step step1 = some (stp 2 .open .asked) ∧ answerIn s 1 3 = none) ∧
    (permitOf s 4).map (fun p => p.causes.host) = some true ∧ (permitOf s 5).map Permit.state = some .closed ∧
    permitOf s 9 = none := by
  refine ⟨⟨rfl, rfl, rfl, by decide⟩, ?_⟩
  decide +kernel

def isAnswer : Subject → Bool
  | .answer _ => true
  | _ => false

/-- A queue without an ANSWER record is well formed where what evaluation shows of it holds. -/
theorem queue_wf (q : List Rec) (h : q.length ≤ 12 ∧ (q.map Rec.subject).Nodup ∧ (q.map Rec.seq).Nodup ∧ (∀ r ∈ q, r.seq < 256) ∧
    ∀ x ∈ q.map Rec.subject, isAnswer x = false) : QueueWf q :=
  ⟨h.1, h.2.1, h.2.2.1, h.2.2.2.1, fun p _ ha => absurd (h.2.2.2.2 _ ha) (by simp [isAnswer])⟩

theorem full_wf : QueueWf fullQueue := queue_wf _ (by decide +kernel)

/-- Two trucks with well-formed queues. -/
theorem two_queues {s : State} {a b : Truck} (e : s.trucks = [a, b]) (ha : QueueWf a.queue ∧ a.seqCtr < 256)
    (hb : QueueWf b.queue ∧ b.seqCtr < 256) : QueuesInv s := by
  intro t ht
  rw [e] at ht
  rcases List.mem_cons.mp ht with rfl | h
  · exact ha
  · exact List.mem_singleton.mp h ▸ hb

/-- Pending entries whose holder's queue has room behind the PERMIT record, and whose queue is full; an alarm of a truck with
permits ISSUED and LOADED in its slots; no such truck. -/
theorem witness_HaltCauseStopsPermit_entry :
    let s : State := { crew [{ tk 1 with permitSlots := [1, 3] }, { tk 2 with queue := fullQueue }] with
      permits := [pm 1 1 .isolating [stp 1 .open .asked] [], pm 2 2 .isolating [stp 1 .open .asked] [], pm 3 1 .loaded [] []]
      points := [pt 1 .closed]
      asks := [{ permit := 1, step := step1, holder := 1, askTime := 990, expiry := 1110 },
        { permit := 2, step := step1, holder := 2, askTime := 990, expiry := 1110 }] }
    QueuesInv s ∧ (askOf s 1).map Ask.holder = some 1 ∧ (askOf s 2).map Ask.holder = some 2 ∧
    (truckOf s 1).map (fun k => (recFor k.queue (.answer 1), k.queue.length)) = some (none, 0) ∧
    (truckOf s 2).map (fun k => (recFor k.queue (.answer 2), k.queue.length)) = some (none, 12) ∧
    (truckOf s 1).map Truck.permitSlots = some [1, 3] ∧ truckOf s 9 = none := by
  exact ⟨two_queues rfl ⟨queue_wf _ (by decide), by decide⟩ ⟨full_wf, by decide⟩, by decide +kernel⟩

/-- No permit; an ended one; the holder's alarm; a hold that differs; no latched cause; all of them. -/
theorem witness_ResumePermitRemovesLatchedCauses :
    let all : Causes := { host := true, alarm := true, mismatch := true, conflict := true, site := true }
    let s : State := { crew [tk 1, { tk 2 with w1 := wt .alarm }] with
      permits := [pm 1 1 .cancelled [] [], pm 2 2 .isolating [] [], pm 3 1 .cleared [] [],
        { pm 4 1 .restoring [] [] with causes := all }, pm 5 1 .isolating [] []]
      points := [{ pt 1 .closed with holds := [{ permit := 3, position := .open }] }] }
    Ready s ∧ permitOf s 9 = none ∧ (permitOf s 1).map Permit.state = some .cancelled ∧
    ((truckOf s 2).any fun k => k.w1.state == .alarm && k.w1.set.alarm != .reportOnly) = true ∧
    (s.points.any fun q => q.holds.any fun h => h.permit == 3 && h.position != q.position) = true ∧
    (s.points.any fun q => q.holds.any fun h => h.permit == 4 && h.position != q.position) = false ∧
    (permitOf s 4).map (fun p => (p.causes, p.issueTime.isSome)) = some (all, true) ∧
    (permitOf s 5).map Permit.causes = some Causes.none ∧ (truckOf s 1).map (fun k => k.queue.length) = some 0 := by
  refine ⟨⟨rfl, rfl, rfl, by decide⟩, ?_⟩
  decide +kernel

/-- Latched causes of a permit whose holder's queue is full and holds no record for it. -/
theorem witness_ResumePermitRemovesLatchedCauses_full :
    let s : State := { crew [{ tk 1 with queue := fullQueue }] with
      permits := [{ pm 4 1 .restoring [] [] with causes := { Causes.none with host := true } }] }
    Ready s ∧ (permitOf s 4).map (fun p => (p.causes.host, p.issueTime.isSome)) = some (true, true) ∧
    truckOf s 1 = some { tk 1 with queue := fullQueue } ∧ recFor fullQueue (.permit 4) = none ∧ 12 ≤ fullQueue.length := by
  refine ⟨⟨rfl, rfl, rfl, by decide⟩, ?_⟩
  decide +kernel

/-- No permit; an ended one; a step EXECUTING; a LOADED one; an issued one with an entry, an answer, a mark and a hold, its
holder's queue with room; one whose holder's queue is full. -/
theorem witness_CancelPermitReleasesEverything :
    let s : State := { crew [{ tk 1 with permitSlots := [4], queue := [rc (grant 4) 0 false] }, { tk 2 with permitSlots := [5], queue := fullQueue }] with
      permits := [pm 1 1 .closed [] [], pm 2 1 .isolating [stp 1 .open .executing] [], pm 3 1 .loaded [] [],
        pm 4 1 .isolating [stp 1 .open .answered] [], pm 5 2 .issued [] []]
      points := [{ pt 1 .closed with busy := some { permit := 4, step := step1 }, holds := [{ permit := 4, position := .closed }] }] }
    Ready s ∧ permitOf s 9 = none ∧ (permitOf s 1).map Permit.state = some .closed ∧
    (permitOf s 2).map (fun p => (p.iso ++ p.rest).any fun x => x.state == .executing) = some true ∧
    (permitOf s 3).map Permit.issueTime = some none ∧
    ((permitOf s 4).map (fun p => p.issueTime.isSome) = some true ∧ (answerIn s 1 4).isSome = true) ∧
    (truckOf s 2).map (fun k => (k.queue.length, (recFor k.queue (.permit 5)).isNone)) = some (12, true) := by
  refine ⟨⟨rfl, rfl, rfl, by decide⟩, ?_⟩
  decide +kernel

/-- An entry without an answer record, its holder's queue with room and full; a LOADED permit with neither. -/
theorem witness_CancelPermitReleasesEverything_entry :
    let s : State := { crew [tk 1, { tk 2 with queue := fullQueue }] with
      permits := [pm 1 1 .isolating [stp 1 .open .asked] [], pm 2 2 .isolating [stp 1 .open .asked] [], pm 3 1 .loaded [] []]
      asks := [{ permit := 1, step := step1, holder := 1, askTime := 990, expiry := 1110 },
        { permit := 2, step := step1, holder := 2, askTime := 990, expiry := 1110 }] }
    Ready s ∧ (answerIn s 1 1 = none ∧ (askOf s 1).isSome = true ∧ (truckOf s 1).map (fun k => k.queue.length) = some 0) ∧
    (answerIn s 2 2 = none ∧ (askOf s 2).isSome = true ∧ (truckOf s 2).map (fun k => k.queue.length) = some 12) ∧
    (answerIn s 1 3 = none ∧ askOf s 3 = none ∧ (permitOf s 3).map Permit.issueTime = some none) := by
  refine ⟨⟨rfl, rfl, rfl, by decide⟩, ?_⟩
  decide +kernel

/-- No permit; an open one; a CLOSED one with a linked order, a point it alone names, one another names too, and one that
is named by neither. -/
theorem witness_RetirePermitFreesPoints :
    let p := { pm 2 1 .closed [stp 1 .open .done, stp 2 .open .done] [] with linked := some 7 }
    let s : State := { crew [{ tk 1 with permitSlots := [2], queue := [rc (.permit (permitContent p)) 0 false] }] with
      orders := [{ od 7 .complete (some 1) with linked := some 2 }], permits := [pm 1 1 .issued [stp 2 .open .pending] [], p]
      points := [pt 1 .open, { pt 2 .open with refCount := 2 }, pt 3 .open] }
    Ready s ∧ permitOf s 9 = none ∧ (permitOf s 1).map Permit.state = some .issued ∧ permitOf s 2 = some p ∧
    (1 ∈ p.points ∧ 2 ∈ p.points ∧ 3 ∉ p.points) ∧ p.linked = some 7 ∧
    ((pointOf s 1).map Point.refCount = some 1 ∧ (pointOf s 2).map Point.refCount = some 2) := by
  refine ⟨⟨rfl, rfl, rfl, by decide⟩, ?_⟩
  decide +kernel

/-! ### Steps and points -/

/-- A permit that asks for one step, in a state with one truck and one point. -/
def asking (p : Permit) (q : Point) : State := { crew [tk 1] with permits := [p], points := [q] }

/-- Each check of a STEP_ASK as the first to fail, in order, and the three asks that pass: by a permit and a point for
each. -/
theorem witness_StepAskIsCheckedThenAnswered :
    let one (x : StepRec) : Permit := pm 1 1 .isolating [x] []
    let x := stp 1 .open .pending
    permitOf (asking (one x) (pt 1 .closed)) 9 = none ∧ (one x).step { list := 0, num := 2 } = none ∧
    (one x).step { list := 2, num := 1 } = none ∧ (one x).step step1 = some x ∧ actionOf 4 ≠ some x.action ∧
    (pm 1 1 .cleared [x] []).state ≠ .isolating ∧ (pm 1 1 .isolating [x] [x]).state ≠ .restoring ∧
    ({ Causes.none with host := true } : Causes) ≠ Causes.none ∧
    (([stp 1 .open .pending, x].take (2 - 1)).all fun y => y.state == .done) = false ∧
    (stp 1 .open .done).state = .done ∧ (stp 1 .open .answered).state = .answered ∧ (stp 1 .open .asked).state = .asked ∧
    ((truckOf (crew [{ tk 1 with w2 := wt .alarm }]) 1).any fun k => k.w1.blocking || k.w2.blocking) = true ∧
    State.reset.sup.console = .unattended ∧ (stp 1 .close .pending).action = .close ∧
    pointOf (asking (one x) (pt 2 .closed)) 1 = none ∧
    (({ pt 1 .closed with holds := [{ permit := 2, position := .closed }] } : Point).holds.any fun h => h.permit != 1) = true ∧
    (({ pt 1 .closed with busy := some { permit := 2, step := step1 } } : Point).busy.any fun b => b.permit != 1) = true ∧
    verifiedByOther { asking (one x) (pt 1 .closed) with
      permits := [one x, pm 2 1 .isolating [stp 1 .verify .answered] []] } 1 1 = true ∧
    4 ≤ ((List.range 4).map fun i => ({ permit := i + 2, position := .closed } : Hold)).length ∧
    (pt 1 .unknown).position = .unknown ∧ (pt 1 .open).position ≠ .closed ∧
    16 ≤ (List.replicate 16 ({ permit := 2, step := step1, holder := 1, askTime := 0, expiry := 1110 } : Ask)).length ∧
    canGive { asking (one x) (pt 1 .closed) with trucks := [{ tk 1 with queue := fullQueue }] } 1 (.answer 1) = false ∧
    canGive (asking (one x) (pt 1 .closed)) 1 (.answer 1) = true ∧
    ((stepAsk (asking (one x) (pt 1 .closed)) 1 1 step1 1 0).port.notices = [] ∧
      (answerIn (stepAsk (asking (one x) (pt 1 .closed)) 1 1 step1 1 0) 1 1).map AnswerContent.kind = some .grant) ∧
    (answerIn (stepAsk (asking (one { x with confirm := true }) (pt 1 .closed)) 1 1 step1 1 0) 1 1).map AnswerContent.kind =
      some .held := by decide +kernel

/-- A refusal for the holder of the step and for another truck; with a GRANT standing, with a full queue, and with room. -/
theorem witness_StepAskIsCheckedThenAnswered_refusal :
    let s : State := { crew [{ tk 1 with queue := [rc (grant 1) 0 false] }, { tk 2 with queue := fullQueue }, tk 3] with
      permits := [pm 1 1 .isolating [stp 1 .open .answered] [], pm 2 3 .isolating [stp 1 .open .pending] []] }
    ((permitOf s 1).any fun p => p.holder == 1 && (p.step step1).isSome) = true ∧
    ((permitOf s 1).any fun p => p.holder == 2 && (p.step step1).isSome) = false ∧
    ((answerIn s 1 1).any fun c => c.kind == .grant || c.kind == .held) = true ∧ canGive s 2 (.answer 1) = false ∧
    ((answerIn s 3 2).any fun c => c.kind == .grant || c.kind == .held) = false ∧ canGive s 3 (.answer 2) = true := by
  decide +kernel

/-- No permit; another's; LOADED, CANCELLED, ISSUED, with SITE coming, standing and gone; CLEARED with and without restore
steps, and with a cause; RESTORING, CLOSED, ISOLATING. -/
theorem witness_PermitItemsMovePermit :
    let down : State := { base with sites := base.sites.map fun x =>
      if x.num = 1 then { x with state := .down, range := some (1, 250) } else x, trucks := [tk 1] }
    let site : Causes := { Causes.none with site := true }
    let s : State := { crew [tk 1] with
      permits := [pm 1 2 .issued [] [], pm 2 1 .loaded [] [], pm 3 1 .issued [] [], pm 4 1 .cleared [] [],
        pm 5 1 .cleared [] [stp 1 .close .pending], { pm 6 1 .cleared [] [] with causes := site }, pm 7 1 .closed [] []] }
    permitOf s 9 = none ∧ (permitOf s 1).map Permit.holder = some 2 ∧ (permitOf s 2).map Permit.state = some .loaded ∧
    (permitOf s 3).map (fun p => (p.state, p.causes.site)) = some (.issued, false) ∧ siteCondition s 1 = false ∧
    siteCondition down 1 = true ∧ ({ pm 3 1 .issued [] [] with causes := site } : Permit).causes.site = true ∧
    (permitOf s 4).map (fun p => (p.state, p.rest)) = some (.cleared, []) ∧ (permitOf s 5).map (fun p => p.rest.length) = some 1 ∧
    (permitOf s 6).map (fun p => decide (p.causes ≠ Causes.none)) = some true ∧ (permitOf s 7).map Permit.state = some .closed ∧
    (truckOf s 1).map (fun k => k.queue.length) = some 0 := by decide +kernel

/-- No permit; another's; no such step; DONE; PENDING sent before and never; EXECUTING with the position it leaves, with
another, and with a hold that cannot be placed. -/
theorem witness_StepDoneEndsStep :
    let x := { stp 1 .open .executing with hold := true }
    let s := asking (pm 1 1 .isolating [x, stp 1 .open .done, { stp 1 .open .pending with sent := true }, stp 1 .open .pending] [])
      (pt 1 .closed)
    permitOf s 9 = none ∧ (permitOf s 1).map Permit.holder = some 1 ∧ stepIn s 1 { list := 0, num := 5 } = none ∧
    stepIn s 1 step1 = some x ∧ (stepIn s 1 { list := 0, num := 2 }).map StepRec.state = some .done ∧
    (stepIn s 1 { list := 0, num := 3 }).map (fun y => (y.state, y.sent)) = some (.pending, true) ∧
    (stepIn s 1 { list := 0, num := 4 }).map StepRec.sent = some false ∧
    ([Position.open, .closed, .grounded][0]?).getD .unknown = .open ∧ holdPlaceable s 1 step1 x = true ∧
    ([Position.open, .closed, .grounded][3]?).getD .unknown ≠ .open ∧
    holdPlaceable (asking (pm 1 1 .isolating [x] []) { pt 1 .closed with holds := [{ permit := 2, position := .closed }] }) 1 step1 x =
      false := by decide +kernel

/-- A done after revoke of a CLOSED and of a CANCELLED permit; of an open one whose step is ASKED with HELD standing, ANSWERED
with its GRANT standing and the mark set, and PENDING; a restore step with a hold of its own. The last step of either list
DONE, with room for the record and without. -/
theorem witness_StepDoneEndsStep_revoked :
    let s : State := { crew [{ tk 1 with queue := [rc (grant 3) 0 false, rc (.answer (heldContent 4 step1)) 1 false] }, { tk 2 with queue := fullQueue, permitSlots := [6] }] with
      permits := [pm 1 1 .closed [stp 1 .open .pending] [], pm 2 1 .cancelled [stp 1 .open .pending] [],
        pm 3 1 .isolating [stp 1 .open .answered] [], pm 4 1 .isolating [stp 1 .open .asked] [],
        pm 5 1 .restoring [stp 1 .open .done] [stp 1 .close .pending], pm 6 2 .restoring [stp 1 .open .done] [stp 1 .close .done],
        pm 7 1 .isolating [stp 1 .open .done] []]
      points := [{ pt 1 .closed with busy := some { permit := 3, step := step1 }, holds := [{ permit := 5, position := .open }] }]
      asks := [{ permit := 4, step := step1, holder := 1, askTime := 990, expiry := 1110 }] }
    ((permitOf s 1).map Permit.state = some .closed ∧ (permitOf s 2).map Permit.state = some .cancelled) ∧
    (stepIn s 3 step1).map StepRec.state = some .answered ∧ (answerIn s 1 3).map AnswerContent.kind = some .grant ∧
    (stepIn s 4 step1).map StepRec.state = some .asked ∧ (answerIn s 1 4).map AnswerContent.kind = some .held ∧
    (stepIn s 5 { list := 1, num := 1 }).map StepRec.state = some .pending ∧ pointOf s 9 = none ∧
    (permitOf s 6).map (fun p => (p.state, p.rest.all fun x => x.state == .done)) = some (.restoring, true) ∧
    (permitOf s 7).map (fun p => (p.state, p.iso.all fun x => x.state == .done)) = some (.isolating, true) ∧
    canGive s 2 (.permit 6) = false ∧ canGive s 1 (.permit 7) = true := by decide +kernel

/-- A decision that names none; no permit; no entry; another step; a full queue; a denial; an approval that passes and one
that fails. -/
theorem witness_DecideStepAnswersEntry :
    let x := { stp 1 .open .asked with confirm := true }
    let a : Ask := { permit := 1, step := step1, holder := 1, askTime := 990, expiry := 1110 }
    let s : State := { asking (pm 1 1 .isolating [x] []) (pt 1 .closed) with asks := [a] }
    Ready s ∧ 2 ≤ 2 ∧ permitOf s 9 = none ∧ (permitOf s 1).isSome = true ∧ askOf (asking (pm 1 1 .isolating [x] []) (pt 1 .closed)) 1 = none ∧
    askOf s 1 = some a ∧ a.step ≠ { list := 0, num := 2 } ∧ stepIn s 1 step1 = some x ∧
    canGive { s with trucks := [{ tk 1 with queue := fullQueue }] } 1 (.answer 1) = false ∧ canGive s 1 (.answer 1) = true ∧
    approvalChecks s (pm 1 1 .isolating [x] []) step1 x = none ∧
    approvalChecks { s with points := [pt 1 .open] } (pm 1 1 .isolating [x] []) step1 x = some .position := by
  refine ⟨⟨rfl, rfl, rfl, by decide⟩, ?_⟩
  decide +kernel

/-- Positions 0, 3 and 4; no point; holds that agree and that do not. -/
theorem witness_SetPointWeighsHolds :
    let q := { pt 1 .closed with holds := [{ permit := 1, position := .open }, { permit := 2, position := .open }] }
    let s := asking (pm 1 1 .isolating [stp 1 .open .done] []) q
    Ready s ∧ [Position.open, .closed, .grounded, .unknown][3]? = some .unknown ∧
    [Position.open, .closed, .grounded, .unknown][4]? = none ∧ pointOf s 9 = none ∧ pointOf s 1 = some q ∧
    (∀ h ∈ q.holds, h.position = .open) ∧ (∀ h ∈ (pt 1 .closed).holds, h.position = .closed) ∧
    (q.holds.find? fun h => h.position != q.position) = some { permit := 1, position := .open } ∧
    (q.holds.find? fun h => h.position != .unknown) = some { permit := 1, position := .open } := by
  refine ⟨⟨rfl, rfl, rfl, by decide⟩, ?_⟩
  decide +kernel

/-! ### Queues and sites -/

/-- No truck; a TEXT standing; 12 records; 11 records. -/
theorem witness_SendTextJoinsTail :
    let s := crew [{ tk 1 with queue := [rc (.text [65]) 0 false] }, { tk 2 with queue := fullQueue.take 11 },
      { tk 3 with queue := fullQueue.take 11 ++ [rc (.prompt { seat := 1, kind := .due, deadline := none, cause := none }) 20 false] }]
    Ready s ∧ truckOf s 9 = none ∧ (recOf s 1 .text).isSome = true ∧
    (truckOf s 2).map (fun k => (k.queue.length, (recFor k.queue .text).isSome, k.seqCtr)) = some (11, false, 0) ∧
    (truckOf s 3).map (fun k => k.queue.length) = some 12 := by
  refine ⟨crew_ready _, ?_⟩
  decide +kernel

/-- A queue in two parts: a PROMPT; a routine PERMIT with its ANSWER behind it, and a TEXT. -/
def mixedQueue : List Rec :=
  [rc (.prompt { seat := 1, kind := .due, deadline := none, cause := none }) 0 false,
   rc (.permit (permitContent (pm 2 1 .isolating [] []))) 1 false, rc (grant 2) 2 false, rc (.text [65]) 3 false]

theorem mixed_wf : QueueWf mixedQueue := by
  refine ⟨by decide, by decide +kernel, by decide +kernel, by decide +kernel, fun p hp _ => ?_⟩
  have e : mixedQueue.map Rec.subject = [.prompt 1, .permit 2, .answer 2, .text] := rfl
  rw [e] at hp ⊢
  obtain rfl : p = 2 := by simpa using hp
  exact ⟨[.prompt 1], [.text], rfl⟩

/-- No truck; a full queue; the TEXT updated; an ANSWER behind the PERMIT record; the PERMIT record become urgent, with its
ANSWER; a new TEXT. A removal of the PERMIT record that leaves its ANSWER in the routine part, and of another. -/
theorem witness_SendTextJoinsTail_records :
    let q := mixedQueue
    let p := { permitContent (pm 2 1 .isolating [] []) with causes := { Causes.none with host := true } }
    (truckOf (crew [tk 1]) 9 = none ∧ QueueWf q ∧ QueueWf fullQueue ∧ recFor fullQueue (.order 1) = none ∧ 12 ≤ fullQueue.length) ∧
    (q = q.take 3 ++ rc (.text [65]) 3 false :: [] ∧ (rc (.text [65]) 3 false).urgent = (Content.text [66]).urgent) ∧
    (recFor (q.take 2) (.answer 2) = none ∧ q.take 2 = q.take 1 ++ rc (.permit (permitContent (pm 2 1 .isolating [] []))) 1 false :: []) ∧
    (InTwoParts (without q (.permit 2)) [rc (.prompt { seat := 1, kind := .due, deadline := none, cause := none }) 0 false, rc (grant 2) 2 false]
        [rc (.text [65]) 3 false] ∧ (recFor q (.permit 2)).map Rec.urgent = some false ∧ (Content.permit p).urgent = true ∧
      (recFor q (.answer 2)).isSome = true) ∧
    (InTwoParts (without (q.take 3) .text) (q.take 1) (q.drop 1 |>.take 2) ∧ recFor (q.take 3) .text = none) ∧
    (InTwoParts q (q.take 1) (q.drop 1) ∧ (recFor (q.drop 1) (.answer 2)).isSome = true ∧ (recFor q (.permit 2)).isSome = true ∧
      InTwoParts (without (without q (.permit 2)) (.answer 2)) (q.take 1) (q.drop 3)) ∧ (∀ p, Subject.text ≠ .permit p) := by
  refine ⟨⟨by decide, mixed_wf, full_wf, by decide +kernel, by decide⟩, by decide +kernel, by decide +kernel,
    ⟨⟨by decide +kernel, by decide, ?_⟩, by decide +kernel⟩, ⟨⟨by decide +kernel, by decide +kernel, ?_⟩, by decide +kernel⟩,
    ⟨⟨by decide +kernel, by decide +kernel, ?_⟩, by decide +kernel, by decide +kernel, by decide +kernel, by decide +kernel, ?_⟩, nofun⟩ <;>
    (intro r h; cases h; rfl)

/-- Site 1 over zones 1 to 100, site 2 below it over 10 to 20, site 3 beside it. -/
def sited : State :=
  { crew [tk 1] with sites :=
      [{ Site.fresh 1 with state := .up, range := some (1, 100), lastBeacon := some 990 },
       { Site.fresh 2 with state := .down, parent := 1, range := some (10, 20), lastBeacon := some 800 },
       { Site.fresh 3 with state := .up, range := some (101, 250), lastBeacon := some 910 }, Site.fresh 4, Site.fresh 5,
       Site.fresh 6, Site.fresh 7] }

theorem sited_tables : TablesInv sited := by
  refine ⟨?_, .nil, .nil, .nil, ?_, by decide, by decide, by decide, by decide, by decide, by decide, by decide⟩
  · unfold ascending; decide +kernel
  · decide +kernel

theorem sited_sites : SitesInv sited := by
  have hs : sited.sites =
      [{ Site.fresh 1 with state := .up, range := some (1, 100), lastBeacon := some 990 },
       { Site.fresh 2 with state := .down, parent := 1, range := some (10, 20), lastBeacon := some 800 },
       { Site.fresh 3 with state := .up, range := some (101, 250), lastBeacon := some 910 }, Site.fresh 4, Site.fresh 5,
       Site.fresh 6, Site.fresh 7] := rfl
  constructor
  · rw [hs]; rfl
  · rw [hs]
    simp [Site.used, Site.fresh] <;> exact ⟨⟨1, 100, by decide⟩, ⟨10, 20, by decide⟩, ⟨101, 250, by decide⟩⟩
  · rw [hs]
    simp [Site.used, Site.fresh, Site.covers] <;> omega
  · rw [hs]
    intro x hx y hy
    simp only [List.mem_cons, List.not_mem_nil, or_false] at hx hy
    rcases hx with rfl | rfl | rfl | rfl | rfl | rfl | rfl <;> rcases hy with rfl | rfl | rfl | rfl | rfl | rfl | rfl <;>
      simp [Site.used, Site.fresh, Site.covers] <;> omega

theorem sited_ready : Ready sited := ⟨rfl, rfl, rfl, by decide⟩

/-- No such site; a range turned about; a parent that is the site itself, of depth 2, and a site with a child under a
parent; a range outside the parent's, and a child's outside the site's; an overlap; sites that pass, unused and used.
CLEAR_SITE: unused; with a child; used without. -/
theorem witness_SitesAreConfigured :
    Ready sited ∧ TablesInv sited ∧ SitesInv sited ∧ siteOf sited 0 = none ∧ siteOf sited 8 = none ∧
    clamp 1 250 5 < clamp 1 250 6 ∧
    ((siteOf sited 2).any fun y => 2 != 4 && y.state != .unused && y.parent == 0) = false ∧
    ((siteOf sited 3).any fun y => 3 != 1 && y.state != .unused && y.parent == 0) = true ∧
    (sited.sites.any fun y => y.state != .unused && y.parent == 1) = true ∧
    ((siteOf sited 1).any fun y => y.range.any fun r => r.1 ≤ 90 && 101 ≤ r.2) = false ∧
    (sited.sites.any fun y => y.state != .unused && y.parent == 1 && !(y.range.any fun r => 11 ≤ r.1 && r.2 ≤ 100)) = true ∧
    (sited.sites.any fun y => y.state != .unused && y.num != 4 && y.parent == 0 && y.range.any fun r => r.1 ≤ 250 && 100 ≤ r.2) =
      true ∧
    (siteOf sited 4).map Site.state = some .unused ∧ (siteOf sited 1).map Site.state = some .up ∧
    (siteOf sited 2).map Site.state = some .down ∧
    (sited.sites.any fun y => y.state != .unused && y.parent == 2) = false := by
  refine ⟨sited_ready, sited_tables, sited_sites, ?_⟩
  decide +kernel

/-- A timeout reached at the very second, one not reached, and a site that is not UP. -/
theorem witness_SitesAreConfigured_timeout :
    TablesInv sited ∧ SitesInv sited ∧
    (siteOf sited 3).map (fun x => (x.state, x.lastBeacon, x.timeout)) = some (.up, some 910, 90) ∧ 910 + 90 ≤ sited.now ∧
    (siteOf sited 1).map (fun x => (x.state, x.lastBeacon, x.timeout)) = some (.up, some 990, 90) ∧ sited.now < 990 + 90 ∧
    (siteOf sited 2).map Site.state = some .down := by
  refine ⟨sited_tables, sited_sites, ?_⟩
  decide +kernel

/-- Zones at both ends of a range of depth 2, beside it, at the ends of the ranges of depth 1, and in none (R150). -/
theorem witness_SiteCauseFollowsPolicy_routes :
    SitesInv sited ∧
    ([10, 20].map fun z => (servingSite sited z, routeOfZone sited z)) = [(2, [1, 2]), (2, [1, 2])] ∧
    ([1, 9, 21, 100, 101, 250].map fun z => (servingSite sited z, routeOfZone sited z)) =
      [(1, [1]), (1, [1]), (1, [1]), (1, [1]), (3, [3]), (3, [3])] ∧
    (servingSite sited 251, routeOfZone sited 251) = (0, []) := by
  refine ⟨sited_sites, ?_⟩
  decide +kernel

/-- The condition standing and not, by either policy; permits with and without SITE, issued or not active; policies 0, 1, 2. -/
theorem witness_SiteCauseFollowsPolicy :
    let site : Causes := { Causes.none with site := true }
    let s : State := { sited with permits := [pm 1 1 .issued [] [], pm 2 1 .isolating [] [], { pm 3 1 .cleared [] [] with causes := site }] }
    Ready s ∧ (permitOf s 1).map Permit.state = some .issued ∧
    (permitOf s 2).map (fun p => (p.state, p.causes.site)) = some (.isolating, false) ∧
    (permitOf s 3).map (fun p => (p.causes.site, p.issueTime.isSome)) = some (true, true) ∧
    siteCondition s 1 = true ∧ siteCondition { s with trucks := [{ tk 1 with zone := some 150 }] } 1 = false ∧
    s.policy = .affected ∧ [Policy.global, .affected][1]? = some .affected ∧ [Policy.global, .affected][0]? = some .global ∧
    [Policy.global, .affected][2]? = none := by
  refine ⟨⟨rfl, rfl, rfl, by decide⟩, ?_⟩
  decide +kernel

/-- A number that names no site, an UNUSED, an UP and a DOWN site; timeouts reached at the very second and not yet. -/
theorem witness_BeaconsMoveSites :
    Live sited ∧ TablesInv sited ∧ SitesInv sited ∧ siteOf sited 0 = none ∧ siteOf sited 8 = none ∧
    (siteOf sited 4).map Site.state = some .unused ∧ (siteOf sited 1).map Site.state = some .up ∧
    (siteOf sited 2).map Site.state = some .down ∧
    (siteOf sited 3).map (fun x => (x.lastBeacon, x.timeout)) = some (some 910, 90) ∧ 910 + 90 ≤ sited.now ∧
    (siteOf sited 1).map (fun x => (x.lastBeacon, x.timeout)) = some (some 990, 90) ∧ ¬990 + 90 ≤ sited.now := by
  refine ⟨⟨rfl, rfl⟩, sited_tables, sited_sites, ?_⟩
  decide +kernel

/-! ### Supervision and timers -/

/-- Modes 0, 2 and 3; windows below, at and above the limits; both console states. -/
theorem witness_SupervisionAndResume :
    Ready base ∧ [SupMode.off, .report, .act][0]? = some .off ∧ [SupMode.off, .report, .act][2]? = some .act ∧
    [SupMode.off, .report, .act][3]? = none ∧ (4 < 5 ∧ ¬5 < 5 ∧ ¬120 < 120 ∧ 120 < 121) ∧ base.sup.console = .attended ∧
    Ready { base with sup := { base.sup with console := .unattended } } :=
  ⟨base_ready, rfl, rfl, rfl, by decide, rfl, rfl, rfl, rfl, by decide⟩

/-- No expiry; one in the future and one now; OFF, REPORT, ACT with either console state; a pending entry; a GRANT for an
energizing step. -/
theorem witness_LapseTakesConsole :
    let sup (mode : SupMode) (console : ConsoleState) : Sup := { base.sup with mode := mode, console := console, lapse := some 1000 }
    let s : State := { crew [{ tk 1 with queue := [rc (.answer { permit := 2, step := step1, kind := .grant, reason := none, point := some 1, action := some .close, required := none }) 0 false] }] with
      sup := sup .act .attended, points := [pt 1 .open]
      permits := [pm 1 1 .isolating [{ stp 1 .open .asked with confirm := true }] [], pm 2 1 .isolating [stp 1 .close .answered] []]
      asks := [{ permit := 1, step := step1, holder := 1, askTime := 990, expiry := 1110 }] }
    Live s ∧ ({ base.sup with lapse := none } : Sup).lapse = none ∧ (base.sup.lapse = some 1020 ∧ base.now < 1020) ∧
    (s.sup.lapse = some 1000 ∧ ¬s.now < 1000) ∧ (sup .off .attended).mode = .off ∧ (sup .report .attended).mode = .report ∧
    (sup .act .unattended).console = .unattended ∧ askOf s 1 = some { permit := 1, step := step1, holder := 1, askTime := 990, expiry := 1110 } ∧
    ((answerIn s 1 2).map AnswerContent.kind = some .grant ∧ answerIn s 1 1 = none) ∧ ({ s with asks := [] } : State).asks = [] ∧
    (canGive s 1 (.answer 1) = true ∧ canGive { s with trucks := [{ tk 1 with queue := fullQueue }] } 1 (.answer 1) = false) ∧
    askOf s 9 = none := by
  refine ⟨⟨rfl, rfl⟩, ?_⟩
  decide +kernel

/-- Each timer at its very second, a second early, and with nothing to time; the offer with its record standing, with it
gone and room, and with a full queue; the entry with room and without; the discard of a GRANT. -/
theorem witness_TimersEndWhatTheyWereSetFor :
    let off (n t e : Nat) : Order := { od n .offered (some t) with offerExpiry := some e }
    let g : Rec := { rc (grant 3) 1 false with discard := some 1000 }
    let s : State := { crew [{ tk 1 with queue := [rc (.order (orderContent (off 1 1 1000) .offer false)) 0 false, g] },
          { tk 2 with queue := fullQueue }] with
      orders := [off 1 1 1000, off 2 1 1000, off 3 2 1000, off 4 1 1001, { off 5 1 1000 with assigned := none }, od 6 .queued none]
      permits := [pm 1 1 .isolating [stp 1 .open .asked] [], pm 2 2 .isolating [stp 1 .open .asked] [], pm 3 1 .isolating [stp 1 .open .answered] []]
      points := [{ pt 1 .closed with busy := some { permit := 3, step := step1 } }]
      asks := [{ permit := 1, step := step1, holder := 1, askTime := 880, expiry := 1000 },
        { permit := 2, step := step1, holder := 2, askTime := 880, expiry := 1000 },
        { permit := 4, step := step1, holder := 1, askTime := 881, expiry := 1001 }] }
    Live s ∧ orderOf s 9 = none ∧ (orderOf s 1).map Order.offerExpiry = some (some 1000) ∧ 1000 ≤ s.now ∧ ¬1001 ≤ s.now ∧
    (recOf s 1 (.order 1)).isSome = true ∧ ((recOf s 1 (.order 2)).isSome = false ∧ (truckOf s 1).map (fun k => k.queue.length) = some 2) ∧
    (truckOf s 2).map (fun k => k.queue.length) = some 12 ∧ (orderOf s 4).map Order.offerExpiry = some (some 1001) ∧
    (orderOf s 5).map Order.assigned = some none ∧ (orderOf s 6).map Order.state = some .queued ∧
    ((askOf s 1).map Ask.expiry = some 1000 ∧ canGive s 1 (.answer 1) = true) ∧ canGive s 2 (.answer 2) = false ∧
    (askOf s 4).map Ask.expiry = some 1001 ∧ askOf s 9 = none ∧
    (recOf s 1 (.answer 3) = some g ∧ (stepIn s 3 step1).isSome = true ∧ (pointOf s 1).isSome = true) ∧ recOf s 1 (.answer 9) = none := by
  refine ⟨⟨rfl, rfl⟩, ?_⟩
  decide +kernel

/-! ### The air and the load meter -/

/-- Zones 0, 1, 250 and 251 against zone 10; every reachability; counts 2, 5 and 6. -/
theorem witness_HeaderAndMissedTurn :
    let s := crew [tk 1, Truck.fresh 2, { tk 3 with miss := 2 }, { tk 4 with reach := .missed, miss := 5 }, { tk 5 with reach := .lost, miss := 6 }]
    truckOf s 1 = some (tk 1) ∧ ((1 ≤ 1 ∧ (1 : Nat) ≤ 250 ∧ (tk 1).zone ≠ some 1) ∧ (1 ≤ 250 ∧ 250 ≤ 250 ∧ (tk 1).zone ≠ some 250)) ∧
    (¬(1 ≤ 0) ∧ ¬(251 ≤ 250) ∧ (tk 1).zone = some 10) ∧ (truckOf s 2).map Truck.reach = some .absent ∧
    (truckOf s 3).map Truck.miss = some 2 ∧ (truckOf s 4).map Truck.miss = some 5 ∧ (truckOf s 5).map Truck.miss = some 6 := by
  decide +kernel

def turn0 (abandoned : Bool) : Turn :=
  { truck := 1, kind := .urgent, route := [], pollEnd := 999900, winOpen := 1000000, winClose := 1000001, abandoned := abandoned }

def turning (abandoned : Bool) : State := { crew [tk 1] with air := { base.air with turn := some (turn0 abandoned) } }

/-- The polled truck at the first ms of the window, the turn abandoned and not; another truck; after the closing; no turn;
a truck that is not enrolled; nothing on the air. -/
theorem witness_FramesAreTakenAtDecoding :
    Live (turning false) ∧ Live (turning true) ∧ (turning false).air.turn = some (turn0 false) ∧
    (turning true).air.turn = some (turn0 true) ∧ (turn0 true).abandoned = true ∧ (turn0 false).truck = header0.truck ∧
    ((turn0 false).winOpen ≤ (turning false).nowMs ∧ (turning false).nowMs < (turn0 false).winClose) ∧
    (turn0 false).truck ≠ 2 ∧ ({ turn0 false with winClose := 1000000 } : Turn).winClose ≤ (turning false).nowMs ∧
    base.air.turn = none ∧ (truckOf (turning false) 1).isSome = true ∧ (truckOf (turning false) 2).isSome = false ∧
    (turning false).load.sent = [] :=
  ⟨⟨rfl, rfl⟩, ⟨rfl, rfl⟩, rfl, rfl, rfl, rfl, by decide, by decide, by decide, rfl, by decide, by decide, rfl⟩

/-- A REPLY of the polled truck that comes at the closing of its window finds the missed turn counted first, and is then a
burst that sets the count to 0 (R9, R5). -/
theorem test_late_reply :
    let s : State := { turning false with air := { base.air with turn := some { turn0 false with winClose := 1000000 } } }
    let t := after (.reply header0 [] []) s
    (∃ v, exec .windowClosing s = .next v) ∧ t.air.turn = none ∧ t.air.missedTurns = 1 ∧
    (truckOf t 1).map (fun k => (k.miss, k.upAcks)) = some (0, [0]) :=
  ⟨⟨_, rfl⟩, by decide +kernel⟩

/-- Uplink lists that hold the number, that have room, and that are full. -/
theorem witness_FramesAreTakenAtDecoding_uplink :
    let s := crew [{ tk 1 with upAcks := [7] }, { tk 2 with upAcks := [1, 2, 3, 4] }]
    (truckOf s 1).map Truck.upAcks = some [7] ∧ (truckOf s 2).map Truck.upAcks = some [1, 2, 3, 4] ∧ 7 ∈ [7] ∧ 7 ∉ [1, 2, 3, 4] ∧
    [7].length < 4 ∧ ¬[1, 2, 3, 4].length < 4 := by decide +kernel

/-- A MOTION value and a reply code at the border of those that name none; the last code that names one; an item that is
skipped at the top of its count (R145). -/
theorem witness_FramesAreTakenAtDecoding_items :
    (2 ≤ 2 ∧ 5 ≤ 5 ∧ [ReplyCode.accept, .decline, .enRoute, .onSite, .complete][4]? = some .complete) ∧
    (dispatch 1 { base with air := { base.air with skipped := 65535 } } (.motion 1 2)).air.skipped = 65535 ∧
    (dispatch 1 base (.orderReply 1 5)).air.skipped = 1 := by decide +kernel

/-- A truck with one record of each kind in flight. -/
def flying : State :=
  { crew [{ tk 1 with orderSlots := [1], permitSlots := [2], queue :=
      [rc (.order (orderContent (od 1 .queued none) .withdrawn false)) 0 true,
       rc (.permit (permitContent (pm 2 1 .closed [] []))) 1 true, rc (grant 3) 2 true,
       rc (.answer (heldContent 4 step1)) 3 true, rc (.prompt { seat := 1, kind := .due, deadline := none, cause := none }) 4 true,
       rc (.assist []) 5 true, rc (.text [65]) 6 true,
       rc (.permit (permitContent (pm 5 1 .cleared [] []))) 7 false] }] with
    orders := [od 1 .queued none], points := [{ pt 1 .closed with holds := [{ permit := 3, position := .closed }] }]
    permits := [pm 2 1 .closed [] [], pm 3 1 .restoring [stp 1 .open .done] [stp 1 .close .answered], pm 5 1 .cleared [] []] }

theorem flying_queues : QueuesInv flying := by
  intro t ht
  have e : flying.trucks = [flying.trucks.headD (tk 0)] := rfl
  rw [e] at ht
  obtain rfl := List.mem_singleton.mp ht
  refine ⟨⟨by decide +kernel, by decide +kernel, by decide +kernel, by decide +kernel, ?_⟩, by decide +kernel⟩
  intro p hp ha
  have hs : ((flying.trucks.headD (tk 0)).queue.map Rec.subject) =
      [.order 1, .permit 2, .answer 3, .answer 4, .prompt 1, .assist, .text, .permit 5] := rfl
  rw [hs] at hp ha
  simp at hp ha
  omega

/-- A record of each kind in flight, one not in flight, and numbers that name none. -/
theorem witness_AcknowledgementEndsRecord :
    QueuesInv flying ∧ (∃ k, truckOf flying 1 = some k ∧
      (∀ r ∈ k.queue, r.seq = 7 → r.inFlight = false) ∧ (∀ r ∈ k.queue, r.seq = 255 → r.inFlight = false) ∧
      (k.queue.filter Rec.inFlight).map Rec.seq = [0, 1, 2, 3, 4, 5, 6]) ∧ (orderOf flying 1).isSome = true := by
  refine ⟨flying_queues, ⟨flying.trucks.headD (tk 0), ?_⟩, ?_⟩ <;> decide +kernel

/-- The same truck with an undelivered offer, and every record in flight at its eighth sending. -/
def spent : State :=
  { flying with
    orders := [od 1 .offered (some 1)]
    trucks := flying.trucks.map fun t => { t with queue := t.queue.map fun r =>
      { r with
        attempts := 7
        content := match r.content with
          | .order _ => .order (orderContent (od 1 .offered (some 1)) .offer false)
          | c => c } } }

theorem spent_queues : QueuesInv spent := by
  intro t ht
  have e : spent.trucks = [spent.trucks.headD (tk 0)] := rfl
  rw [e] at ht
  obtain rfl := List.mem_singleton.mp ht
  refine ⟨⟨by decide +kernel, by decide +kernel, by decide +kernel, by decide +kernel, ?_⟩, by decide +kernel⟩
  intro p hp ha
  have hs : ((spent.trucks.headD (tk 0)).queue.map Rec.subject) =
      [.order 1, .permit 2, .answer 3, .answer 4, .prompt 1, .assist, .text, .permit 5] := rfl
  rw [hs] at hp ha
  simp at hp ha
  omega

/-- The eighth sending of each kind of record, the offer's order still OFFERED to the truck; numbers that name none. -/
theorem witness_AcknowledgementEndsRecord_eighth :
    QueuesInv spent ∧ (truckOf spent 9 = none ∧ truckOf spent 1 = some (spent.trucks.headD (tk 0))) ∧
    (∀ r ∈ (spent.trucks.headD (tk 0)).queue, 7 ≤ r.attempts) ∧
    (((spent.trucks.headD (tk 0)).queue.filter Rec.inFlight).map Rec.subject) =
      [.order 1, .permit 2, .answer 3, .answer 4, .prompt 1, .assist, .text] ∧
    (orderOf spent 1).map (fun o => (o.state, o.assigned)) = some (.offered, some 1) ∧
    (∀ r ∈ (flying.trucks.headD (tk 0)).queue, r.attempts < 7) ∧
    (∀ r ∈ (spent.trucks.headD (tk 0)).queue, r.seq = 255 → r.inFlight = false) :=
  ⟨spent_queues, ⟨by decide +kernel, rfl⟩, by decide +kernel, by decide +kernel, by decide +kernel, by decide +kernel,
    by decide +kernel⟩

/-- A turn with a queue beyond the budget. The arbiter with two trucks that wait and one whose route passes a DOWN site.
Entries that are passed over and one that is not; slots and none. -/
theorem witness_SchedulerMoments_turns :
    let u : Rec := { rc (grant 1) 0 false with entry := 970 }
    let s : State := { sited with trucks := [{ tk 1 with queue := [{ u with entry := 960 }] }, { tk 2 with zone := none, queue := fullQueue },
      { tk 3 with zone := some 150, queue := [u] }, { tk 4 with zone := none, queue := [u] }] }
    ascending Truck.num s.trucks ∧ (arbiterPick s = some 3 ∧ arbiterPick sited = none) ∧
    ((truckOf s 2).map (fun t => leading s.air.budget t.queue) = some 6 ∧ s.air.budget = 6) ∧
    ((truckOf s 1).map fun t => (routeOf s t).any (isDown s)) = some true ∧ truckOf s 9 = none ∧
    ((truckOf s 4).map fun t => (routeOf s t).any (isDown s)) = some false ∧
    (s.air.slots = 4 ∧ ({ s.air with slots := 0 } : Air).slots = 0) ∧
    (s.air.phase = .gap ∧ ({ s.air with phase := .list } : Air).phase = .list) := by
  refine ⟨?_, ?_⟩
  · unfold ascending; decide +kernel
  · decide +kernel

/-- An event's occurrence of R143 in an idle GAP gives the waiting truck its turn, in LIST and with a turn in flight none. -/
theorem test_arbiter_asked :
    let s : State := { crew [{ tk 1 with queue := [rc (grant 1) 0 false] }] with askArb := true }
    (s.air.phase = .gap ∧ s.air.turn = none) ∧ (settleEvent s).air.turn.map Turn.truck = some 1 ∧
    (settleEvent { s with askArb := false }).air.turn = none ∧
    (settleEvent { s with air := { s.air with phase := .list } }).air.turn = none := by decide +kernel

/-- The scheduled start reached and not; LIST, WINDOW and GAP with and without a turn; the window's end at its very ms; the
closing at its very ms, abandoned and not; a truck listed first at the next start. -/
theorem witness_SchedulerMoments :
    let s : State := { turning false with
      clock := { sec := 1020, ms := 0, offset := 0 }
      air := { base.air with turn := some { turn0 false with winClose := 1020000 }, phase := .list } }
    Live s ∧ Live (turning true) ∧ (base.nowMs < base.air.nextStart) ∧ (s.air.nextStart ≤ s.nowMs ∧ s.air.startReached = false) ∧
    s.air.phase ≠ .gap ∧ base.air.phase = .gap ∧ base.air.turn = none ∧ s.air.turn.isSome = true ∧
    ({ base.air with phase := .window, winEnd := 1000000 } : Air).winEnd ≤ base.nowMs ∧
    ({ turn0 false with winClose := 1020000 } : Turn).winClose ≤ s.nowMs ∧ (turning true).nowMs < (turn0 true).winClose ∧
    truckOf s 1 = some (tk 1) ∧ (∀ r ∈ (tk 1).queue, r.inFlight = true → r.attempts < 7) ∧
    (s.trucks.filter fun t => (routeOf s t).all (fun m => !isDown s m) &&
      (t.reach == .reachable || t.reach == .missed || (t.reach == .lost && (s.air.cycle + 1) % 256 % 4 == 0))) = tk 1 :: [] := by
  refine ⟨⟨rfl, rfl⟩, ⟨rfl, rfl⟩, ?_⟩
  decide +kernel

/-- Carrier ON since before and since after the period's start; OFF; no frame; one frame inside the interval. -/
theorem witness_CarrierTimeJoinsBusyTime :
    let on (t : Nat) : State := { base with load := { base.load with carrier := some t } }
    let one : State := { base with load := { base.load with carrier := some 999000, covers := [{ lo := 999000, hi := 1000000 }] } }
    Live (on 994000) ∧ (on 994000).load.carrier = some 994000 ∧ (on 999000).load.carrier = some 999000 ∧
    base.load.carrier = none ∧ (base.load.sent = [] ∧ base.load.covers = []) ∧ Live one ∧
    (one.load.covers = [{ lo := 999000, hi := 1000000 }] ∧ max 999000 one.load.periodStart ≤ 999000 ∧ 999000 ≤ 1000000 ∧
      1000000 ≤ one.nowMs) :=
  ⟨⟨rfl, rfl⟩, rfl, rfl, rfl, by decide, ⟨rfl, rfl⟩, by decide⟩

/-- Downlink frames that have ended and one that has not; carrier time with two covers that overlap, from the period's start. -/
theorem witness_CarrierTimeJoinsBusyTime_counted :
    let m : Load := { base.load with
      carrier := some 990, periodStart := 1000, covers := [{ lo := 1010, hi := 1020 }, { lo := 1015, hi := 1030 }] }
    (∀ x ∈ [({ lo := 0, hi := 32 } : Span)], x.hi < 33) ∧ (∀ x ∈ [({ lo := 0, hi := 32 } : Span)], 31 < x.hi) ∧ m.sent = [] ∧
    ({ m with carrier := none } : Load).carrier = none ∧ m.carrier = some 990 ∧ (∀ x ∈ m.covers, x.lo ≤ x.hi) ∧
    m.carrierTime 1040 = 20 := by decide +kernel

/-- One ms before the period's end and at it; a figure below, above and at the sample; bands raised by one and by three,
lowered and kept. -/
theorem witness_PeriodEndMovesLoadFigure :
    let s (start : Nat) : State := { base with load := { base.load with periodStart := start } }
    let x := State.reset.load.thr
    Live (s 990000) ∧ (s 990001).nowMs < 990001 + 10000 ∧ ¬(s 990000).nowMs < 990000 + 10000 ∧
    (x.at 1 + x.h ≤ 340 ∧ 340 < x.at 2 + x.h) ∧ x.at 3 + x.h ≤ 790 ∧ (299 < x.at 1 ∧ x.at 0 ≤ 299) ∧
    (x.at 1 ≤ 300 ∧ 300 < x.at 2 + x.h) ∧
    (∃ t, exec .carrierOn base = .next t) ∧ (Instr.carrierOn ≠ .periodEnd ∧ Instr.carrierOn ≠ .coldReset ∧ Instr.carrierOn ≠ .warmReset) :=
  ⟨⟨rfl, rfl⟩, by decide, by decide, by decide, by decide, by decide, by decide, ⟨_, rfl⟩, by decide⟩

/-! ### What every step keeps

Each invariant holds in the reset state with a command waiting there, and the step answers a next state. -/

def stepping (c : Instr) : State := { State.reset with pending := [c] }

theorem stepping_tables (c : Instr) : TablesInv (stepping c) :=
  have h := reset_tables
  ⟨h.trucks, h.orders, h.permits, h.points, h.truckRange, h.truckRoom, h.orderRoom, h.permitRoom, h.pointRoom, h.askRoom,
    h.bufferRoom, h.noticeRoom⟩

theorem witness_StepKeepsTables : TablesInv (stepping (.enrollTruck 1 1)) ∧ ∃ t, step (stepping (.enrollTruck 1 1)) = .next t :=
  ⟨stepping_tables _, _, rfl⟩

theorem witness_StepKeepsTruckRecords :
    TablesInv (stepping (.enrollTruck 1 1)) ∧ (∃ t, step (stepping (.enrollTruck 1 1)) = .next t) ∧
    SlotsInv (stepping (.enrollTruck 1 1)) ∧ TriedInv (stepping (.enrollTruck 1 1)) ∧
    DeadlineInv (stepping (.enrollTruck 1 1)) := by
  have e : (stepping (.enrollTruck 1 1)).trucks = [] := rfl
  have f : (stepping (.enrollTruck 1 1)).orders = [] := rfl
  exact ⟨stepping_tables _, ⟨_, rfl⟩, by simp [SlotsInv, e], by simp [TriedInv, f], .nil, by simp [e]⟩

theorem flying_tables : TablesInv { flying with pending := [.reply header0 [2] []] } := by
  refine ⟨?_, ?_, ?_, ?_, by decide +kernel, by decide, by decide, by decide, by decide, by decide, by decide, by decide⟩ <;>
    unfold ascending <;> decide +kernel

theorem witness_StepKeepsQueues :
    TablesInv { flying with pending := [.reply header0 [2] []] } ∧ QueuesInv { flying with pending := [.reply header0 [2] []] } ∧
    ∃ t, step { flying with pending := [.reply header0 [2] []] } = .next t :=
  ⟨flying_tables, flying_queues, _, rfl⟩

theorem witness_StepKeepsUnattendedRule :
    UnattendedInv (stepping (.enrollTruck 1 1)) ∧ ∃ t, step (stepping (.enrollTruck 1 1)) = .next t := by
  have e : (stepping (.enrollTruck 1 1)).trucks = [] := rfl
  exact ⟨⟨.nil, .nil, by simp [e], by simp [e], fun _ => rfl⟩, _, rfl⟩

/-- Point 1 named by one permit, with its hold. -/
def held1 : State :=
  { asking (pm 1 1 .isolating [stp 1 .open .done] []) { pt 1 .open with holds := [{ permit := 1, position := .open }] } with
    pending := [.setPoint 1 1 1] }

theorem witness_StepKeepsPoints : RefCountInv held1 ∧ HoldsInv held1 ∧ ∃ t, step held1 = .next t := by
  refine ⟨⟨?_, ?_, by decide +kernel, by decide +kernel⟩, ⟨?_, ?_⟩, _, rfl⟩
  · unfold ascending; decide +kernel
  · unfold ascending; decide +kernel
  · unfold ascending; decide +kernel
  · intro q hq
    obtain rfl := List.mem_singleton.mp hq
    exact ⟨by decide, by decide, .open, by decide⟩

theorem witness_StepKeepsAirRules :
    BandInv sited ∧ SitesInv sited ∧ SchedulerInv sited ∧ ∃ t, step { sited with pending := [.clearSite 1 2] } = .next t := by
  refine ⟨⟨by decide, ⟨by decide, by decide, by decide⟩, nofun, by decide, by decide, fun _ => by decide⟩, sited_sites,
    ⟨nofun, nofun, nofun⟩, _, rfl⟩

theorem witness_PermitsOnlyMoveForward :
    CausesInv held1 ∧ ∃ t p q, step held1 = .next t ∧ permitOf held1 1 = some p ∧ permitOf t 1 = some q ∧ q.state.isOpen = true ∧
      (∀ tag, held1.pending.head? ≠ some (.resumePermit tag 1)) := by
  refine ⟨⟨?_, by decide +kernel, by decide +kernel⟩, _, _, _, rfl, rfl, rfl, rfl, fun _ => nofun⟩
  unfold ascending; decide +kernel

/-- A CLOSE_ALARM takes a context out of ALARM, SET_POINT moves a point, RESUME attends the console, a lapse leaves it, and a
truck that has been heard stays so. -/
theorem witness_OnlyTheseCommandsMayChange :
    let s : State := { crew [{ tk 1 with w1 := wt .alarm }] with pending := [.closeAlarm 1 1 1] }
    let u : State := { base with sup := { base.sup with console := .unattended }, pending := [.resume 1] }
    let l : State := { base with sup := { base.sup with lapse := some 1000 }, pending := [.lapse] }
    let next (s : State) : State := match step s with
      | .next t => t
      | _ => s
    ((truckOf s 1).map (fun k => (k.watch 1).state) = some .alarm ∧ (truckOf (next s) 1).map (fun k => (k.watch 1).state) = some .idle ∧
      (truckOf s 1).map Truck.reach = some .reachable) ∧
    ((pointOf held1 1).map Point.position = some .open ∧ (pointOf (next held1) 1).map Point.position = some .closed) ∧
    (u.sup.console = .unattended ∧ (next u).sup.console = .attended) ∧
    (l.sup.console = .attended ∧ (next l).sup.console = .unattended) := by decide +kernel

end Sys2Proof.Tests
end

/-!
PROOFS. The requests of spec/02_work_orders.md and the queries of the tables. First what serving a request comes to and
what is read under a frame, then the records and slots of a truck, then the statements.
-/
namespace Sys2Proof.Machine

/-! ## Reads under a frame -/

theorem orderOf_of_keeps {l : List Field} {s t : State} (h : Keeps l s t) (n : Nat) (hl : .orders ∉ l := by decide) :
    orderOf t n = orderOf s n := congrArg (findBy Order.num n) (h .orders hl)

theorem truckOf_of_keeps {l : List Field} {s t : State} (h : Keeps l s t) (n : Nat) (hl : .trucks ∉ l := by decide) :
    truckOf t n = truckOf s n := congrArg (findBy Truck.num n) (h .trucks hl)

theorem permitOf_of_keeps {l : List Field} {s t : State} (h : Keeps l s t) (hl : .permits ∉ l := by decide) :
    permitOf t = permitOf s := funext fun n => congrArg (findBy Permit.num n) (h .permits hl)

/-- Two states that agree outside trucks, orders and the arbiter's occasion. -/
theorem eq_of_keeps_ordersTrucks {s v : State} (h : Keeps [.trucks, .orders, .askArb] s v) :
    v = { s with trucks := v.trucks, orders := v.orders, askArb := v.askArb } := by
  obtain ⟨⟩ := v
  simp only [State.mk.injEq, true_and]
  exact ⟨h .clock (by decide), h .held (by decide), h .port (by decide), h .sup (by decide), h .permits (by decide),
    h .points (by decide), h .asks (by decide), h .timeouts (by decide), h .air (by decide), h .sites (by decide),
    h .policy (by decide), h .graces (by decide), h .load (by decide), h .choices (by decide), h .pending (by decide)⟩

/-! ## Frames of the slot operations and of the stops an order brings (R12, R31) -/

theorem takeOrderSlot_keeps (s : State) (t n : Nat) : Keeps [.trucks] s (takeOrderSlot s t n) := modTruck_keeps s t _

theorem freeOrderSlot_keeps (s : State) (t n : Nat) : Keeps [.trucks] s (freeOrderSlot s t n) := modTruck_keeps s t _

theorem stopContext_keeps (s : State) (n seat : Nat) (why : WatchReason) :
    Keeps [.trucks, .port] s (stopContext s n seat why) :=
  ((modWatch_keeps s n seat _).to).trans
    (((removePrompt_keeps _ n seat _).to).trans ((postWatchState_keeps _ n seat why).to))

theorem stopIfStarted_keeps (s : State) (n seat order : Nat) : Keeps [.trucks, .port] s (stopIfStarted s n seat order) := by
  unfold stopIfStarted
  split
  · split
    · split
      · exact stopContext_keeps s n seat _
      · exact stopContext_keeps s n seat _
      · exact (modWatch_keeps s n seat _).to
      · exact .refl _ s
    · exact .refl _ s
  · exact .refl _ s

theorem stopForOrder_keeps (s : State) (n order : Nat) : Keeps [.trucks, .port] s (stopForOrder s n order) :=
  (stopIfStarted_keeps s n 1 order).trans (stopIfStarted_keeps _ n 2 order)

/-! ## A request between events -/

/-- An event that gave the arbiter no occasion leaves nothing to settle (R143). -/
theorem settleEvent_of_quiet {s : State} (h : s.askArb = false) : settleEvent s = s := by
  obtain ⟨⟩ := s
  simp only at h
  subst h
  rfl

/-- A reply changes the armed window and the console port alone (R172, R178). -/
theorem answered_keeps (s : State) (k tag : Nat) (c : Result) (b : ReplyBody) :
    Keeps [.sup, .port] s (answered s k tag c b) := (armWindow_keeps s).to.trans (attach_keeps _ k tag _).to

theorem answered_askArb (s : State) (k tag : Nat) (c : Result) (b : ReplyBody) :
    (answered s k tag c b).askArb = s.askArb := answered_keeps s k tag c b .askArb (by decide)

/-- A request that is served leaves its effects on the state with the reply in the buffer (R172, R178). -/
theorem request_answered {s : State} (h : Ready s) (k tag : Nat) (f : State → Served) {c : Result} {b : ReplyBody}
    (ha : (f (armWindow s)).2 = { code := c, body := b }) :
    request k tag f s = .next (settleEvent (f (answered s k tag c b)).1) := by
  obtain ⟨hheld, -, hrun, hroom⟩ := h
  rw [request_served k tag f hheld hrun hroom, ha]
  rfl

/-- A request whose owner leaves the state with the reply as it is: nothing but the reply and the armed window. -/
theorem request_unchanged {s : State} (h : Ready s) (k tag : Nat) (f : State → Served) {c : Result} {b : ReplyBody}
    (ha : (f (armWindow s)).2 = { code := c, body := b })
    (hs : (f (answered s k tag c b)).1 = answered s k tag c b) :
    request k tag f s = .next (answered s k tag c b) := by
  have hquiet : (answered s k tag c b).askArb = false := by
    rw [answered_askArb]
    exact h.2.1
  rw [request_answered h k tag f ha, hs, settleEvent_of_quiet hquiet]

section
variable {s : State} {k tag : Nat} {f : State → Served} {c : Result}

/-- A request whose owner answers and acts alike before and behind the reply: its effects on the state with the reply. -/
theorem request_carried {b : ReplyBody} {g : State → State} (h : Ready s)
    (hf : ∀ u, Keeps [.sup, .port] s u → f u = (g u, { code := c, body := b })) :
    request k tag f s = .next (settleEvent (g (answered s k tag c b))) := by
  rw [request_answered h k tag f (congrArg Prod.snd (hf _ (armWindow_keeps s).to)), hf _ (answered_keeps s k tag c b)]

/-- Effects that give the arbiter no occasion leave nothing to settle (R143). -/
theorem request_carried_quiet {b : ReplyBody} {g : State → State} (h : Ready s)
    (hf : ∀ u, Keeps [.sup, .port] s u → f u = (g u, { code := c, body := b })) (hg : ∀ u, (g u).askArb = u.askArb) :
    request k tag f s = .next (g (answered s k tag c b)) := by
  have hquiet : (g (answered s k tag c b)).askArb = false := (hg _).trans ((answered_askArb s k tag c b).trans h.2.1)
  rw [request_carried h hf, settleEvent_of_quiet hquiet]

/-- A request refused both before and behind its reply is refused (R179). -/
theorem refuses_of_refuse {i : Instr} (h : Ready s) (hk : kindTag i = some (k, tag)) (hi : exec i s = request k tag f s)
    (hf : ∀ u, Keeps [.sup, .port] s u → f u = refuse u c) : Refuses i s c := by
  have ha : (f (armWindow s)).2 = { code := c, body := .none } := by rw [hf _ (armWindow_keeps s).to]; rfl
  have hs : (f (answered s k tag c .none)).1 = answered s k tag c .none := by rw [hf _ (answered_keeps s k tag c _)]; rfl
  exact ⟨k, tag, hk, hi.trans (request_unchanged h k tag f ha hs)⟩

end

/-! ## Records and slots of a truck -/

theorem truckOf_freeOrderSlot (s : State) (t n m : Nat) :
    truckOf (freeOrderSlot s t n) m =
      (truckOf s m).map fun k => if m = t then { k with orderSlots := k.orderSlots.filter (· != n) } else k :=
  truckOf_modTruck s t m _ fun _ hk => hk

theorem truckOf_dropRec (s : State) (t m : Nat) (x : Subject) :
    truckOf (dropRec s t x) m =
      (truckOf s m).map fun k => if m = t then { k with queue := afterLeaving k.queue x } else k :=
  truckOf_modTruck s t m _ fun _ hk => hk

/-- A record given for a truck leaves the other trucks as they are, placed or not. -/
theorem truckOf_give_ne (s : State) {t m : Nat} (c : Content) (hm : m ≠ t) : truckOf (give s t c) m = truckOf s m := by
  cases hc : canGive s t c.subject with
  | false => rw [give_refused hc]
  | true =>
    unfold canGive at hc
    split at hc
    · obtain ⟨_, _, -, hother, -⟩ := give_taken ‹_› hc
      exact hother m hm
    · exact absurd hc (by decide)

/-- The record of an order's subject is an ORDER record, so the Order Manager sees it where the queue has it. -/
theorem orderRecIn_isSome {s : State} {t : Nat} {k : Truck} (hk : truckOf s t = some k) (n : Nat) :
    (orderRecIn s t n).isSome = (recFor k.queue (.order n)).isSome := by
  have he : recOf s t (.order n) = recFor k.queue (.order n) := by simp [recOf, hk]
  unfold orderRecIn
  rw [he]
  cases hr : recFor k.queue (.order n) with
  | none => rfl
  | some r =>
    have hsubject : r.content.subject = .order n := (recFor_some hr).1
    cases hcontent : r.content with
    | order c => simp [hcontent]
    | _ => simp [hcontent, Content.subject] at hsubject

/-- A queue takes a record for a subject it holds, or any record while it holds fewer than 12 (R114). -/
theorem canGive_iff {s : State} {t : Nat} {k : Truck} {x : Subject} (hk : truckOf s t = some k) :
    canGive s t x = true ↔ (recFor k.queue x).isSome = true ∨ k.queue.length < 12 := by
  simp [canGive, hk, Truck.canTake]

/-- A given ORDER record carries the order as it stands, under some note (R24). -/
theorem giveOrder_eq {s : State} {n : Nat} {o : Order} (ho : orderOf s n = some o) (t : Nat) (d : Disposition) (b : Bool) :
    ∃ note, giveOrder s t n d b = give s t (.order (orderContent o d note)) := by
  simp only [giveOrder, ho]
  exact ⟨_, rfl⟩

theorem canGive_of_keeps {l : List Field} {s t : State} (h : Keeps l s t) (n : Nat) (x : Subject)
    (hl : .trucks ∉ l := by decide) : canGive t n x = canGive s n x := by
  unfold canGive
  rw [truckOf_of_keeps h n hl]

/-- A change of a truck that keeps its number and its queue keeps what its queue can take. -/
theorem canGive_modTruck (s : State) (n m : Nat) (x : Subject) (f : Truck → Truck)
    (hf : ∀ t, (f t).num = t.num ∧ (f t).queue = t.queue) : canGive (modTruck s n f) m x = canGive s m x := by
  have hnum : ∀ t : Truck, t.num = n → (f t).num = n := fun t ht => (hf t).1.trans ht
  unfold canGive
  rw [truckOf_modTruck s n m f hnum]
  cases truckOf s m with
  | none => rfl
  | some t =>
    by_cases hm : m = n
    · simp [hm, Truck.canTake, (hf t).2]
    · simp [hm]

theorem canGive_takeOrderSlot (s : State) (t n m : Nat) (x : Subject) :
    canGive (takeOrderSlot s t n) m x = canGive s m x := by
  refine canGive_modTruck s t m x _ fun k => ?_
  split
  · exact ⟨rfl, rfl⟩
  · split <;> exact ⟨rfl, rfl⟩

/-! ## Notices and tables -/

/-- Which frame CTX takes next does not depend on the order table (R179). -/
theorem kick_withOrders (s : State) (l : List Order) : kick { s with orders := l } = { kick s with orders := l } := by
  have hflow : flowOpen { s with orders := l } = flowOpen s := rfl
  unfold kick
  rw [hflow]
  dsimp only
  split
  · rfl
  · split
    · rfl
    · split
      · split <;> rfl
      · rfl

/-- A notice does not depend on the order table it is posted over. -/
theorem post_modOrder (s : State) (n : Nat) (f : Order → Order) (b : NoticeBody) :
    post (modOrder s n f) b = modOrder (post s b) n f := by
  have horders : (post s b).orders = s.orders := post_keeps s b .orders (by decide)
  unfold modOrder
  rw [horders]
  exact kick_withOrders { s with port := s.port.enqueue { stamp := stamp s s.now, body := b } } _

/-- An order changed and then announced is announced as changed. -/
theorem postOrderState_modOrder {s : State} {n : Nat} {o : Order} {f : Order → Order} (ho : orderOf s n = some o)
    (hf : ∀ r, r.num = n → (f r).num = n) :
    postOrderState (modOrder s n f) n = modOrder (post s (.orderState n (f o).state (f o).assigned)) n f := by
  have hchanged : orderOf (modOrder s n f) n = some (f o) := by simp [orderOf_modOrder s n n f hf, ho]
  simp only [postOrderState, hchanged, post_modOrder]

/-! ## The queries of the tables (R3, R36, R87, R111, R130) -/

/-- A request that looks the record `n` up: NOT_FOUND without one, otherwise its report. -/
def lookup {α : Type} (find : State → Nat → Option α) (report : State → α → ReplyBody) (n : Nat) (s : State) :
    Served :=
  match find s n with
  | none => refuse s .notFound
  | some r => (s, { code := .ok, body := report s r })

section
variable {α : Type} {find : State → Nat → Option α} {n : Nat} {s : State}

theorem lookup_none (report : State → α → ReplyBody) (h : find s n = none) :
    lookup find report n s = (s, { code := .notFound, body := .none }) := by
  simp [lookup, h, refuse]

theorem lookup_some (report : State → α → ReplyBody) {r : α} (h : find s n = some r) :
    lookup find report n s = (s, { code := .ok, body := report s r }) := by
  simp [lookup, h]

theorem lookup_state (find : State → Nat → Option α) (report : State → α → ReplyBody) (n : Nat) (s : State) :
    (lookup find report n s).1 = s := by
  unfold lookup; split <;> rfl

end

theorem queryTruck_eq_lookup : queryTruck = lookup truckOf fun s t => .truck (truckReport s t) := by
  funext n s; unfold queryTruck lookup; cases truckOf s n <;> rfl

theorem queryOrder_eq_lookup : queryOrder = lookup orderOf fun s o => .order (orderReport s o) := by
  funext n s; unfold queryOrder lookup; cases orderOf s n <;> rfl

theorem queryPermit_eq_lookup : queryPermit = lookup permitOf fun s p => .permit (permitReport s p) := by
  funext n s; unfold queryPermit lookup; cases permitOf s n <;> rfl

theorem queryPoint_eq_lookup : queryPoint = lookup pointOf fun s q => .point (pointReport s q) := by
  funext n s; unfold queryPoint lookup; cases pointOf s n <;> rfl

theorem queryQueue_eq_lookup : queryQueue = lookup truckOf fun s t => .queue (queueReport s t) := by
  funext n s; unfold queryQueue lookup; cases truckOf s n <;> rfl

/-- The command `c`, a request of kind `k`, reports the record found: refused with NOT_FOUND without one, otherwise OK with
the report, and nothing but the reply and the armed window changes. -/
structure Reports {α : Type} (c : Instr) (s : State) (k tag : Nat) (found : Option α) (report : α → ReplyBody) :
    Prop where
  refused : found = none → Refuses c s .notFound
  reported : ∀ r, found = some r → exec c s = .next (answered s k tag .ok (report r))

/-- A looking-up request whose record and report do not read the armed window reports the record. -/
theorem reports_of_lookup {α : Type} {c : Instr} {s : State} {k tag n : Nat} {find : State → Nat → Option α}
    {report : State → α → ReplyBody} {f : Nat → State → Served} (h : Ready s) (hk : kindTag c = some (k, tag))
    (hc : exec c s = request k tag (f n) s) (hl : f = lookup find report) (hf : find (armWindow s) n = find s n)
    (hr : report (armWindow s) = report s) : Reports c s k tag (find s n) (report s) := by
  subst hl
  have key {code : Result} {body : ReplyBody}
      (ha : (lookup find report n (armWindow s)).2 = { code := code, body := body }) :
      exec c s = .next (answered s k tag code body) :=
    hc.trans (request_unchanged h k tag _ ha (lookup_state find report n _))
  constructor
  · intro hs
    exact ⟨k, tag, hk, key (by rw [lookup_none report (hf.trans hs)])⟩
  · intro r hs
    exact key (by rw [lookup_some report (hf.trans hs), hr])

theorem queryTruck_reports {s : State} (h : Ready s) (tag n : Nat) :
    Reports (.queryTruck tag n) s 0x03 tag (truckOf s n) fun t => .truck (truckReport s t) :=
  reports_of_lookup h rfl rfl queryTruck_eq_lookup rfl rfl

theorem queryOrder_reports {s : State} (h : Ready s) (tag n : Nat) :
    Reports (.queryOrder tag n) s 0x09 tag (orderOf s n) fun o => .order (orderReport s o) :=
  reports_of_lookup h rfl rfl queryOrder_eq_lookup rfl rfl

theorem queryPermit_reports {s : State} (h : Ready s) (tag n : Nat) :
    Reports (.queryPermit tag n) s 0x16 tag (permitOf s n) fun p => .permit (permitReport s p) :=
  reports_of_lookup h rfl rfl queryPermit_eq_lookup rfl rfl

theorem queryPoint_reports {s : State} (h : Ready s) (tag n : Nat) :
    Reports (.queryPoint tag n) s 0x1B tag (pointOf s n) fun q => .point (pointReport s q) :=
  reports_of_lookup h rfl rfl queryPoint_eq_lookup rfl rfl

theorem queryQueue_reports {s : State} (h : Ready s) (tag n : Nat) :
    Reports (.queryQueue tag n) s 0x1E tag (truckOf s n) fun t => .queue (queueReport s t) :=
  reports_of_lookup h rfl rfl queryQueue_eq_lookup rfl rfl

/-- A permit has a pending request exactly where some entry of the list carries its number (R98). -/
theorem askOf_isSome (s : State) (n : Nat) : (askOf s n).isSome = s.asks.any fun a => a.permit == n := by
  rw [Bool.eq_iff_iff]
  simp [askOf]

/-- The VERIFY steps reported of a point are those ANSWERED or EXECUTING on it, of every permit (R111). -/
theorem mem_verifySteps {s : State} {n : Nat} {b : BusyMark} :
    b ∈ verifySteps s n ↔ ∃ p ∈ s.permits, p.num = b.permit ∧ ∃ x, (b.step, x) ∈ p.steps ∧ x.point = n ∧
      x.action = .verify ∧ (x.state = .answered ∨ x.state = .executing) := by
  obtain ⟨permit, step⟩ := b
  simp only [verifySteps, List.mem_flatMap, List.mem_map, List.mem_filter, Bool.and_eq_true, Bool.or_eq_true, beq_iff_eq,
    Prod.exists, BusyMark.mk.injEq]
  constructor
  · rintro ⟨p, hp, i, x, ⟨hx, ⟨hpoint, hverify⟩, hstate⟩, hnum, rfl⟩
    exact ⟨p, hp, hnum, x, hx, hpoint, hverify, hstate⟩
  · rintro ⟨p, hp, hnum, x, hx, hpoint, hverify, hstate⟩
    exact ⟨p, hp, step, x, ⟨hx, ⟨hpoint, hverify⟩, hstate⟩, hnum, rfl⟩

/-- Settles O13: each query is a look-up, and only the reports of a permit and of a point are worded otherwise. -/
theorem tableQueriesReportRecord : Obligations.TableQueriesReportRecord := by
  unfold Obligations.TableQueriesReportRecord
  intro s tag n h
  refine ⟨?truck, ?order, ?permit, ?point, ?queue⟩
  case truck =>
    obtain ⟨hnone, hsome⟩ := queryTruck_reports h tag n
    split
    · exact hnone ‹_›
    · exact hsome _ ‹_›
  case order =>
    obtain ⟨hnone, hsome⟩ := queryOrder_reports h tag n
    split
    · exact hnone ‹_›
    · exact hsome _ ‹_›
  case permit =>
    obtain ⟨hnone, hsome⟩ := queryPermit_reports h tag n
    split
    · exact hnone ‹_›
    · simpa only [permitReport, askOf_isSome] using hsome _ ‹_›
  case point =>
    obtain ⟨hnone, hsome⟩ := queryPoint_reports h tag n
    split
    · exact hnone ‹_›
    · exact ⟨verifySteps s _, hsome _ ‹_›, fun _ => mem_verifySteps⟩
  case queue =>
    obtain ⟨hnone, hsome⟩ := queryQueue_reports h tag n
    split
    · exact hnone ‹_›
    · exact hsome _ ‹_›

/-! ## SET_OFFER_TIMEOUT (R38) -/

/-- An offer that the queue can take puts the order into OFFERED (R22). -/
theorem orderOf_makeOffer {s : State} {n t : Nat} {o : Order} (ho : orderOf s n = some o)
    (hc : canGive s t (.order n) = true) :
    orderOf (makeOffer s n t) n = some (o.offeredTo s.now s.timeouts.offer t) := by
  have hposted := postOrderState_keeps (modOrder (takeOrderSlot s t n) n (Order.offeredTo s.now s.timeouts.offer t)) n
  have hplace : canGive (postOrderState (modOrder (takeOrderSlot s t n) n
      (Order.offeredTo s.now s.timeouts.offer t)) n) t (.order n) = true := by
    rw [canGive_of_keeps hposted, canGive_of_keeps (modOrder_keeps _ n _), canGive_takeOrderSlot, hc]
  have hnum : ∀ r : Order, r.num = n → (r.offeredTo s.now s.timeouts.offer t).num = n := fun _ hr => hr
  unfold makeOffer
  dsimp only
  rw [if_pos hplace, orderOf_of_keeps (giveOrder_keeps _ t n _ _), orderOf_of_keeps hposted, orderOf_modOrder _ n n _ hnum,
    orderOf_of_keeps (takeOrderSlot_keeps s t n), ho]
  simp

/-- SET_OFFER_TIMEOUT sets the clamped value and answers CLAMPED where it differs (R38). -/
theorem exec_setOfferTimeout {s : State} (h : Ready s) (tag v : Nat) :
    exec (.setOfferTimeout tag v) s = .next
      { answered s 0x0A tag (if 30 ≤ v ∧ v ≤ 600 then .ok else .clamped) .none with
        timeouts := { s.timeouts with offer := clamp 30 600 v } } := by
  have hcode : okOr (clamp 30 600 v != v) = if 30 ≤ v ∧ v ≤ 600 then .ok else .clamped := by
    by_cases hv : clamp 30 600 v = v
    · simp [okOr, hv, (clamp_eq_self (by decide)).mp hv]
    · simp [okOr, hv, mt (clamp_eq_self (by decide)).mpr hv]
  have hcarried : exec (.setOfferTimeout tag v) s = _ :=
    request_carried_quiet (k := 0x0A) (tag := tag) (f := setOfferTimeout v)
      (g := fun u => { u with timeouts := { u.timeouts with offer := clamp 30 600 v } }) h (fun _ _ => rfl) fun _ => rfl
  rw [hcarried, hcode, answered_keeps s _ tag _ _ .timeouts (by decide)]

/-- A warm reset keeps the settings of the timeouts (R184). -/
theorem exec_warmReset_timeouts {s t : State} (h : exec .warmReset s = .next t) : t.timeouts = s.timeouts := by
  have hwarm : (warm s).timeouts = s.timeouts := startCycle_keeps true _ .timeouts (by decide)
  cases hs : s.held with
  | true =>
    obtain rfl := Host.Outcome.next.inj ((event_held _ hs).symm.trans h)
    rfl
  | false =>
    obtain rfl := Host.Outcome.next.inj ((event_live _ hs).symm.trans h)
    refine (settleEvent_keeps _ .timeouts (by decide)).trans ?_
    split
    · exact hwarm
    · rfl

/-- Settles O21: the value is clamped, an offer made takes its expiry from the setting in force, and the resets. -/
theorem setOfferTimeoutAppliesToLaterOffers : Obligations.SetOfferTimeoutAppliesToLaterOffers := by
  unfold Obligations.SetOfferTimeoutAppliesToLaterOffers
  refine ⟨fun s tag v h => exec_setOfferTimeout h tag v, fun s n t o ho hc => ?_, rfl, fun s t h => ?_⟩
  · exact ⟨_, orderOf_makeOffer ho hc, rfl⟩
  · exact congrArg Timeouts.offer (exec_warmReset_timeouts h)

/-! ## What the truck of a cancelled order is told (R32) -/

theorem tellCancelled_keeps (s : State) (o : Order) (t : Nat) : Keeps [.trucks, .askArb] s (tellCancelled s o t) := by
  unfold tellCancelled
  split
  · exact ((dropRec_keeps s t _).to).trans ((freeOrderSlot_keeps _ t _).to)
  · split
    · exact giveOrder_keeps s t _ _ _
    · exact (freeOrderSlot_keeps s t _).to

/-- No truck but the one assigned is told of a cancellation. -/
theorem truckOf_tellCancelled_ne {s : State} {c : Order} (o : Order) {t m : Nat} (hc : orderOf s o.num = some c)
    (hm : m ≠ t) : truckOf (tellCancelled s o t) m = truckOf s m := by
  unfold tellCancelled
  split
  · simp [truckOf_freeOrderSlot, truckOf_dropRec, hm]
  · split
    · obtain ⟨note, hgive⟩ := giveOrder_eq hc t .cancelled false
      rw [hgive, truckOf_give_ne s _ hm]
    · simp [truckOf_freeOrderSlot, hm]

section
variable {s : State} {o c : Order} {t : Nat} {k : Truck}

/-- An offer that is still in the queue is removed with its slot. -/
theorem tellCancelled_undelivered (hk : truckOf s t = some k) (hoffered : o.state = .offered)
    (hrec : (recFor k.queue (.order o.num)).isSome = true) :
    truckOf (tellCancelled s o t) t = some { k with
      queue := without k.queue (.order o.num), orderSlots := k.orderSlots.filter (· != o.num) } := by
  have hcond : o.state = .offered ∧ (orderRecIn s t o.num).isSome = true :=
    ⟨hoffered, by rw [orderRecIn_isSome hk, hrec]⟩
  simp [tellCancelled, hcond, truckOf_freeOrderSlot, truckOf_dropRec, hk, afterLeaving]

/-- Otherwise a CANCELLED record is given where the queue can take one. -/
theorem tellCancelled_told (hk : truckOf s t = some k) (hc : orderOf s o.num = some c)
    (hnot : ¬((recFor k.queue (.order o.num)).isSome = true ∧ o.state = .offered))
    (hroom : (recFor k.queue (.order o.num)).isSome = true ∨ k.queue.length < 12) :
    ∃ k' r note, truckOf (tellCancelled s o t) t = some k' ∧ recFor k'.queue (.order o.num) = some r ∧
      r.content = .order (orderContent c .cancelled note) ∧
      (∀ x, x ≠ .order o.num → recFor k'.queue x = recFor k.queue x) ∧
      k' = { k with queue := k'.queue, seqCtr := k'.seqCtr } := by
  have hcond : ¬(o.state = .offered ∧ (orderRecIn s t o.num).isSome = true) := by
    rw [orderRecIn_isSome hk]
    exact fun h => hnot h.symm
  obtain ⟨note, hgive⟩ := giveOrder_eq hc t .cancelled false
  have hnum : c.num = o.num := (findBy_some hc).1
  have hsubject : (Content.order (orderContent c .cancelled note)).subject = .order o.num := congrArg Subject.order hnum
  have htake : k.canTake (Content.order (orderContent c .cancelled note)).subject = true := by
    rw [hsubject]
    simpa [Truck.canTake] using hroom
  obtain ⟨k', r, htruck, -, hcontent, -, -, -, hframe, hrecs, -⟩ := give_taken hk htake
  rw [hsubject] at hrecs
  refine ⟨k', r, note, ?_, by rw [hrecs, if_pos rfl], hcontent, fun x hx => by rw [hrecs, if_neg hx], ?_⟩
  · rw [tellCancelled, if_neg hcond, if_pos ((canGive_iff hk).mpr hroom), hgive, htruck]
  · rw [hframe]

/-- With the queue full and no record for the order in it the slot is freed. -/
theorem tellCancelled_noRoom (hk : truckOf s t = some k)
    (hfull : ¬((recFor k.queue (.order o.num)).isSome = true ∨ k.queue.length < 12)) :
    truckOf (tellCancelled s o t) t = some { k with orderSlots := k.orderSlots.filter (· != o.num) } := by
  have hcond : ¬(o.state = .offered ∧ (orderRecIn s t o.num).isSome = true) := by
    rw [orderRecIn_isSome hk]
    exact fun h => hfull (.inl h.2)
  rw [tellCancelled, if_neg hcond, if_neg (mt (canGive_iff hk).mp hfull)]
  simp [truckOf_freeOrderSlot, hk]

end

/-! ## CANCEL_ORDER (R32) -/

/-- The order as a cancellation leaves it: its offer timer stops (R32). -/
def Order.cancelledNow (o : Order) : Order := { o with state := .cancelled, offerExpiry := none }

/-- The state with the order CANCELLED and its notice posted, before its truck is told. -/
def cancelPosted (s : State) (o : Order) : State :=
  modOrder (post s (.orderState o.num .cancelled o.assigned)) o.num Order.cancelledNow

theorem postOrderState_cancelled {s : State} {o : Order} (ho : orderOf s o.num = some o) :
    postOrderState (modOrder s o.num Order.cancelledNow) o.num = cancelPosted s o :=
  postOrderState_modOrder ho fun _ hr => hr

theorem applyCancel_unassigned {s : State} {o : Order} (ho : orderOf s o.num = some o) (ha : o.assigned = none) :
    applyCancel s o = cancelPosted s o := by
  rw [← postOrderState_cancelled ho]
  unfold applyCancel
  rw [ha]
  rfl

theorem applyCancel_assigned {s : State} {o : Order} {t : Nat} (ho : orderOf s o.num = some o) (ha : o.assigned = some t) :
    applyCancel s o = stopForOrder (tellCancelled (cancelPosted s o) o t) t o.num := by
  rw [← postOrderState_cancelled ho]
  unfold applyCancel
  rw [ha]
  rfl

theorem cancelPosted_keeps (s : State) (o : Order) :
    Keeps [.orders] (post s (.orderState o.num .cancelled o.assigned)) (cancelPosted s o) := modOrder_keeps _ _ _

theorem orderOf_cancelPosted (s : State) (o : Order) (m : Nat) :
    orderOf (cancelPosted s o) m = (orderOf s m).map fun r => if m = o.num then r.cancelledNow else r := by
  rw [cancelPosted, orderOf_modOrder _ _ m Order.cancelledNow fun _ hr => hr, orderOf_of_keeps (post_keeps s _)]

theorem cancelPosted_trucks (s : State) (o : Order) : (cancelPosted s o).trucks = s.trucks :=
  (cancelPosted_keeps s o .trucks (by decide)).trans (post_keeps s _ .trucks (by decide))

theorem OrderState.isOpen_eq_false (x : OrderState) : x.isOpen = false ↔ x = .complete ∨ x = .cancelled := by
  cases x <;> simp [OrderState.isOpen]

/-- The permit that blocks an order is the linked one while it is neither CLOSED nor CANCELLED (R29, R32). -/
theorem openPermitOf_isSome (s : State) (o : Order) :
    (openPermitOf s o).isSome = (o.linked.bind (permitOf s)).any fun p => p.state.isOpen := by
  unfold openPermitOf
  split
  · next p hp => cases hopen : p.state.isOpen <;> simp [hp, hopen]
  · next hp => simp [hp]

/-- The order of a cancellation is CANCELLED behind the stops too, and every other order is as it was. -/
theorem orderOf_stopForOrder_tellCancelled (s : State) (o : Order) (t m : Nat) :
    orderOf (stopForOrder (tellCancelled (cancelPosted s o) o t) t o.num) m =
      (orderOf s m).map fun r => if m = o.num then r.cancelledNow else r := by
  rw [orderOf_of_keeps (stopForOrder_keeps _ t _), orderOf_of_keeps (tellCancelled_keeps _ o t), orderOf_cancelPosted]

section
variable {s : State} {n : Nat} {o : Order}

/-- CANCEL_ORDER of a number without an order (R32). -/
theorem cancelOrder_none (ho : orderOf s n = none) : cancelOrder n s = refuse s .notFound := by
  simp only [cancelOrder, ho]

/-- CANCEL_ORDER of an ended order and of one whose permit is open is refused; any other order is cancelled (R32). -/
theorem cancelOrder_some (ho : orderOf s n = some o) :
    cancelOrder n s =
      if o.state = .complete ∨ o.state = .cancelled then refuse s .wrongState
      else if ((o.linked.bind (permitOf s)).any fun p => p.state.isOpen) = true then refuse s .permitOpen
      else (applyCancel s o, { code := .ok, body := .none }) := by
  simp only [cancelOrder, ho, OrderState.isOpen_eq_false, openPermitOf_isSome]

/-- The order and the permits CANCEL_ORDER judges are not touched by its reply. -/
theorem cancelOrder_some_of_keeps {u : State} (ho : orderOf s n = some o) (hu : Keeps [.sup, .port] s u) :
    cancelOrder n u =
      if o.state = .complete ∨ o.state = .cancelled then refuse u .wrongState
      else if ((o.linked.bind (permitOf s)).any fun p => p.state.isOpen) = true then refuse u .permitOpen
      else (applyCancel u o, { code := .ok, body := .none }) := by
  rw [cancelOrder_some ((orderOf_of_keeps hu n).trans ho), permitOf_of_keeps hu]

theorem cancelOrder_refuses_notFound (h : Ready s) (tag : Nat) (ho : orderOf s n = none) :
    Refuses (.cancelOrder tag n) s .notFound :=
  refuses_of_refuse h rfl rfl fun _ hu => cancelOrder_none ((orderOf_of_keeps hu n).trans ho)

theorem cancelOrder_refuses_wrongState (h : Ready s) (tag : Nat) (ho : orderOf s n = some o)
    (hended : o.state = .complete ∨ o.state = .cancelled) : Refuses (.cancelOrder tag n) s .wrongState :=
  refuses_of_refuse h rfl rfl fun _ hu => (cancelOrder_some_of_keeps ho hu).trans (if_pos hended)

theorem cancelOrder_refuses_permitOpen (h : Ready s) (tag : Nat) (ho : orderOf s n = some o)
    (hended : ¬(o.state = .complete ∨ o.state = .cancelled))
    (hopen : ((o.linked.bind (permitOf s)).any fun p => p.state.isOpen) = true) :
    Refuses (.cancelOrder tag n) s .permitOpen :=
  refuses_of_refuse h rfl rfl fun _ hu =>
    (cancelOrder_some_of_keeps ho hu).trans ((if_neg hended).trans (if_pos hopen))

/-- An order that is not ended and has no open permit is cancelled behind the reply OK (R32). -/
theorem exec_cancelOrder (h : Ready s) (tag : Nat) (ho : orderOf s n = some o)
    (hended : ¬(o.state = .complete ∨ o.state = .cancelled))
    (hopen : ¬((o.linked.bind (permitOf s)).any fun p => p.state.isOpen) = true) :
    exec (.cancelOrder tag n) s = .next (settleEvent (applyCancel (answered s 0x07 tag .ok .none) o)) :=
  request_carried (g := (applyCancel · o)) h fun _ hu =>
    (cancelOrder_some_of_keeps ho hu).trans ((if_neg hended).trans (if_neg hopen))

end

/-- Settles O19: the three refusals, and of an order that is cancelled the cases of what its truck is told. -/
theorem cancelOrderTellsAssignedTruck : Obligations.CancelOrderTellsAssignedTruck := by
  unfold Obligations.CancelOrderTellsAssignedTruck
  intro s tag n h
  split
  · exact cancelOrder_refuses_notFound h tag ‹_›
  next o ho =>
  obtain rfl : o.num = n := (findBy_some ho).1
  split_ifs with hended hopen
  · exact cancelOrder_refuses_wrongState h tag ho hended
  · exact cancelOrder_refuses_permitOpen h tag ho hended hopen
  have hexec := exec_cancelOrder h tag ho hended hopen
  have ha := answered_keeps s 0x07 tag .ok .none
  generalize answered s 0x07 tag .ok .none = a at *
  have horder (m : Nat) : orderOf a m = orderOf s m := orderOf_of_keeps ha m
  have hao : orderOf a o.num = some o := (horder o.num).trans ho
  have htrucks : (cancelPosted a o).trucks = s.trucks := (cancelPosted_trucks a o).trans (ha .trucks (by decide))
  have htruck (m : Nat) : truckOf (cancelPosted a o) m = truckOf s m := congrArg (findBy Truck.num m) htrucks
  have hframe := cancelPosted_keeps a o
  cases hassigned : o.assigned with
  | none =>
    rw [hassigned] at hframe
    rw [applyCancel_unassigned hao hassigned] at hexec
    refine ⟨cancelPosted a o, cancelPosted a o, hexec, ?_, fun m hm => ?_, eq_of_keeps_ordersTrucks hframe.to,
      fun _ => ⟨rfl, htrucks⟩, nofun⟩
    · simp [orderOf_cancelPosted, hao, Order.cancelledNow, hassigned]
    · simp [orderOf_cancelPosted, hm, horder]
  | some t =>
    rw [hassigned] at hframe
    rw [applyCancel_assigned hao hassigned] at hexec
    have hposted : orderOf (cancelPosted a o) o.num = some o.cancelledNow := by simp [orderOf_cancelPosted, hao]
    refine ⟨_, tellCancelled (cancelPosted a o) o t, hexec, ?_, fun m hm => ?_,
      eq_of_keeps_ordersTrucks (hframe.to.trans (tellCancelled_keeps _ o t).to), nofun, ?_⟩
    · simp [orderOf_stopForOrder_tellCancelled, hao, Order.cancelledNow, hassigned]
    · simp [orderOf_stopForOrder_tellCancelled, hm, horder]
    rintro _ ⟨⟩
    refine ⟨rfl, fun m hm => (truckOf_tellCancelled_ne o hposted hm).trans (htruck m), fun k hk => ?_⟩
    have hk' : truckOf (cancelPosted a o) t = some k := (htruck t).trans hk
    split_ifs with hoffered hroom
    · obtain ⟨hrec, hstate⟩ := hoffered
      exact ⟨_, tellCancelled_undelivered hk' hstate hrec, by simp [recFor_without], rfl,
        fun x hx => by simp [recFor_without, hx], rfl⟩
    · exact tellCancelled_told (c := o.cancelledNow) hk' hposted hoffered hroom
    · exact tellCancelled_noRoom hk' hroom

end Sys2Proof.Machine

/-!
PROOFS. The items PERMIT_ACCEPT and WORK_DONE of spec/04_switching_permits.md. First notices over states that agree where a
notice looks, then a permit that has moved and is announced, its entries into ISOLATING, RESTORING and CLOSED, and the
statement.
-/
namespace Sys2Proof.Machine

/-! ## Notices over states that agree -/

theorem Field.same_symm {f : Field} {s t : State} (h : f.same s t) : f.same t s := by
  cases f <;> exact Eq.symm h

theorem Keeps.withPort {l : List Field} {s u : State} (h : Keeps l s u) (p : Port) :
    Keeps l { s with port := p } { u with port := p } := by
  intro f hf
  cases f
  case port => rfl
  all_goals exact h _ hf

section
variable {l : List Field} {s u : State}

/-- Which frame CTX takes next is a matter of the port, the Console Supervisor and the clock (R179). -/
theorem kick_port_of_keeps (h : Keeps l s u) (hl : .port ∉ l ∧ .sup ∉ l ∧ .clock ∉ l) : (kick u).port = (kick s).port := by
  obtain ⟨hlport, hlsup, hlclock⟩ := hl
  have hport : u.port = s.port := h .port hlport
  have hsup : u.sup = s.sup := h .sup hlsup
  have hclock : u.clock = s.clock := h .clock hlclock
  have hflow : flowOpen u = flowOpen s := by
    unfold flowOpen State.now
    rw [hsup, hclock]
  unfold kick
  rw [hport, hflow]
  split
  · exact hport
  · split
    · rfl
    · split
      · split
        · rfl
        · exact hport
      · exact hport

/-- States that agree in the port, the Console Supervisor and the clock agree as much behind a notice (R179, R180). -/
theorem Keeps.post (h : Keeps l s u) (b : NoticeBody) (hl : .port ∉ l ∧ .sup ∉ l ∧ .clock ∉ l := by decide) :
    Keeps l (post s b) (post u b) := by
  intro f hf
  by_cases hfport : f = .port
  · subst hfport
    have hport : u.port = s.port := h .port hl.1
    have hclock : u.clock = s.clock := h .clock hl.2.2
    have hstamp : stamp u u.now = stamp s s.now := by simp only [stamp, State.now, hclock]
    have hkick := kick_port_of_keeps (h.withPort (s.port.enqueue { stamp := stamp s s.now, body := b })) hl
    unfold Machine.post
    rw [hport, hstamp]
    exact hkick
  · have hpost (x : State) : f.same x (Machine.post x b) := post_keeps x b f (by simpa using hfport)
    exact Field.same_trans (Field.same_symm (hpost s)) (Field.same_trans (h f hf) (hpost u))

end

/-- Two states that agree outside trucks, permits, points and the arbiter's occasion. -/
theorem eq_of_keeps_permitsPoints {s v : State} (h : Keeps [.trucks, .permits, .points, .askArb] s v) :
    v = { s with permits := v.permits, trucks := v.trucks, points := v.points, askArb := v.askArb } := by
  obtain ⟨⟩ := v
  simp only [State.mk.injEq, true_and]
  exact ⟨h .clock (by decide), h .held (by decide), h .port (by decide), h .sup (by decide), h .orders (by decide),
    h .asks (by decide), h .timeouts (by decide), h .air (by decide), h .sites (by decide), h .policy (by decide),
    h .graces (by decide), h .load (by decide), h .choices (by decide), h .pending (by decide)⟩

/-- Two states that agree outside trucks, permits and the arbiter's occasion. -/
theorem eq_of_keeps_permitsTrucks {s v : State} (h : Keeps [.trucks, .permits, .askArb] s v) :
    v = { s with permits := v.permits, trucks := v.trucks, askArb := v.askArb } := by
  have hpoints : v.points = s.points := h .points (by decide)
  exact (eq_of_keeps_permitsPoints h.to).trans (by rw [hpoints])

/-! ## The PERMIT record and the PERMIT_STATE notice (R69, R72) -/

theorem setPermitState_keeps (s : State) (n : Nat) (st : PermitState) : Keeps [.permits] s (setPermitState s n st) :=
  modPermit_keeps s n _

theorem postPermitState_keeps (s : State) (n : Nat) : Keeps [.port] s (postPermitState s n) := by
  unfold postPermitState
  split
  · exact post_keeps s _
  · exact .refl _ s

theorem permitOf_setPermitState (s : State) (n m : Nat) (st : PermitState) :
    permitOf (setPermitState s n st) m = (permitOf s m).map fun p => if m = n then { p with state := st } else p :=
  permitOf_modPermit s n m _ fun _ hp => hp

/-- A PERMIT record given for a truck whose queue can take it is fresh, and nothing else of the truck changes but the
sequence counter (R72, R114). -/
theorem truckOf_give_permit {s : State} {t : Nat} {k : Truck} {c : PermitContent} (hk : truckOf s t = some k)
    (hroom : (recFor k.queue (.permit c.num)).isSome = true ∨ k.queue.length < 12) :
    ∃ k' r, truckOf (give s t (.permit c)) t = some k' ∧ k' = { k with queue := k'.queue, seqCtr := k'.seqCtr } ∧
      recFor k'.queue (.permit c.num) = some r ∧ r.content = .permit c ∧ r.attempts = 0 ∧ r.inFlight = false ∧
      ∀ x, x ≠ .permit c.num → recFor k'.queue x = recFor k.queue x := by
  have htake : k.canTake (Content.permit c).subject = true := by simpa [Truck.canTake, Content.subject] using hroom
  obtain ⟨k', r, htruck, -, hcontent, -, hattempts, hflight, hframe, hrecs, -⟩ := give_taken hk htake
  exact ⟨k', r, htruck, by rw [hframe], (hrecs _).trans (if_pos rfl), hcontent, hattempts, hflight,
    fun x hx => (hrecs x).trans (if_neg hx)⟩

section
variable {s : State} {n : Nat} {q : Permit} (hq : permitOf s n = some q)
include hq

theorem givePermit_eq : givePermit s n = give s q.holder (.permit (permitContent q)) := by
  simp only [givePermit, hq]

theorem postPermitState_eq : postPermitState s n = post s (.permitState n q.state q.holder q.linked q.causes) := by
  simp only [postPermitState, hq]

/-- A permit announced: its record given as it stands, then its notice posted. -/
theorem announce_eq : postPermitState (givePermit s n) n =
    post (give s q.holder (.permit (permitContent q))) (.permitState n q.state q.holder q.linked q.causes) := by
  have hgiven : permitOf (givePermit s n) n = some q := by rw [permitOf_of_keeps (givePermit_keeps s n), hq]
  rw [postPermitState_eq hgiven, givePermit_eq hq]

end

/-! ## Entry into a state (R74, R76) -/

/-- `u` is `s` with permit `n`, which is `p` in `s`, moved to state `st`, its record brought up to date where its
holder's queue can take it, and PERMIT_STATE posted. -/
def Enters (s u : State) (n : Nat) (p : Permit) (st : PermitState) : Prop :=
  ∃ q, permitOf u n = some q ∧ q = { p with state := st } ∧ (∀ m, m ≠ n → permitOf u m = permitOf s m) ∧
    (∀ m, m ≠ p.holder → truckOf u m = truckOf s m) ∧
    (∀ k, truckOf s p.holder = some k → (recFor k.queue (.permit n)).isSome = true ∨ k.queue.length < 12 →
      ∃ k' r, truckOf u p.holder = some k' ∧ k' = { k with queue := k'.queue, seqCtr := k'.seqCtr } ∧
        recFor k'.queue (.permit n) = some r ∧ r.content = .permit (permitContent q) ∧ r.attempts = 0 ∧
        r.inFlight = false ∧ ∀ x, x ≠ .permit n → recFor k'.queue x = recFor k.queue x) ∧
    u = { posted s [.permitState n st p.holder p.linked p.causes] with
      permits := u.permits, trucks := u.trucks, askArb := u.askArb }

theorem permitOf_announce_setPermitState (s : State) (n m : Nat) (st : PermitState) :
    permitOf (postPermitState (givePermit (setPermitState s n st) n) n) m =
      (permitOf s m).map fun p => if m = n then { p with state := st } else p := by
  rw [permitOf_of_keeps (postPermitState_keeps _ n), permitOf_of_keeps (givePermit_keeps _ n), permitOf_setPermitState]

section
variable {s : State} {n : Nat} {p : Permit} (hp : permitOf s n = some p) (st : PermitState)
include hp

theorem permitOf_setPermitState_self : permitOf (setPermitState s n st) n = some { p with state := st } := by
  simp [permitOf_setPermitState, hp]

/-- A permit moved and announced: the state is the one with the notice posted, but for permits, trucks and the arbiter. -/
theorem announce_setPermitState_keeps :
    Keeps [.trucks, .permits, .askArb] (post s (.permitState n st p.holder p.linked p.causes))
      (postPermitState (givePermit (setPermitState s n st) n) n) := by
  rw [announce_eq (permitOf_setPermitState_self hp st)]
  exact Keeps.post ((setPermitState_keeps s n st).to.trans (give_keeps _ _ _).to) _

theorem truckOf_announce_setPermitState (m : Nat) :
    truckOf (postPermitState (givePermit (setPermitState s n st) n) n) m =
      truckOf (give (setPermitState s n st) p.holder (.permit (permitContent { p with state := st }))) m := by
  rw [truckOf_of_keeps (postPermitState_keeps _ n), givePermit_eq (permitOf_setPermitState_self hp st)]

/-- A permit moved and announced has entered its state. -/
theorem enters_announce : Enters s (postPermitState (givePermit (setPermitState s n st) n) n) n p st := by
  have hmoved (m : Nat) : truckOf (setPermitState s n st) m = truckOf s m := truckOf_of_keeps (setPermitState_keeps s n st) m
  obtain rfl : p.num = n := (findBy_some hp).1
  refine ⟨_, ?_, rfl, fun m hm => ?_, fun m hm => ?_, fun k hk hroom => ?_,
    eq_of_keeps_permitsTrucks (announce_setPermitState_keeps hp st)⟩
  · simp [permitOf_announce_setPermitState, hp]
  · simp [permitOf_announce_setPermitState, hm]
  · rw [truckOf_announce_setPermitState hp, truckOf_give_ne _ _ hm, hmoved]
  · rw [truckOf_announce_setPermitState hp]
    exact truckOf_give_permit ((hmoved p.holder).trans hk) hroom

/-- Where the holder's queue can take no PERMIT record, a move leaves every truck as it was. -/
theorem truckOf_announce_of_full (hfull : canGive s p.holder (.permit n) = false) (m : Nat) :
    truckOf (postPermitState (givePermit (setPermitState s n st) n) n) m = truckOf s m := by
  obtain rfl : p.num = n := (findBy_some hp).1
  have hrefused : canGive (setPermitState s p.num st) p.holder (.permit p.num) = false :=
    (canGive_of_keeps (setPermitState_keeps s _ st) p.holder _).trans hfull
  rw [truckOf_announce_setPermitState hp, give_refused hrefused, truckOf_of_keeps (setPermitState_keeps s _ st)]

end

/-! ## Entry into ISOLATING and the cause SITE (R74, R83) -/

section
variable {s : State} {n : Nat} {p : Permit} (hp : permitOf s n = some p)
include hp

/-- A cause is added once (R78). -/
theorem addCause_of_has {c : Cause} (hc : p.causes.has c = true) : addCause s n c = s := by
  simp [addCause, hp, hc]

/-- A cause that is not in the set is not removed (R84). -/
theorem removeCause_of_not_has {c : Cause} (hc : p.causes.has c = false) : removeCause s n c = s := by
  simp [removeCause, hp, hc]

/-- The cause SITE is evaluated for the permit as it is in ISOLATING, by the condition of its holder. -/
theorem enterIsolating_eq :
    enterIsolating s n = postPermitState (givePermit (if siteCondition s p.holder = true
      then addCause (setPermitState s n .isolating) n .site
      else removeCause (setPermitState s n .isolating) n .site) n) n := by
  have hmoved := permitOf_setPermitState_self hp .isolating
  have hcondition : siteCondition (setPermitState s n .isolating) p.holder = siteCondition s p.holder := rfl
  simp only [enterIsolating, evalSite, hmoved, PermitState.isActive, if_true, hcondition]

/-- Where SITE stands just as its condition does, entry into ISOLATING leaves the causes as they are. -/
theorem enters_isolating (hsite : siteCondition s p.holder = p.causes.site) :
    Enters s (enterIsolating s n) n p .isolating := by
  have hmoved := permitOf_setPermitState_self hp .isolating
  have hkept : (if siteCondition s p.holder = true then addCause (setPermitState s n .isolating) n .site
      else removeCause (setPermitState s n .isolating) n .site) = setPermitState s n .isolating := by
    split_ifs with hcondition
    · exact addCause_of_has hmoved (hsite.symm.trans hcondition)
    · exact removeCause_of_not_has hmoved (hsite.symm.trans (Bool.eq_false_iff.mpr hcondition))
  rw [enterIsolating_eq hp, hkept]
  exact enters_announce hp .isolating

end

/-! ## Entry into CLOSED (R77) -/

theorem truckOf_freePermitSlot (s : State) (t n m : Nat) :
    truckOf (freePermitSlot s t n) m =
      (truckOf s m).map fun k => if m = t then { k with permitSlots := k.permitSlots.filter (· != n) } else k :=
  truckOf_modTruck s t m _ fun _ hk => hk

/-- The permit as entry into CLOSED leaves it. -/
def Permit.closedNow (p : Permit) : Permit := { p with state := .closed, causes := Causes.none }

/-- The state with permit `n` CLOSED and its holds released, before its holder is told. -/
def closeRecord (s : State) (n : Nat) : State := modPermit (releaseHolds s n) n Permit.closedNow

theorem enterClosed_eq (s : State) (n : Nat) : enterClosed s n = postPermitState (giveFinal (closeRecord s n) n) n := rfl

theorem closeRecord_keeps (s : State) (n : Nat) : Keeps [.permits, .points] s (closeRecord s n) :=
  (releaseHolds_keeps s n).to.trans (modPermit_keeps _ n _).to

theorem giveFinal_keeps (s : State) (n : Nat) : Keeps [.trucks, .askArb] s (giveFinal s n) := by
  unfold giveFinal
  dsimp only
  split
  · exact givePermit_keeps s n
  · exact (modTruck_keeps s _ _).to

theorem permitOf_enterClosed (s : State) (n m : Nat) :
    permitOf (enterClosed s n) m = (permitOf s m).map fun p => if m = n then p.closedNow else p := by
  rw [enterClosed_eq, permitOf_of_keeps (postPermitState_keeps _ n), permitOf_of_keeps (giveFinal_keeps _ n), closeRecord,
    permitOf_modPermit _ n m Permit.closedNow fun _ hp => hp, permitOf_of_keeps (releaseHolds_keeps s n)]

theorem enterClosed_points (s : State) (n : Nat) :
    (enterClosed s n).points = s.points.map fun q => { q with holds := q.holds.filter fun h => h.permit != n } :=
  (postPermitState_keeps _ n .points (by decide)).trans (giveFinal_keeps _ n .points (by decide))

section
variable {s : State} {n : Nat} {p : Permit} (hp : permitOf s n = some p)
include hp

theorem permitOf_closeRecord_self : permitOf (closeRecord s n) n = some p.closedNow := by
  rw [closeRecord, permitOf_modPermit _ n n Permit.closedNow fun _ hp => hp, permitOf_of_keeps (releaseHolds_keeps s n), hp]
  simp

theorem enterClosed_keeps :
    Keeps [.trucks, .permits, .points, .askArb] (post s (.permitState n .closed p.holder p.linked Causes.none))
      (enterClosed s n) := by
  have hgiven : permitOf (giveFinal (closeRecord s n) n) n = some p.closedNow := by
    rw [permitOf_of_keeps (giveFinal_keeps _ n), permitOf_closeRecord_self hp]
  rw [enterClosed_eq, postPermitState_eq hgiven]
  exact Keeps.post ((closeRecord_keeps s n).to.trans (giveFinal_keeps _ n).to) _

/-- The final record is given where the holder's queue can take it, and otherwise the slot is freed. -/
theorem truckOf_enterClosed (m : Nat) :
    truckOf (enterClosed s n) m = truckOf (if canGive s p.holder (.permit n) = true
      then give (closeRecord s n) p.holder (.permit (permitContent p.closedNow))
      else freePermitSlot (closeRecord s n) p.holder n) m := by
  have hclosed := permitOf_closeRecord_self hp
  have hholder : holderOf (closeRecord s n) n = p.holder := by
    simp only [holderOf, hclosed]
    rfl
  have hroom : canGive (closeRecord s n) p.holder (.permit n) = canGive s p.holder (.permit n) :=
    canGive_of_keeps (closeRecord_keeps s n) p.holder _
  rw [enterClosed_eq, truckOf_of_keeps (postPermitState_keeps _ n)]
  simp only [giveFinal, hholder, hroom, givePermit_eq hclosed]
  rfl

theorem truckOf_enterClosed_ne {m : Nat} (hm : m ≠ p.holder) : truckOf (enterClosed s n) m = truckOf s m := by
  rw [truckOf_enterClosed hp]
  split_ifs
  · rw [truckOf_give_ne _ _ hm, truckOf_of_keeps (closeRecord_keeps s n)]
  · simp [truckOf_freePermitSlot, hm, truckOf_of_keeps (closeRecord_keeps s n)]

/-- The holder's queue that can take the final record has it, and the slot is kept (R77 step 3). -/
theorem truckOf_enterClosed_of_room {k : Truck} (hk : truckOf s p.holder = some k)
    (hroom : (recFor k.queue (.permit n)).isSome = true ∨ k.queue.length < 12) :
    ∃ k' r, truckOf (enterClosed s n) p.holder = some k' ∧ k' = { k with queue := k'.queue, seqCtr := k'.seqCtr } ∧
      recFor k'.queue (.permit n) = some r ∧ r.content = .permit (permitContent p.closedNow) := by
  obtain rfl : p.num = n := (findBy_some hp).1
  have hk' : truckOf (closeRecord s p.num) p.holder = some k := (truckOf_of_keeps (closeRecord_keeps s _) _).trans hk
  obtain ⟨k', r, htruck, hframe, hrec, hcontent, -⟩ := truckOf_give_permit (c := permitContent p.closedNow) hk' hroom
  refine ⟨k', r, ?_, hframe, hrec, hcontent⟩
  rw [truckOf_enterClosed hp, if_pos ((canGive_iff hk).mpr hroom), htruck]

/-- With the queue full and no PERMIT record in it the slot is freed at once (R77 step 3). -/
theorem truckOf_enterClosed_of_full {k : Truck} (hk : truckOf s p.holder = some k)
    (hfull : ¬((recFor k.queue (.permit n)).isSome = true ∨ k.queue.length < 12)) :
    truckOf (enterClosed s n) p.holder = some { k with permitSlots := k.permitSlots.filter (· != n) } := by
  rw [truckOf_enterClosed hp, if_neg (mt (canGive_iff hk).mp hfull), truckOf_freePermitSlot,
    truckOf_of_keeps (closeRecord_keeps s n), hk]
  simp

end

/-! ## RESTORING and CLOSED at once (R76, R77) -/

theorem permitOf_restoringClosed (s : State) (n m : Nat) :
    permitOf (enterClosed (enterRestoring s n) n) m =
      (permitOf s m).map fun p => if m = n then p.closedNow else p := by
  rw [permitOf_enterClosed, enterRestoring, permitOf_announce_setPermitState, Option.map_map]
  refine congrArg (Option.map · _) (funext fun p => ?_)
  by_cases hm : m = n
  · simp [hm, Permit.closedNow]
  · simp [hm]

section
variable {s : State} {n : Nat} {p : Permit} (hp : permitOf s n = some p)
include hp

theorem enters_restoring : Enters s (enterRestoring s n) n p .restoring := enters_announce hp .restoring

theorem enterRestoring_keeps :
    Keeps [.trucks, .permits, .askArb] (post s (.permitState n .restoring p.holder p.linked p.causes)) (enterRestoring s n) :=
  announce_setPermitState_keeps hp .restoring

theorem restoringClosed_keeps :
    Keeps [.trucks, .permits, .points, .askArb]
      (posted s [.permitState n .restoring p.holder p.linked p.causes, .permitState n .closed p.holder p.linked Causes.none])
      (enterClosed (enterRestoring s n) n) := by
  obtain ⟨q, hq, rfl, -⟩ := enters_restoring hp
  have hclosed := enterClosed_keeps hq
  exact (Keeps.post (enterRestoring_keeps hp).to _).trans hclosed

theorem restoringClosed_points :
    (enterClosed (enterRestoring s n) n).points =
      s.points.map fun q => { q with holds := q.holds.filter fun h => h.permit != n } := by
  have hrestoring : (enterRestoring s n).points = s.points :=
    (enterRestoring_keeps hp .points (by decide)).trans (post_keeps s _ .points (by decide))
  rw [enterClosed_points, hrestoring]

theorem truckOf_restoringClosed_ne {m : Nat} (hm : m ≠ p.holder) :
    truckOf (enterClosed (enterRestoring s n) n) m = truckOf s m := by
  obtain ⟨q, hq, rfl, -, htrucks, -⟩ := enters_restoring hp
  exact (truckOf_enterClosed_ne hq hm).trans (htrucks m hm)

/-- What the holder's truck `k` is when its permit without a restore step has been RESTORING and CLOSED: the record of
the first entry makes room for the final one, so the slot is freed only where neither was placed. -/
theorem truckOf_restoringClosed {k : Truck} (hk : truckOf s p.holder = some k) :
    ∃ k', truckOf (enterClosed (enterRestoring s n) n) p.holder = some k' ∧
      k' = { k with queue := k'.queue, seqCtr := k'.seqCtr, permitSlots := k'.permitSlots } ∧
      if (recFor k.queue (.permit n)).isSome = true ∨ k.queue.length < 12 then
        k'.permitSlots = k.permitSlots ∧ ∃ r, recFor k'.queue (.permit n) = some r ∧
          r.content = .permit (permitContent p.closedNow)
      else k'.queue = k.queue ∧ k'.permitSlots = k.permitSlots.filter (· != n) := by
  obtain ⟨q, hq, rfl, -, -, htold, -⟩ := enters_restoring hp
  split_ifs with hroom
  · obtain ⟨k1, r1, hk1, hframe1, hrec1, -⟩ := htold k hk hroom
    have hroom1 : (recFor k1.queue (.permit n)).isSome = true := by rw [hrec1]; rfl
    obtain ⟨k2, r2, hk2, hframe2, hrec2, hcontent2⟩ := truckOf_enterClosed_of_room hq hk1 (.inl hroom1)
    rw [hframe1] at hframe2
    exact ⟨k2, hk2, by rw [hframe2], by rw [hframe2], r2, hrec2, hcontent2⟩
  · have hfull : canGive s p.holder (.permit n) = false := Bool.eq_false_iff.mpr (mt (canGive_iff hk).mp hroom)
    have hk1 : truckOf (enterRestoring s n) p.holder = some k := (truckOf_announce_of_full hp .restoring hfull _).trans hk
    exact ⟨_, truckOf_enterClosed_of_full hq hk1 hroom, rfl, rfl, rfl⟩

end

/-! ## The items (R74, R76) -/

theorem Causes.any_eq_false (c : Causes) : c.any = false ↔ c = Causes.none := by
  obtain ⟨⟩ := c
  simp [Causes.any, Causes.none, and_assoc]

theorem Causes.any_iff (c : Causes) : c.any = true ↔ c ≠ Causes.none := by
  rw [← Bool.not_eq_false, ne_eq, Causes.any_eq_false]

section
variable {s : State} {t n : Nat}

theorem permitAccept_of_none (hp : permitOf s n = none) :
    permitAccept s t n = post s (.permitIgnored n t .permitAccept .unknownPermit none) := by
  simp only [permitAccept, hp, ignorePermit]

theorem workDone_of_none (hp : permitOf s n = none) :
    workDone s t n = post s (.permitIgnored n t .workDone .unknownPermit none) := by
  simp only [workDone, hp, ignorePermit]

variable {p : Permit} (hp : permitOf s n = some p)
include hp

theorem permitAccept_of_not_holder (ht : p.holder ≠ t) :
    permitAccept s t n = post s (.permitIgnored n t .permitAccept .notHolder (some p.state)) := by
  simp only [permitAccept, hp, ignorePermit, if_pos ht]

theorem workDone_of_not_holder (ht : p.holder ≠ t) :
    workDone s t n = post s (.permitIgnored n t .workDone .notHolder (some p.state)) := by
  simp only [workDone, hp, ignorePermit, if_pos ht]

/-- PERMIT_ACCEPT from the holder, by the permit's state (R74). -/
theorem permitAccept_of_holder (ht : p.holder = t) :
    permitAccept s t n =
      if p.state = .loaded ∨ p.state = .cancelled then
        post s (.permitIgnored n t .permitAccept .state (some p.state))
      else if p.state ≠ .issued then s
      else enterIsolating s n := by
  simp only [permitAccept, hp, ignorePermit, ht]
  cases p.state <;> simp

/-- WORK_DONE from the holder, by the permit's state, its causes and its restore list (R76). -/
theorem workDone_of_holder (ht : p.holder = t) :
    workDone s t n =
      if p.state = .restoring ∨ p.state = .closed then s
      else if p.state ≠ .cleared then post s (.permitIgnored n t .workDone .state (some p.state))
      else if p.causes ≠ Causes.none then post s (.permitIgnored n t .workDone .halted (some p.state))
      else if p.rest ≠ [] then enterRestoring s n
      else enterClosed (enterRestoring s n) n := by
  simp only [workDone, hp, ignorePermit, ht, Causes.any_iff, List.isEmpty_iff]
  cases p.state <;> simp

end

/-! ## The statement -/

/-- A truck for each outcome of a look-up: where none is found any truck will do. -/
theorem exists_truck_of_forall {found : Option Truck} {P : Truck → Truck → Prop}
    (h : ∀ k, found = some k → ∃ k', P k k') : ∃ k', ∀ k, found = some k → P k k' := by
  cases found with
  | none => exact ⟨Truck.fresh 0, fun _ hk => absurd hk (Option.some_ne_none _).symm⟩
  | some k =>
    obtain ⟨k', hk'⟩ := h k rfl
    exact ⟨k', fun _ hk => Option.some.inj hk ▸ hk'⟩

/-- Settles O35: both items by the permit's state; the entries into ISOLATING and RESTORING are moves announced, and CLOSED
follows on RESTORING. -/
theorem permitItemsMovePermit : Obligations.PermitItemsMovePermit := by
  unfold Obligations.PermitItemsMovePermit
  intro s t n
  split
  · exact ⟨permitAccept_of_none ‹_›, workDone_of_none ‹_›⟩
  next p hp =>
  intro ignored enters
  by_cases ht : p.holder = t
  case neg =>
    rw [if_pos ht]
    exact ⟨permitAccept_of_not_holder hp ht, workDone_of_not_holder hp ht⟩
  rw [if_neg (not_not.mpr ht), permitAccept_of_holder hp ht, workDone_of_holder hp ht]
  subst ht
  have hmoved (m : Nat) (hm : m ≠ n) : permitOf (setPermitState s n .isolating) m = permitOf s m := by
    simp [permitOf_setPermitState, hm]
  have hself := permitOf_setPermitState_self hp .isolating
  have hframe : setPermitState s n .isolating = { s with permits := (setPermitState s n .isolating).permits } := rfl
  constructor
  · split_ifs with hignored hlater hadd hkept
    · rfl
    · rfl
    · refine ⟨setPermitState s n .isolating, hself, hmoved, hframe, ?_⟩
      rw [enterIsolating_eq hp, if_pos hadd.1]
    · exact enters_isolating hp hkept
    · refine ⟨setPermitState s n .isolating, hself, hmoved, hframe, ?_⟩
      have hclear : ¬siteCondition s p.holder = true := fun hcondition => by
        cases hsite : p.causes.site with
        | false => exact hadd ⟨hcondition, hsite⟩
        | true => exact hkept (hcondition.trans hsite.symm)
      rw [enterIsolating_eq hp, if_neg hclear]
  · split_ifs with hrepeat hcleared hhalted hrest
    · rfl
    · rfl
    · rfl
    · exact enters_restoring hp
    · obtain ⟨k', hk'⟩ := exists_truck_of_forall fun k hk => truckOf_restoringClosed hp hk
      refine ⟨_, k', rfl, ?_, fun m hm => ?_, fun m hm => truckOf_restoringClosed_ne hp hm, restoringClosed_points hp, hk',
        eq_of_keeps_permitsPoints (restoringClosed_keeps hp)⟩
      · simp [permitOf_restoringClosed, hp, Permit.closedNow]
      · simp [permitOf_restoringClosed, hm]

end Sys2Proof.Machine

/-!
PROOFS. SET_POINT of spec/05_step_requests_points_and_holds.md. First a position weighed against the holds, then the
request, by its refusals and by whether a hold differs, and the statement.
-/
namespace Sys2Proof.Machine

theorem pointOf_of_keeps {l : List Field} {s t : State} (h : Keeps l s t) (n : Nat) (hl : .points ∉ l := by decide) :
    pointOf t n = pointOf s n := congrArg (findBy Point.num n) (h .points hl)

/-! ## A position weighed against the holds (R109) -/

/-- CONFLICT added to each permit whose hold differs from the position of `q`, in the order of the holds. -/
def conflicted (s : State) (q : Point) : State :=
  ((q.holds.filter fun h => h.position != q.position).map Hold.permit).foldl (fun a m => addCause a m .conflict) s

section
variable {s : State} {n : Nat}

theorem weigh_of_none (hq : pointOf s n = none) (src : ConflictSource) : weigh s n src = s := by
  simp only [weigh, hq]

variable {q : Point} (hq : pointOf s n = some q)
include hq

/-- A position with which every hold agrees has no consequence. -/
theorem weigh_of_agree (hagree : ∀ h ∈ q.holds, h.position = q.position) (src : ConflictSource) : weigh s n src = s := by
  have hfind : (q.holds.find? fun h => h.position != q.position) = none := by
    rw [List.find?_eq_none]
    intro h hh
    simp [hagree h hh]
  simp only [weigh, hq, hfind]

/-- A position from which a hold differs is announced with the first such hold before any permit gains the cause. -/
theorem weigh_of_differ {h0 : Hold} (hfind : (q.holds.find? fun h => h.position != q.position) = some h0)
    (src : ConflictSource) :
    weigh s n src =
      conflicted (post s (.holdConflict n q.position h0.position (q.holds.map Hold.permit) src)) q := by
  simp only [weigh, hq, hfind]
  rfl

end

/-! ## SET_POINT (R110) -/

theorem positionOf_eq (position : Nat) :
    positionOf position = [Position.open, .closed, .grounded, .unknown][position]? := by
  match position with
  | 0 | 1 | 2 | 3 => rfl
  | _ + 4 => rfl

/-- The state with point `n` at position `x`, not yet weighed. -/
def setPosition (s : State) (n : Nat) (x : Position) : State := modPoint s n fun q => { q with position := x }

theorem pointOf_setPosition (s : State) (n m : Nat) (x : Position) :
    pointOf (setPosition s n x) m = (pointOf s m).map fun q => if m = n then { q with position := x } else q :=
  pointOf_modPoint s n m _ fun _ hq => hq

theorem pointOf_setPosition_self {s : State} {n : Nat} {q : Point} (hq : pointOf s n = some q) (x : Position) :
    pointOf (setPosition s n x) n = some { q with position := x } := by
  simp [pointOf_setPosition, hq]

theorem pointOf_setPosition_ne (s : State) {n m : Nat} (hm : m ≠ n) (x : Position) :
    pointOf (setPosition s n x) m = pointOf s m := by
  simp [pointOf_setPosition, hm]

section
variable {s : State} {n position : Nat}

theorem setPoint_badField (hx : positionOf position = none) : setPoint n position s = refuse s .badField := by
  simp only [setPoint, hx]

variable {x : Position} (hx : positionOf position = some x)
include hx

theorem setPoint_notFound (hq : pointOf s n = none) : setPoint n position s = refuse s .notFound := by
  simp only [setPoint, hx, hq]

/-- A request that passes answers OK and weighs the position it has set. -/
theorem setPoint_passes {q : Point} (hq : pointOf s n = some q) :
    setPoint n position s = (weigh (setPosition s n x) n .telemetry, { code := .ok, body := .none }) := by
  simp only [setPoint, hx, hq]
  rfl

variable {q : Point} (h : Ready s) (tag : Nat) (hq : pointOf s n = some q)
include h hq

/-- SET_POINT to a position with which every hold agrees sets the position behind the reply OK and does nothing else. -/
theorem exec_setPoint_of_agree (hagree : ∀ y ∈ q.holds, y.position = x) :
    exec (.setPoint tag n position) s = .next (setPosition (answered s 0x1A tag .ok .none) n x) :=
  request_carried_quiet (g := (setPosition · n x)) h
    (fun u hu => by
      have hqu : pointOf u n = some q := (pointOf_of_keeps hu n).trans hq
      rw [setPoint_passes hx hqu, weigh_of_agree (pointOf_setPosition_self hqu x) hagree])
    fun _ => rfl

/-- SET_POINT to a position from which a hold differs has the consequences of R109 behind the reply OK. -/
theorem exec_setPoint_of_differ {h0 : Hold} (hfind : (q.holds.find? fun y => y.position != x) = some h0) :
    exec (.setPoint tag n position) s = .next (settleEvent (conflicted
      (post (setPosition (answered s 0x1A tag .ok .none) n x)
        (.holdConflict n x h0.position (q.holds.map Hold.permit) .telemetry))
      { q with position := x })) := by
  have hq' : pointOf (answered s 0x1A tag .ok .none) n = some q := (pointOf_of_keeps (answered_keeps s _ _ _ _) n).trans hq
  rw [← weigh_of_differ (pointOf_setPosition_self hq' x) hfind]
  exact request_carried (g := fun u => weigh (setPosition u n x) n .telemetry) h fun _ hu =>
    setPoint_passes hx ((pointOf_of_keeps hu n).trans hq)

end

/-! ## The statement -/

/-- Settles O38: a position weighed by whether a hold differs, and SET_POINT by its refusals and the same split. -/
theorem setPointWeighsHolds : Obligations.SetPointWeighsHolds := by
  unfold Obligations.SetPointWeighsHolds
  refine ⟨fun s n src => ?_, fun s tag n position h => ?_⟩
  · split
    · exact weigh_of_none ‹_› src
    next q hq => exact ⟨fun hagree => weigh_of_agree hq hagree src, fun _ hfind => weigh_of_differ hq hfind src⟩
  · rw [← positionOf_eq]
    split
    next hx => exact refuses_of_refuse h rfl rfl fun _ _ => setPoint_badField hx
    next x hx =>
    split
    next hq => exact refuses_of_refuse h rfl rfl fun _ hu => setPoint_notFound hx ((pointOf_of_keeps hu n).trans hq)
    next q hq =>
    have hkept : Keeps [.sup, .port] s (answered s 0x1A tag .ok .none) := answered_keeps s 0x1A tag .ok .none
    refine ⟨setPosition (answered s 0x1A tag .ok .none) n x, ?_, fun m hm => ?_, rfl,
      exec_setPoint_of_agree hx h tag hq, fun _ hfind => exec_setPoint_of_differ hx h tag hq hfind⟩
    · exact pointOf_setPosition_self ((pointOf_of_keeps hkept n).trans hq) x
    · exact (pointOf_setPosition_ne _ hm x).trans (pointOf_of_keeps hkept m)

end Sys2Proof.Machine

/-!
PROOFS. The supervision window of spec/10_console_supervision.md. First the frames of what console requests do, up to one
lemma that finds the owner of every request; then what a request served, dropped or discarded leaves of the Console
Supervisor; then SET_SUPERVISION, RESUME and the statements.
-/
namespace Sys2Proof.Machine

-- One proof after another, as in the frames of the shared operations: so many waiting at once exhaust the threads.
set_option Elab.async false

/-! ## Single updates -/

section
variable (s : State)

theorem clock_keeps (k : Clock) : Keeps [.clock] s { s with clock := k } := by
  intro x hx
  cases x
  case clock => exact absurd hx (by decide)
  all_goals rfl

theorem trucks_keeps (l : List Truck) : Keeps [.trucks] s { s with trucks := l } := by
  intro x hx
  cases x
  case trucks => exact absurd hx (by decide)
  all_goals rfl

theorem orders_keeps (l : List Order) : Keeps [.orders] s { s with orders := l } := by
  intro x hx
  cases x
  case orders => exact absurd hx (by decide)
  all_goals rfl

theorem permits_keeps (l : List Permit) : Keeps [.permits] s { s with permits := l } := by
  intro x hx
  cases x
  case permits => exact absurd hx (by decide)
  all_goals rfl

theorem timeouts_keeps (x : Timeouts) : Keeps [.timeouts] s { s with timeouts := x } := by
  intro x hx
  cases x
  case timeouts => exact absurd hx (by decide)
  all_goals rfl

theorem policy_keeps (p : Policy) : Keeps [.policy] s { s with policy := p } := by
  intro x hx
  cases x
  case policy => exact absurd hx (by decide)
  all_goals rfl

theorem graces_keeps (l : List Nat) : Keeps [.graces] s { s with graces := l } := by
  intro x hx
  cases x
  case graces => exact absurd hx (by decide)
  all_goals rfl

theorem setLinkFault_keeps : Keeps [.port] s (setLinkFault s) := port_keeps s _

theorem clearSticky_keeps : Keeps [.port] s (clearSticky s) := port_keeps s _

theorem dropOverdue_keeps : Keeps [.port] s (dropOverdue s) := by
  unfold dropOverdue
  split
  · exact port_keeps s _
  · exact .refl _ s

end

/-! ## Frames of the requests' effects -/

section
variable (s : State)

/-! ### Trucks and orders (R15, R33, R35) -/

theorem orderLosesTruck_keeps (t n : Nat) :
    Keeps [.trucks, .orders, .port, .askArb] s (orderLosesTruck t s n) := by
  unfold orderLosesTruck
  split
  · split
    · exact (backToQueued_keeps s n).to.trans (rollover_keeps _ n)
    · exact .refl _ s
  · exact .refl _ s

theorem removeRecord_keeps (t : Truck) : Keeps [.trucks, .orders, .port, .air, .askArb] s (removeRecord s t) := by
  have herased : Keeps [.trucks] s { s with trucks := eraseBy Truck.num t.num s.trucks } := trucks_keeps s _
  have hgone (u : State) : Keeps [.air] u (truckGone u t.num) := air_keeps u _
  exact herased.to.trans ((hgone _).to.trans (Keeps.foldl (fun u n => (orderLosesTruck_keeps u t.num n).to) _ _))

theorem placeChanged_keeps (o : Order) : Keeps [.trucks, .askArb] s (placeChanged s o) := by
  unfold placeChanged
  split
  · exact .refl _ s
  · split
    · exact giveOrder_keeps s _ _ _ _
    · exact giveOrder_keeps s _ _ _ _

theorem applyChange_keeps (o : Order) (c : OrderChange) :
    Keeps [.trucks, .orders, .port, .askArb] s (applyChange s o c) := by
  have hchanged : Keeps [.trucks, .orders, .port, .askArb] s (modOrder s o.num fun o => o.change c) :=
    (modOrder_keeps s _ _).to
  unfold applyChange
  dsimp only
  split_ifs
  · exact hchanged.trans ((placeChanged_keeps _ o).to.trans (rollover_keeps _ _))
  · exact hchanged.trans (rollover_keeps _ _)
  · exact hchanged.trans (placeChanged_keeps _ o).to
  · exact hchanged

theorem applyCancel_keeps (o : Order) : Keeps [.trucks, .orders, .port, .askArb] s (applyCancel s o) := by
  have hcancelled (f : Order → Order) :
      Keeps [.trucks, .orders, .port, .askArb] s (postOrderState (modOrder s o.num f) o.num) :=
    (modOrder_keeps s _ _).to.trans (postOrderState_keeps _ _).to
  unfold applyCancel
  dsimp only
  split
  · exact hcancelled _
  · exact (hcancelled _).trans ((tellCancelled_keeps _ o _).to.trans (stopForOrder_keeps _ _ _).to)

theorem forgetOrder_keeps (n t : Nat) : Keeps [.trucks] s (forgetOrder n s t) := by
  unfold forgetOrder
  split
  · exact (dropRec_keeps s t _).trans (freeOrderSlot_keeps _ t n)
  · exact .refl _ s

theorem applyRetire_keeps (o : Order) : Keeps [.trucks, .orders, .permits] s (applyRetire s o) := by
  have hforgotten : Keeps [.trucks, .orders, .permits] s (eachOf (forgetOrder o.num) (truckNums s) s) :=
    Keeps.foldl (fun u t => (forgetOrder_keeps u o.num t).to) _ s
  unfold applyRetire
  dsimp only
  split
  · exact hforgotten.trans ((modPermit_keeps _ _ _).to.trans (orders_keeps _ _).to)
  · exact hforgotten.trans (orders_keeps _ _).to

/-! ### Watch contexts (R43, R58) -/

theorem startContext_keeps (n seat : Nat) (o : Option Nat) (why : WatchReason) :
    Keeps [.trucks, .port, .askArb] s (startContext s n seat o why) :=
  (modWatch_keeps s n seat _).to.trans ((computeWatch_keeps _ n seat).to.trans
    ((postWatchState_keeps _ n seat why).to.trans (warnAtOnce_keeps _ n seat)))

theorem closeContext_keeps (n seat : Nat) : Keeps [.trucks, .port, .askArb] s (closeContext s n seat) :=
  (modWatch_keeps s n seat _).to.trans ((removePrompt_keeps _ n seat _).to.trans
    ((postWatchState_keeps _ n seat _).to.trans (assistFor_keeps _ n).to))

/-! ### Permits and steps (R68, R71, R84 to R86, R95) -/

theorem takePermitSlot_keeps (t n : Nat) : Keeps [.trucks] s (takePermitSlot s t n) := modTruck_keeps s t _

theorem freePermitSlot_keeps (t n : Nat) : Keeps [.trucks] s (freePermitSlot s t n) := modTruck_keeps s t _

theorem removeAsk_keeps (n : Nat) : Keeps [.asks] s (removeAsk s n) := asks_keeps s _

theorem addRef_keeps (n : Nat) : Keeps [.points] s (addRef s n) := by
  unfold addRef
  dsimp only
  split
  · exact modPoint_keeps s n _
  · exact (points_keeps s _).trans (modPoint_keeps _ n _)

theorem dropRef_keeps (n : Nat) : Keeps [.points] s (dropRef s n) := by
  unfold dropRef
  split
  · split
    · exact points_keeps s _
    · exact modPoint_keeps s n _
  · exact .refl _ s

theorem refreshAssigned_keeps (n : Nat) : Keeps [.trucks, .askArb] s (refreshAssigned s n) := by
  unfold refreshAssigned
  split
  · exact refreshOrderRec_keeps s _ n
  · exact .refl _ s

theorem applyLoad_keeps (p : Permit) :
    Keeps [.trucks, .orders, .permits, .points, .port, .askArb] s (applyLoad s p) := by
  have hloaded : Keeps [.trucks, .orders, .permits, .points, .port, .askArb] s
      (eachOf addRef p.points { s with permits := insertBy Permit.num p s.permits }) :=
    (permits_keeps s _).to.trans (Keeps.foldl (fun u n => (addRef_keeps u n).to) _ _)
  unfold applyLoad
  dsimp only
  split
  · exact hloaded.trans ((modOrder_keeps _ _ _).to.trans
      ((refreshAssigned_keeps _ _).to.trans (postPermitState_keeps _ _).to))
  · exact hloaded.trans (postPermitState_keeps _ _).to

theorem applyIssue_keeps (p : Permit) : Keeps [.trucks, .permits, .port, .askArb] s (applyIssue s p) := by
  unfold applyIssue
  split
  · exact (takePermitSlot_keeps s _ _).to.trans ((modPermit_keeps _ _ _).to.trans
      ((givePermit_keeps _ _).to.trans (postPermitState_keeps _ _).to))
  · exact (givePermit_keeps s _).to

theorem applyResume_keeps (p : Permit) : Keeps [.trucks, .permits, .port, .askArb] s (applyResume s p) := by
  unfold applyResume
  split
  · exact (dropCause_keeps s _ _).to.trans ((dropCause_keeps _ _ _).to.trans ((dropCause_keeps _ _ _).to.trans
      ((dropCause_keeps _ _ _).to.trans (afterDrop_keeps _ _).to)))
  · exact .refl _ s

theorem answerCancelled_keeps (p : Permit) : Keeps [.trucks, .askArb] s (answerCancelled s p) := by
  unfold answerCancelled
  split
  · exact give_keeps s _ _
  · split
    · exact give_keeps s _ _
    · exact .refl _ s

theorem applyCancelPermit_keeps (p : Permit) : Keeps crewFields s (applyCancelPermit s p) := by
  have hcancelled (f : Permit → Permit) : Keeps crewFields s (modPermit
      (releaseHolds (releaseMarks (removeAsk (answerCancelled s p) p.num) p.num) p.num) p.num f) :=
    (answerCancelled_keeps s p).to.trans ((removeAsk_keeps _ _).to.trans ((releaseMarks_keeps _ _).to.trans
      ((releaseHolds_keeps _ _).to.trans (modPermit_keeps _ _ f).to)))
  unfold applyCancelPermit
  dsimp only
  split
  · exact (hcancelled _).trans ((giveFinal_keeps _ _).to.trans (postPermitState_keeps _ _).to)
  · exact (hcancelled _).trans (postPermitState_keeps _ _).to

theorem applyRetirePermit_keeps (p : Permit) :
    Keeps [.trucks, .orders, .permits, .points] s (applyRetirePermit s p) := by
  have hfreed : Keeps [.trucks, .orders, .permits, .points] s (eachOf dropRef p.points
      (freePermitSlot (dropRec (dropRec s p.holder (.permit p.num)) p.holder (.answer p.num)) p.holder p.num)) :=
    ((dropRec_keeps s _ _).trans ((dropRec_keeps _ _ _).trans (freePermitSlot_keeps _ _ _))).to.trans
      (Keeps.foldl (fun u n => (dropRef_keeps u n).to) _ _)
  unfold applyRetirePermit
  dsimp only
  split
  · exact hfreed.trans ((modOrder_keeps _ _ _).to.trans (permits_keeps _ _).to)
  · exact hfreed.trans (permits_keeps _ _).to

theorem placeGrant_keeps (p : Permit) (i : StepId) (x : StepRec) :
    Keeps [.trucks, .permits, .points, .askArb] s (placeGrant s p i x) := by
  have hanswered : Keeps [.trucks, .permits, .points, .askArb] s (modStep
      (give s p.holder (.answer (grantContent p.num i x))) p.num i fun y => { y with state := .answered, reason := none }) :=
    (give_keeps s _ _).to.trans (modStep_keeps _ _ i _).to
  unfold placeGrant
  dsimp only
  split
  · exact hanswered
  · exact hanswered.trans (modPoint_keeps _ _ _).to

theorem approveStep_keeps (p : Permit) (i : StepId) (x : StepRec) : Keeps crewFields s (approveStep s p i x).1 := by
  unfold approveStep
  split
  · exact (refusePending_keeps s _ _).to
  · exact (placeGrant_keeps s p i x).to.trans (removeAsk_keeps _ _).to

/-! ### Sites (R152, R153, R157) -/

theorem setSiteState_keeps (n : Nat) (st : SiteState) : Keeps [.sites, .port, .askArb] s (setSiteState s n st) := by
  unfold setSiteState
  split
  · exact (modSite_keeps s n _).to.trans ((askArb_keeps _ _).to.trans (post_keeps _ _).to)
  · exact .refl _ s

theorem siteGoesDown_keeps (n : Nat) : Keeps (.sites :: crewFields) s (siteGoesDown s n) :=
  (setSiteState_keeps s n _).to.trans ((Keeps.foldl (fun u t => (routeDown_keeps u t).to) _ _).trans
    (evalAllSites_keeps _).to)

theorem expireSite_keeps (n : Nat) : Keeps (.sites :: crewFields) s (expireSite s n) := by
  unfold expireSite
  split
  · split
    · exact siteGoesDown_keeps s n
    · exact .refl _ s
  · exact .refl _ s

theorem forceRouteChanges_keeps (a b : State) : Keeps [.trucks, .port, .askArb] b (forceRouteChanges a b) := by
  refine Keeps.foldl (fun u n => ?_) _ b
  dsimp only
  split
  · split_ifs
    · exact .refl _ u
    · exact routeDown_keeps u n
    · exact routeRestored_keeps u n
    · exact .refl _ u
  · exact .refl _ u

theorem askIfIdle_keeps : Keeps [.trucks, .permits, .air, .load] s (askIfIdle s) := by
  unfold askIfIdle
  split
  · exact askInGap_keeps s
  · exact .refl _ s

theorem applySite_keeps (x : Site) (g : SiteGiven) :
    Keeps (.sites :: .air :: .load :: crewFields) s (applySite s x g) := by
  have hset : Keeps (.sites :: .air :: .load :: crewFields) s (modSite s g.num (Site.configured s.now g)) :=
    (modSite_keeps s _ _).to
  have hrest (u : State) : Keeps (.sites :: .air :: .load :: crewFields) u (expireSite (askIfIdle u) g.num) :=
    (askIfIdle_keeps u).to.trans (expireSite_keeps _ _).to
  have hforced (u : State) : Keeps (.sites :: .air :: .load :: crewFields) u (forceRouteChanges s u) :=
    (forceRouteChanges_keeps s u).to
  unfold applySite
  dsimp only
  split_ifs
  · exact hset.trans ((hforced _).trans ((evalAllSites_keeps _).to.trans (hrest _)))
  · exact hset.trans ((hforced _).trans (hrest _))
  · exact hset.trans ((setSiteState_keeps _ _ _).to.trans ((hforced _).trans ((evalAllSites_keeps _).to.trans (hrest _))))
  · exact hset.trans ((setSiteState_keeps _ _ _).to.trans ((hforced _).trans (hrest _)))

theorem applyClear_keeps (n : Nat) : Keeps (.sites :: .air :: .load :: crewFields) s (applyClear s n) :=
  (modSite_keeps s n _).to.trans ((setSiteState_keeps _ n _).to.trans ((forceRouteChanges_keeps s _).to.trans
    ((evalAllSites_keeps _).to.trans (askIfIdle_keeps _).to)))

end

/-! ## Frames of the requests' owners -/

/-- The fields that what a request does may change: none of them is the Console Supervisor, the reset line, the count of
choices or the queue of commands. -/
def requestFields : List Field :=
  [.clock, .port, .trucks, .orders, .permits, .points, .asks, .timeouts, .air, .sites, .policy, .graces, .load, .askArb]

/-- An owner that leaves the Console Supervisor alone, whatever it answers. -/
def LeavesSup (f : State → Served) : Prop := ∀ s, Keeps requestFields s (f s).1

theorem LeavesSup.sup {f : State → Served} (h : LeavesSup f) (s : State) : (f s).1.sup = s.sup := h s .sup (by decide)

/-! ### Trucks and queues -/

theorem enrollTruck_leavesSup (n : Nat) : LeavesSup (enrollTruck n) := fun s => by
  unfold enrollTruck
  dsimp only
  split_ifs
  · exact .refl _ s
  · exact .refl _ s
  · exact (trucks_keeps s _).to
  · exact (trucks_keeps s _).to

theorem removeTruck_leavesSup (n : Nat) : LeavesSup (removeTruck n) := fun s => by
  unfold removeTruck
  split
  · exact .refl _ s
  · split_ifs
    · exact .refl _ s
    · exact .refl _ s
    · exact (removeRecord_keeps s _).to

theorem leavesSup_of_unchanged {f : State → Served} (h : ∀ s, (f s).1 = s) : LeavesSup f := fun s => by
  rw [h]
  exact .refl _ s

theorem lookup_leavesSup {α : Type} (find : State → Nat → Option α) (report : State → α → ReplyBody) (n : Nat) :
    LeavesSup (lookup find report n) := leavesSup_of_unchanged (lookup_state find report n)

theorem queryTruck_leavesSup (n : Nat) : LeavesSup (queryTruck n) := queryTruck_eq_lookup ▸ lookup_leavesSup _ _ n

theorem queryQueue_leavesSup (n : Nat) : LeavesSup (queryQueue n) := queryQueue_eq_lookup ▸ lookup_leavesSup _ _ n

theorem setAnswerDiscard_leavesSup (secs : Nat) : LeavesSup (setAnswerDiscard secs) :=
  fun s => (timeouts_keeps s _).to

theorem sendText_leavesSup (n : Nat) (x : Text) : LeavesSup (sendText n x) := fun s => by
  unfold sendText
  split
  · exact .refl _ s
  · split_ifs
    · exact .refl _ s
    · exact .refl _ s
    · exact (give_keeps s _ _).to

/-! ### Orders -/

theorem postOrder_leavesSup (n prio : Nat) (loc desc : Text) (cands : List Nat) (profile : Option ProfileIn) :
    LeavesSup (postOrder n prio loc desc cands profile) := fun s => by
  unfold postOrder
  split
  · exact .refl _ s
  · split_ifs
    · exact .refl _ s
    · exact .refl _ s
    · exact (orders_keeps s _).to.trans ((postOrderState_keeps _ _).to.trans (rollover_keeps _ _).to)

theorem assignOrder_leavesSup (n t : Nat) : LeavesSup (assignOrder n t) := fun s => by
  unfold assignOrder
  split
  · exact .refl _ s
  split
  · exact .refl _ s
  split
  · exact .refl _ s
  split_ifs
  · exact .refl _ s
  · exact .refl _ s
  · exact .refl _ s
  · exact (makeOffer_keeps s n t).to

theorem changeOrder_leavesSup (n : Nat) (prio : Option Nat) (loc desc : Option Text) (cands : Option (List Nat))
    (profile : Option ProfileIn) (remove : Bool) :
    LeavesSup (changeOrder n prio loc desc cands profile remove) := fun s => by
  unfold changeOrder
  split
  · exact .refl _ s
  split
  · exact .refl _ s
  split
  · exact .refl _ s
  · exact (applyChange_keeps s _ _).to

theorem cancelOrder_leavesSup (n : Nat) : LeavesSup (cancelOrder n) := fun s => by
  unfold cancelOrder
  split
  · exact .refl _ s
  split_ifs
  · exact .refl _ s
  · exact .refl _ s
  · exact (applyCancel_keeps s _).to

theorem retireOrder_leavesSup (n : Nat) : LeavesSup (retireOrder n) := fun s => by
  unfold retireOrder
  split
  · exact .refl _ s
  split
  · exact .refl _ s
  · exact (applyRetire_keeps s _).to

theorem queryOrder_leavesSup (n : Nat) : LeavesSup (queryOrder n) := queryOrder_eq_lookup ▸ lookup_leavesSup _ _ n

theorem setOfferTimeout_leavesSup (secs : Nat) : LeavesSup (setOfferTimeout secs) := fun s => (timeouts_keeps s _).to

/-! ### Watch contexts -/

theorem setWatch_leavesSup (n seat : Nat) (set : SettingsIn) : LeavesSup (setWatch n seat set) := fun s => by
  unfold setWatch
  split
  · exact .refl _ s
  split
  · exact .refl _ s
  · dsimp only
    exact (modWatch_keeps s n _ _).to

theorem startWatch_leavesSup (n seat : Nat) : LeavesSup (startWatch n seat) := fun s => by
  unfold startWatch
  split
  · exact .refl _ s
  split
  · exact .refl _ s
  · exact (startContext_keeps s n _ _ _).to

theorem stopWatch_leavesSup (n seat : Nat) : LeavesSup (stopWatch n seat) := fun s => by
  unfold stopWatch
  split
  · exact .refl _ s
  split
  · exact (stopContext_keeps s n _ _).to
  · exact .refl _ s

theorem closeAlarm_leavesSup (n seat : Nat) : LeavesSup (closeAlarm n seat) := fun s => by
  unfold closeAlarm
  split
  · exact .refl _ s
  split
  · exact (closeContext_keeps s n _).to
  · exact .refl _ s

theorem queryWatch_leavesSup (n seat : Nat) : LeavesSup (queryWatch n seat) := fun s => by
  unfold queryWatch
  split
  · exact .refl _ s
  · dsimp only
    exact (modWatch_keeps s n _ _).to

/-! ### Permits, steps and points -/

theorem loadPermit_leavesSup (n holder : Nat) (linked : Option Nat) (iso rest : List StepIn) :
    LeavesSup (loadPermit n holder linked iso rest) := fun s => by
  unfold loadPermit
  split
  · exact .refl _ s
  split
  · exact .refl _ s
  · exact (applyLoad_keeps s _).to

theorem issuePermit_leavesSup (n : Nat) : LeavesSup (issuePermit n) := fun s => by
  unfold issuePermit
  split
  · exact .refl _ s
  split
  · exact .refl _ s
  · exact (applyIssue_keeps s _).to

theorem haltPermit_leavesSup (n : Nat) : LeavesSup (haltPermit n) := fun s => by
  unfold haltPermit
  split
  · exact .refl _ s
  split
  · exact .refl _ s
  · exact (addCause_keeps s n .host).to

theorem resumePermit_leavesSup (n : Nat) : LeavesSup (resumePermit n) := fun s => by
  unfold resumePermit
  split
  · exact .refl _ s
  split_ifs
  · exact .refl _ s
  · exact .refl _ s
  · exact .refl _ s
  · exact (applyResume_keeps s _).to

theorem cancelPermit_leavesSup (n : Nat) : LeavesSup (cancelPermit n) := fun s => by
  unfold cancelPermit
  split
  · exact .refl _ s
  split_ifs
  · exact .refl _ s
  · exact .refl _ s
  · exact (applyCancelPermit_keeps s _).to

theorem retirePermit_leavesSup (n : Nat) : LeavesSup (retirePermit n) := fun s => by
  unfold retirePermit
  split
  · exact .refl _ s
  split
  · exact .refl _ s
  · exact (applyRetirePermit_keeps s _).to

theorem decideStep_leavesSup (n : Nat) (i : StepId) (d : Nat) : LeavesSup (decideStep n i d) := fun s => by
  have hdenied (m : Nat) (r : Reason) : Keeps requestFields s (denyStep s m r).1 := (refusePending_keeps s m r).to
  unfold decideStep
  split
  · exact .refl _ s
  split
  · exact .refl _ s
  split
  · split_ifs
    · exact .refl _ s
    · exact .refl _ s
    · exact (approveStep_keeps s _ i _).to
    · exact hdenied n _
  · exact .refl _ s

theorem setPoint_leavesSup (n x : Nat) : LeavesSup (setPoint n x) := fun s => by
  unfold setPoint
  split
  · exact .refl _ s
  split
  · exact .refl _ s
  · exact (modPoint_keeps s n _).to.trans (weigh_keeps _ n _).to

theorem queryPermit_leavesSup (n : Nat) : LeavesSup (queryPermit n) := queryPermit_eq_lookup ▸ lookup_leavesSup _ _ n

theorem queryPoint_leavesSup (n : Nat) : LeavesSup (queryPoint n) := queryPoint_eq_lookup ▸ lookup_leavesSup _ _ n

theorem setDecisionTimeout_leavesSup (secs : Nat) : LeavesSup (setDecisionTimeout secs) :=
  fun s => (timeouts_keeps s _).to

/-! ### Sites, air, load, link and clock -/

theorem setAir_leavesSup (rate window slots budget : Nat) : LeavesSup (setAir rate window slots budget) := fun s => by
  unfold setAir
  split
  · exact .refl _ s
  · exact (air_keeps s _).to

theorem setSite_leavesSup (n parent lo hi hop timeout : Nat) : LeavesSup (setSite n parent lo hi hop timeout) := fun s => by
  unfold setSite
  split
  · exact .refl _ s
  dsimp only
  split
  · exact .refl _ s
  split
  · exact .refl _ s
  · exact (applySite_keeps s _ _).to

theorem clearSite_leavesSup (n : Nat) : LeavesSup (clearSite n) := fun s => by
  unfold clearSite
  split
  · exact .refl _ s
  split_ifs
  · exact .refl _ s
  · exact .refl _ s
  · exact (applyClear_keeps s n).to

theorem setSitePolicy_leavesSup (p : Nat) : LeavesSup (setSitePolicy p) := fun s => by
  unfold setSitePolicy
  split
  · exact .refl _ s
  dsimp only
  split
  · exact .refl _ s
  · exact (policy_keeps s _).to.trans (evalAllSites_keeps _).to

theorem setZoneGrace_leavesSup (first last grace : Nat) : LeavesSup (setZoneGrace first last grace) := fun s => by
  unfold setZoneGrace
  dsimp only
  split
  · exact .refl _ s
  · exact (graces_keeps s _).to

theorem queryZone_leavesSup (z : Nat) : LeavesSup (queryZone z) := fun s => by
  unfold queryZone
  split
  · exact .refl _ s
  · exact .refl _ s

theorem setLoadBands_leavesSup (t1 t2 t3 h : Nat) : LeavesSup (setLoadBands t1 t2 t3 h) := fun s => by
  unfold setLoadBands
  dsimp only
  split
  · exact (load_keeps s _).to
  · exact .refl _ s

theorem setBandEntry_leavesSup (b interval allowance : Nat) : LeavesSup (setBandEntry b interval allowance) := fun s => by
  unfold setBandEntry
  split
  · exact .refl _ s
  · exact (load_keeps s _).to

theorem setLink_leavesSup (rate : Nat) : LeavesSup (setLink rate) := fun s => by
  unfold setLink
  split
  · exact .refl _ s
  · exact (port_keeps s _).to

theorem serveStatus_leavesSup : LeavesSup serveStatus := fun s => (clearSticky_keeps s).to

theorem setTime_leavesSup (v : Nat) : LeavesSup (setTime v) := fun s => (clock_keeps s _).to

theorem serveRestart_leavesSup : LeavesSup serveRestart := fun s => (port_keeps s _).to

/-! ### Every request -/

/-- What serving the request `c` may do to the Console Supervisor: its mode, window and lapse expiry change with
SET_SUPERVISION alone, its console state with RESUME alone, its last valid frame time never. -/
structure SupMoves (c : Instr) (x y : Sup) : Prop where
  lastValid : y.lastValid = x.lastValid
  settings : (∀ tag mode window, c ≠ .setSupervision tag mode window) →
    y.mode = x.mode ∧ y.window = x.window ∧ y.lapse = x.lapse
  console : (∀ tag, c ≠ .resume tag) → y.console = x.console

theorem SupMoves.of_eq {c : Instr} {x y : Sup} (h : y = x) : SupMoves c x y :=
  h ▸ ⟨rfl, fun _ => ⟨rfl, rfl, rfl⟩, fun _ => rfl⟩

theorem setSupervision_supMoves (tag mode window : Nat) (s : State) :
    SupMoves (.setSupervision tag mode window) s.sup (setSupervision mode window s).1.sup := by
  unfold setSupervision
  split
  · exact .of_eq rfl
  · exact ⟨rfl, fun h => absurd rfl (h tag mode window), fun _ => rfl⟩

theorem removeAssists_keeps (s : State) : Keeps [.trucks] s (removeAssists s) :=
  Keeps.foldl (fun u n => dropRec_keeps u n _) _ s

/-- A console that is UNATTENDED becomes ATTENDED, with every ASSIST record removed (R176). -/
theorem attend_of_unattended {s : State} (h : s.sup.console = .unattended) :
    attend s = removeAssists { s with sup := { s.sup with console := .attended } } := if_pos h

theorem attend_of_attended {s : State} (h : s.sup.console = .attended) : attend s = s := by
  simp [attend, h]

theorem attend_sup (s : State) : (attend s).sup = { s.sup with console := .attended } := by
  cases h : s.sup.console with
  | attended => rw [attend_of_attended h, ← h]
  | unattended =>
    rw [attend_of_unattended h]
    exact removeAssists_keeps _ .sup (by decide)

theorem resumeConsole_supMoves (tag : Nat) (s : State) : SupMoves (.resume tag) s.sup (resumeConsole s).1.sup := by
  have hsup : (resumeConsole s).1.sup = { s.sup with console := .attended } := attend_sup s
  rw [hsup]
  exact ⟨rfl, fun _ => ⟨rfl, rfl, rfl⟩, fun h => absurd rfl (h tag)⟩

/-- The request `c` of kind `k` is served by `f`, which moves the Console Supervisor no further than the request may. -/
def ServedBy (c : Instr) (k tag : Nat) (f : State → Served) : Prop :=
  (∀ s, exec c s = request k tag f s) ∧ ∀ s, SupMoves c s.sup (f s).1.sup

theorem LeavesSup.servedBy {c : Instr} {k tag : Nat} {f : State → Served} (h : LeavesSup f)
    (hc : ∀ s, exec c s = request k tag f s) : ServedBy c k tag f := ⟨hc, fun s => .of_eq (h.sup s)⟩

/-- Every console request has an owner (spec/11_the_console_link.md section 11.5). -/
theorem exists_servedBy : ∀ {c : Instr} {k tag : Nat}, kindTag c = some (k, tag) → ∃ f, ServedBy c k tag f
  | .enrollTruck _ truck, _, _, rfl => ⟨_, (enrollTruck_leavesSup truck).servedBy fun _ => rfl⟩
  | .removeTruck _ truck, _, _, rfl => ⟨_, (removeTruck_leavesSup truck).servedBy fun _ => rfl⟩
  | .queryTruck _ truck, _, _, rfl => ⟨_, (queryTruck_leavesSup truck).servedBy fun _ => rfl⟩
  | .postOrder _ order prio loc desc cands profile, _, _, rfl =>
    ⟨_, (postOrder_leavesSup order prio loc desc cands profile).servedBy fun _ => rfl⟩
  | .assignOrder _ order truck, _, _, rfl => ⟨_, (assignOrder_leavesSup order truck).servedBy fun _ => rfl⟩
  | .changeOrder _ order prio loc desc cands profile remove, _, _, rfl =>
    ⟨_, (changeOrder_leavesSup order prio loc desc cands profile remove).servedBy fun _ => rfl⟩
  | .cancelOrder _ order, _, _, rfl => ⟨_, (cancelOrder_leavesSup order).servedBy fun _ => rfl⟩
  | .retireOrder _ order, _, _, rfl => ⟨_, (retireOrder_leavesSup order).servedBy fun _ => rfl⟩
  | .queryOrder _ order, _, _, rfl => ⟨_, (queryOrder_leavesSup order).servedBy fun _ => rfl⟩
  | .setOfferTimeout _ secs, _, _, rfl => ⟨_, (setOfferTimeout_leavesSup secs).servedBy fun _ => rfl⟩
  | .setWatch _ truck seat set, _, _, rfl => ⟨_, (setWatch_leavesSup truck seat set).servedBy fun _ => rfl⟩
  | .startWatch _ truck seat, _, _, rfl => ⟨_, (startWatch_leavesSup truck seat).servedBy fun _ => rfl⟩
  | .stopWatch _ truck seat, _, _, rfl => ⟨_, (stopWatch_leavesSup truck seat).servedBy fun _ => rfl⟩
  | .closeAlarm _ truck seat, _, _, rfl => ⟨_, (closeAlarm_leavesSup truck seat).servedBy fun _ => rfl⟩
  | .queryWatch _ truck seat, _, _, rfl => ⟨_, (queryWatch_leavesSup truck seat).servedBy fun _ => rfl⟩
  | .loadPermit _ permit holder linked iso rest, _, _, rfl =>
    ⟨_, (loadPermit_leavesSup permit holder linked iso rest).servedBy fun _ => rfl⟩
  | .issuePermit _ permit, _, _, rfl => ⟨_, (issuePermit_leavesSup permit).servedBy fun _ => rfl⟩
  | .haltPermit _ permit, _, _, rfl => ⟨_, (haltPermit_leavesSup permit).servedBy fun _ => rfl⟩
  | .resumePermit _ permit, _, _, rfl => ⟨_, (resumePermit_leavesSup permit).servedBy fun _ => rfl⟩
  | .cancelPermit _ permit, _, _, rfl => ⟨_, (cancelPermit_leavesSup permit).servedBy fun _ => rfl⟩
  | .retirePermit _ permit, _, _, rfl => ⟨_, (retirePermit_leavesSup permit).servedBy fun _ => rfl⟩
  | .queryPermit _ permit, _, _, rfl => ⟨_, (queryPermit_leavesSup permit).servedBy fun _ => rfl⟩
  | .decideStep _ permit step decision, _, _, rfl =>
    ⟨_, (decideStep_leavesSup permit step decision).servedBy fun _ => rfl⟩
  | .queryPending _, _, _, rfl => ⟨_, (leavesSup_of_unchanged fun _ => rfl).servedBy fun _ => rfl⟩
  | .setDecisionTimeout _ secs, _, _, rfl => ⟨_, (setDecisionTimeout_leavesSup secs).servedBy fun _ => rfl⟩
  | .setPoint _ point position, _, _, rfl => ⟨_, (setPoint_leavesSup point position).servedBy fun _ => rfl⟩
  | .queryPoint _ point, _, _, rfl => ⟨_, (queryPoint_leavesSup point).servedBy fun _ => rfl⟩
  | .sendText _ truck text, _, _, rfl => ⟨_, (sendText_leavesSup truck text).servedBy fun _ => rfl⟩
  | .setAnswerDiscard _ secs, _, _, rfl => ⟨_, (setAnswerDiscard_leavesSup secs).servedBy fun _ => rfl⟩
  | .queryQueue _ truck, _, _, rfl => ⟨_, (queryQueue_leavesSup truck).servedBy fun _ => rfl⟩
  | .setAir _ rate window slots budget, _, _, rfl =>
    ⟨_, (setAir_leavesSup rate window slots budget).servedBy fun _ => rfl⟩
  | .queryAir _, _, _, rfl => ⟨_, (leavesSup_of_unchanged fun _ => rfl).servedBy fun _ => rfl⟩
  | .setSite _ site parent lo hi hop timeout, _, _, rfl =>
    ⟨_, (setSite_leavesSup site parent lo hi hop timeout).servedBy fun _ => rfl⟩
  | .clearSite _ site, _, _, rfl => ⟨_, (clearSite_leavesSup site).servedBy fun _ => rfl⟩
  | .setSitePolicy _ policy, _, _, rfl => ⟨_, (setSitePolicy_leavesSup policy).servedBy fun _ => rfl⟩
  | .setZoneGrace _ first last grace, _, _, rfl => ⟨_, (setZoneGrace_leavesSup first last grace).servedBy fun _ => rfl⟩
  | .querySites _, _, _, rfl => ⟨_, (leavesSup_of_unchanged fun _ => rfl).servedBy fun _ => rfl⟩
  | .queryZone _ zone, _, _, rfl => ⟨_, (queryZone_leavesSup zone).servedBy fun _ => rfl⟩
  | .setLoadBands _ t1 t2 t3 h, _, _, rfl => ⟨_, (setLoadBands_leavesSup t1 t2 t3 h).servedBy fun _ => rfl⟩
  | .setBandEntry _ band interval allowance, _, _, rfl =>
    ⟨_, (setBandEntry_leavesSup band interval allowance).servedBy fun _ => rfl⟩
  | .queryLoad _, _, _, rfl => ⟨_, (leavesSup_of_unchanged fun _ => rfl).servedBy fun _ => rfl⟩
  | .setSupervision tag mode window, _, _, rfl => ⟨_, fun _ => rfl, setSupervision_supMoves tag mode window⟩
  | .querySupervision _, _, _, rfl => ⟨_, (leavesSup_of_unchanged fun _ => rfl).servedBy fun _ => rfl⟩
  | .resume tag, _, _, rfl => ⟨_, fun _ => rfl, resumeConsole_supMoves tag⟩
  | .status _, _, _, rfl => ⟨_, serveStatus_leavesSup.servedBy fun _ => rfl⟩
  | .identify _, _, _, rfl => ⟨_, (leavesSup_of_unchanged fun _ => rfl).servedBy fun _ => rfl⟩
  | .setTime _ value, _, _, rfl => ⟨_, (setTime_leavesSup value).servedBy fun _ => rfl⟩
  | .setLink _ rate, _, _, rfl => ⟨_, (setLink_leavesSup rate).servedBy fun _ => rfl⟩
  | .keepalive _, _, _, rfl => ⟨_, (leavesSup_of_unchanged fun _ => rfl).servedBy fun _ => rfl⟩
  | .restart _, _, _, rfl => ⟨_, serveRestart_leavesSup.servedBy fun _ => rfl⟩
  | .unknownRequest .., _, _, rfl => ⟨_, (leavesSup_of_unchanged fun _ => rfl).servedBy fun _ => rfl⟩

/-! ## What a frame leaves of the Console Supervisor (R172) -/

/-- An accepted frame that is not served leaves the armed window; one that is served, what its owner makes of it behind
the reply. -/
theorem serve_sup (k tag : Nat) (f : State → Served) (s : State) :
    (serve k tag f s).sup = (armWindow s).sup ∨
      ∃ u, u.sup = (armWindow s).sup ∧ (serve k tag f s).sup = (f u).1.sup := by
  unfold serve
  dsimp only
  split_ifs
  · exact .inl rfl
  · exact .inl rfl
  · exact .inr ⟨_, attach_keeps _ k tag _ .sup (by decide), settleEvent_keeps _ .sup (by decide)⟩

/-- Every console request moves the Console Supervisor from the armed window on, whatever becomes of it. -/
theorem exec_request_supMoves {c : Instr} {k tag : Nat} {s : State} (hc : kindTag c = some (k, tag))
    (hheld : s.held = false) : ∃ t, exec c s = .next t ∧ SupMoves c (armWindow s).sup t.sup := by
  obtain ⟨f, hexec, hmoves⟩ := exists_servedBy hc
  refine ⟨serve k tag f s, ?_, ?_⟩
  · rw [hexec, request, unlessHeld, if_neg (by simp [hheld])]
  · obtain hdropped | ⟨u, hu, hserved⟩ := serve_sup k tag f s
    · exact .of_eq hdropped
    · rw [hserved, ← hu]
      exact hmoves u

/-- An event that leaves the Console Supervisor alone leaves it so when it is settled, and when the part is held. -/
theorem event_sup {f : State → State} {s : State} (hf : (f s).sup = s.sup) : ∃ t, event f s = .next t ∧ t.sup = s.sup := by
  cases hheld : s.held with
  | true => exact ⟨s, event_held f hheld, rfl⟩
  | false => exact ⟨_, event_live f hheld, (settleEvent_keeps _ .sup (by decide)).trans hf⟩

theorem exec_failedFrame_sup (why : FrameFault) (s : State) : ∃ t, exec (.failedFrame why) s = .next t ∧ t.sup = s.sup :=
  event_sup (setLinkFault_sup s)

theorem exec_octetGap_sup (s : State) : ∃ t, exec .octetGap s = .next t ∧ t.sup = s.sup :=
  event_sup (f := fun s => setLinkFault (dropOverdue s))
    ((dropOverdue_keeps s).trans (setLinkFault_keeps _) .sup (by decide))

/-! ## SET_SUPERVISION (R173) -/

/-- A request whose owner gives the arbiter no occasion behind its reply leaves nothing to settle (R143). -/
theorem request_answered_quiet {s : State} (h : Ready s) (k tag : Nat) (f : State → Served) {c : Result} {b : ReplyBody}
    (ha : (f (armWindow s)).2 = { code := c, body := b })
    (hf : (f (answered s k tag c b)).1.askArb = (answered s k tag c b).askArb) :
    request k tag f s = .next (f (answered s k tag c b)).1 := by
  have hquiet : (answered s k tag c b).askArb = false := (answered_askArb s k tag c b).trans h.2.1
  rw [request_answered h k tag f ha, settleEvent_of_quiet (hf.trans hquiet)]

/-- The Console Supervisor behind a reply is the armed window (R172). -/
theorem answered_sup (s : State) (k tag : Nat) (c : Result) (b : ReplyBody) :
    (answered s k tag c b).sup = (armWindow s).sup := attach_keeps _ k tag _ .sup (by decide)

theorem answered_now (s : State) (k tag : Nat) (c : Result) (b : ReplyBody) : (answered s k tag c b).now = s.now :=
  congrArg Clock.sec (answered_keeps s k tag c b .clock (by decide))

theorem supModeOf_eq (mode : Nat) : supModeOf mode = [SupMode.off, .report, .act][mode]? := by
  match mode with
  | 0 | 1 | 2 => rfl
  | _ + 3 => rfl

theorem okOr_bne (a b : Nat) : okOr (a != b) = if a = b then .ok else .clamped := by
  by_cases h : a = b <;> simp [okOr, h]

section
variable {s : State} {mode : Nat}

theorem setSupervision_badField (hm : supModeOf mode = none) (window : Nat) :
    setSupervision mode window s = refuse s .badField := by
  simp only [setSupervision, hm]

variable {m : SupMode} (hm : supModeOf mode = some m)
include hm

theorem setSupervision_some (window : Nat) : setSupervision mode window s =
    ({ s with sup := { s.sup with
        mode := m, window := clamp 5 120 window
        lapse := if m = .off then none else some (s.now + clamp 5 120 window) } },
     { code := okOr (clamp 5 120 window != window), body := .supSet m (clamp 5 120 window) s.sup.console }) := by
  simp only [setSupervision, hm]

/-- SET_SUPERVISION sets mode and window over the window its own frame has armed, and the expiry from its own window. -/
theorem exec_setSupervision (h : Ready s) (tag window : Nat) : exec (.setSupervision tag mode window) s = .next
    { answered s 0x2A tag (if clamp 5 120 window = window then .ok else .clamped)
        (.supSet m (clamp 5 120 window) s.sup.console) with
      sup := { mode := m, window := clamp 5 120 window, console := s.sup.console, lastValid := some s.now
               lapse := if m = .off then none else some (s.now + clamp 5 120 window) } } := by
  have hserved : exec (.setSupervision tag mode window) s = _ :=
    request_answered_quiet h 0x2A tag (setSupervision mode window) (congrArg Prod.snd (setSupervision_some hm window))
      (by rw [setSupervision_some hm])
  rw [hserved, setSupervision_some hm, answered_sup, answered_now, okOr_bne]
  rfl

end

/-! ## RESUME (R176) -/

/-- The queue of a truck without its ASSIST record. -/
def Truck.withoutAssist (t : Truck) : Truck := { t with queue := t.queue.filter fun r => r.content.subject != .assist }

theorem truckOf_dropAssist (s : State) (n m : Nat) :
    truckOf (dropRec s n .assist) m = (truckOf s m).map fun t => if m = n then t.withoutAssist else t :=
  truckOf_dropRec s n m .assist

theorem Truck.withoutAssist_idem (t : Truck) : t.withoutAssist.withoutAssist = t.withoutAssist := by
  simp [Truck.withoutAssist]

/-- ASSIST records removed from the trucks of a list: each of its trucks has none, the others are as they were. -/
theorem truckOf_dropAssists (l : List Nat) (s : State) (m : Nat) :
    truckOf (eachOf (fun s n => dropRec s n .assist) l s) m =
      (truckOf s m).map fun t => if m ∈ l then t.withoutAssist else t := by
  induction l generalizing s with
  | nil => simp [eachOf]
  | cons n l ih =>
    have hrest := ih (dropRec s n .assist)
    rw [truckOf_dropAssist, Option.map_map] at hrest
    refine hrest.trans (congrArg (Option.map · _) (funext fun t => ?_))
    by_cases hn : m = n
    · subst hn
      by_cases hl : m ∈ l <;> simp [hl, Truck.withoutAssist_idem]
    · simp [hn]

theorem truckOf_removeAssists (s : State) (m : Nat) :
    truckOf (removeAssists s) m = (truckOf s m).map Truck.withoutAssist := by
  refine (truckOf_dropAssists (truckNums s) s m).trans ?_
  cases hm : truckOf s m with
  | none => rfl
  | some t =>
    obtain ⟨hnum, hmem⟩ := findBy_some hm
    have hlisted : m ∈ truckNums s := hnum ▸ List.mem_map_of_mem hmem
    simp [hlisted]

theorem attend_keeps (s : State) : Keeps [.sup, .trucks] s (attend s) := by
  unfold attend
  split
  · exact (sup_keeps s _).to.trans (removeAssists_keeps _).to
  · exact .refl _ s

/-- Two states that agree outside the Console Supervisor and the trucks. -/
theorem eq_of_keeps_supTrucks {s v : State} (h : Keeps [.sup, .trucks] s v) :
    v = { s with sup := v.sup, trucks := v.trucks } := by
  obtain ⟨⟩ := v
  simp only [State.mk.injEq, true_and]
  exact ⟨h .clock (by decide), h .held (by decide), h .port (by decide), h .orders (by decide), h .permits (by decide),
    h .points (by decide), h .asks (by decide), h .timeouts (by decide), h .air (by decide), h .sites (by decide),
    h .policy (by decide), h .graces (by decide), h .load (by decide), h .askArb (by decide), h .choices (by decide),
    h .pending (by decide)⟩

section
variable {s : State} (h : Ready s) (tag : Nat)
include h

/-- RESUME reports the state before, and attends the console behind its reply. -/
theorem exec_resume : exec (.resume tag) s = .next (attend (answered s 0x2C tag .ok (.resumed s.sup.console))) :=
  request_answered_quiet h 0x2C tag resumeConsole rfl (attend_keeps _ .askArb (by decide))

theorem exec_resume_attended (hc : s.sup.console = .attended) :
    exec (.resume tag) s = .next (answered s 0x2C tag .ok (.resumed .attended)) := by
  have hbehind : (answered s 0x2C tag .ok (.resumed .attended)).sup.console = .attended := by
    rw [answered_sup]
    exact hc
  rw [exec_resume h, hc, attend_of_attended hbehind]

theorem exec_resume_unattended (hc : s.sup.console = .unattended) : ∃ u, exec (.resume tag) s = .next u ∧
    (∀ k, truckOf u k = (truckOf s k).map Truck.withoutAssist) ∧
    u = { answered s 0x2C tag .ok (.resumed .unattended) with
      sup := { (armWindow s).sup with console := .attended }, trucks := u.trucks } := by
  have hbehind : (answered s 0x2C tag .ok (.resumed .unattended)).sup.console = .unattended := by
    rw [answered_sup]
    exact hc
  refine ⟨attend (answered s 0x2C tag .ok (.resumed .unattended)), by rw [exec_resume h, hc], fun k => ?_, ?_⟩
  · rw [attend_of_unattended hbehind, truckOf_removeAssists, truckOf_of_keeps (sup_keeps _ _),
      truckOf_of_keeps (answered_keeps s 0x2C tag _ _)]
  · conv_lhs => rw [eq_of_keeps_supTrucks (attend_keeps _), attend_sup, answered_sup]

end

/-! ## The statements -/

/-- Settles O6: a request moves the Console Supervisor only from the armed window on; a failed frame and a gap touch the
port alone; SET_SUPERVISION acts on the window just armed. -/
theorem acceptedFrameArmsWindow : Obligations.AcceptedFrameArmsWindow := by
  unfold Obligations.AcceptedFrameArmsWindow
  refine ⟨fun c k tag s hc hheld => ?request, exec_failedFrame_sup, exec_octetGap_sup, fun s tag mode window h hmode => ?set⟩
  case request =>
    obtain ⟨t, hexec, hmoves⟩ := exec_request_supMoves hc hheld
    exact ⟨t, hexec, hmoves.lastValid, hmoves.settings, hmoves.console⟩
  case set =>
    obtain ⟨m, hm, hon⟩ : ∃ m, supModeOf mode = some m ∧ m ≠ .off := by
      obtain rfl | rfl := hmode
      · exact ⟨.report, rfl, by decide⟩
      · exact ⟨.act, rfl, by decide⟩
    exact ⟨_, exec_setSupervision hm h tag window, if_neg hon⟩

/-- Settles O43: SET_SUPERVISION by whether its mode is one, RESUME by the console state it finds. -/
theorem supervisionAndResume : Obligations.SupervisionAndResume := by
  unfold Obligations.SupervisionAndResume
  intro s tag h
  refine ⟨fun mode window => ?_, exec_resume_attended h tag, exec_resume_unattended h tag⟩
  rw [← supModeOf_eq]
  split
  · exact refuses_of_refuse h rfl rfl fun _ _ => setSupervision_badField ‹_› window
  · exact exec_setSupervision ‹_› h tag window

end Sys2Proof.Machine

/-!
PROOFS. What a step may do, said once: the single moves a state makes, each with what is known where it is made, and the
paths of such moves. Every operation of the part is a path (the files behind this one); every invariant is then a
statement about single moves.
-/
namespace Sys2Proof.Machine

/-! ## Rights -/

/-- What only some commands may do. A path is over a set of rights; with none of them it leaves alone what they name. -/
inductive Right where
  | watch (truck : Nat)
  | recover (truck : Nat)
  | closeAlarm (truck seat : Nat)
  | movePoint (point : Nat)
  | resume (permit : Nat)
  | attend
  | leave
  | enroll
  | remove
  | load
  | retire
  | schedule
  | turn
  | period
  | clear
  | queue
  | buffer

/-! ## Records -/

/-- What SlotsInv asks of one truck. -/
def Truck.SlotsOk (t : Truck) : Prop :=
  t.orderSlots.Nodup ∧ t.orderSlots.length ≤ 4 ∧ t.permitSlots.Nodup ∧ t.permitSlots.length ≤ 2
    ∧ t.upAcks.Nodup ∧ t.upAcks.length ≤ 4 ∧ reachFits t.reach t.miss

/-- What QueuesInv asks of one truck. -/
def Truck.QueueOk (t : Truck) : Prop := QueueWf t.queue ∧ t.seqCtr < 256

/-- What TriedInv asks of one order. -/
def Order.TriedOk (o : Order) : Prop :=
  o.cands.Nodup ∧ o.cands.length ≤ 4 ∧ o.tried.Nodup ∧ ∀ n ∈ o.tried, n ∈ o.cands

/-- What HoldsInv asks of one point. -/
def Point.HoldsOk (q : Point) : Prop :=
  q.holds.length ≤ 4 ∧ (q.holds.map Hold.permit).Nodup ∧ ∃ x, ∀ h ∈ q.holds, h.position = x

/-- What CausesInv asks of one permit. -/
def Permit.CausesOk (p : Permit) : Prop :=
  (p.state.isOpen = false → p.causes = Causes.none) ∧ (p.state = .loaded ∨ p.state = .issued → p.causes.site = false)

/-- What SchedulerInv asks of the Scheduler. -/
def Air.PhaseOk (a : Air) : Prop :=
  (a.phase = .list → a.turn.isSome = true) ∧ (a.phase = .window → a.turn = none) ∧
    (a.phase = .gap → a.startReached = true → a.turn.isSome = true)

/-- A change of the Scheduler that keeps the pairing of phase and turn. -/
def Air.PhaseKept (a b : Air) : Prop := a.PhaseOk → b.PhaseOk

/-- Phase, turn and reached start are as they were. -/
def Air.SamePhase (a b : Air) : Prop := b.phase = a.phase ∧ b.turn = a.turn ∧ b.startReached = a.startReached

/-- The step a GRANT names is one of a permit that truck `n` holds, and needs no dispatcher while the console is
UNATTENDED (R104). -/
def GrantStands (s : State) (n : Nat) (c : AnswerContent) : Prop :=
  ∃ p x, permitOf s c.permit = some p ∧ p.holder = n ∧ p.step c.step = some x ∧
    (s.sup.console = .unattended → x.action.energizing = false ∧ x.confirm = false)

/-- The records of a queue that hold a GRANT have the content of an earlier one, or one that stands. -/
def GrantsFrom (s : State) (n : Nat) (q q' : List Rec) : Prop :=
  ∀ r ∈ q', ∀ c, r.content = .answer c → c.kind = .grant → (∃ r' ∈ q, r'.content = .answer c) ∨ GrantStands s n c

/-- A context in ALARM stays so under its alarm mode, or is closed, or recovers from another mode than LATCHED. -/
def AlarmMove (A : Right → Prop) (n seat : Nat) (w w' : Watch) : Prop :=
  w.state = .alarm → (w'.state = .alarm ∧ w'.set.alarm = w.set.alarm) ∨ A (.closeAlarm n seat) ∨
    (w.set.alarm ≠ .latched ∧ A (.recover n))

/-- One move of a truck's record. -/
structure TruckMove (A : Right → Prop) (s : State) (k k' : Truck) : Prop where
  num : k'.num = k.num
  slots : k.SlotsOk → k'.SlotsOk
  queue : k.QueueOk → k'.QueueOk
  subjects : (k.queue.map Rec.subject).Nodup → (k'.queue.map Rec.subject).Nodup
  grants : GrantsFrom s k.num k.queue k'.queue
  fits1 : deadlineFits k.w1 → deadlineFits k'.w1
  fits2 : deadlineFits k.w2 → deadlineFits k'.w2
  alarm1 : AlarmMove A k.num 1 k.w1 k'.w1
  alarm2 : AlarmMove A k.num 2 k.w2 k'.w2
  heard : k.reach ≠ .absent → k'.reach ≠ .absent
  watch : (k'.w1 = k.w1 ∧ k'.w2 = k.w2) ∨ A (.watch k.num)

/-- One move of an order. -/
structure OrderMove (o o' : Order) : Prop where
  num : o'.num = o.num
  tried : o.TriedOk → o'.TriedOk

/-- The latched causes of `c` stand in `d` (R78). -/
def LatchedKept (c d : Causes) : Prop :=
  (c.host = true → d.host = true) ∧ (c.alarm = true → d.alarm = true) ∧ (c.mismatch = true → d.mismatch = true) ∧
    (c.conflict = true → d.conflict = true)

/-- One move of a permit. -/
structure PermitMove (A : Right → Prop) (p p' : Permit) : Prop where
  num : p'.num = p.num
  holder : p'.holder = p.holder
  points : p'.points = p.points
  steps : ∀ i x, p.step i = some x → ∃ y, p'.step i = some y ∧ y.action = x.action ∧ y.confirm = x.confirm
  causes : p.CausesOk → p'.CausesOk
  rank : p.state.rank ≤ p'.state.rank
  final : p.state.isOpen = false → p'.state = p.state
  latched : A (.resume p.num) ∨ (p'.state.isOpen = true → LatchedKept p.causes p'.causes)

/-- One move of a point. -/
structure PointMove (A : Right → Prop) (q q' : Point) : Prop where
  num : q'.num = q.num
  refs : q'.refCount = q.refCount
  holds : q.HoldsOk → q'.HoldsOk
  position : q'.position = q.position ∨ A (.movePoint q.num)

/-! ## Moves -/

/-- The fields no invariant speaks of. -/
def freeFields : List Field := [.clock, .held, .timeouts, .policy, .graces, .askArb]

/-- The Load Meter but for its figure and band, which a period end alone moves (R165), with a staged set that fits. -/
structure LoadMove (A : Right → Prop) (m m' : Load) : Prop where
  level : m'.level = m.level
  band : m'.band = m.band
  thr : m'.thr = m.thr
  staged : ∀ x, m'.thrStaged = some x → m.thrStaged = some x ∨ thresholdsFit x
  sample : m'.sample = m.sample ∨ A .clear

/-- A permit put into the table with the references to its points (R68). -/
def withPermit (s : State) (p : Permit) : State :=
  eachOf addRef p.points { s with permits := insertBy Permit.num p s.permits }

/-- A permit taken out of the table with the references to its points (R86). -/
def withoutPermit (s : State) (p : Permit) : State :=
  { eachOf dropRef p.points s with permits := eraseBy Permit.num p.num (eachOf dropRef p.points s).permits }

/-- One move of the part under a set of rights. -/
inductive Move (A : Right → Prop) (s : State) : State → Prop
  | frame {t : State} (h : Keeps freeFields s t) : Move A s t
  | port (p : Port) (hbuffer : s.port.buffer.length ≤ 4 → p.buffer.length ≤ 4)
      (hnotices : s.port.notices.length ≤ 64 → p.notices.length ≤ 64) (hkept : p.buffer = s.port.buffer ∨ A .buffer) :
      Move A s { s with port := p }
  | sup (x : Sup) (hx : x.console = s.sup.console) : Move A s { s with sup := x }
  | attend (h : A .attend) : Move A s { s with sup := { s.sup with console := .attended } }
  | leave (h : A .leave) : Move A s { s with sup := { s.sup with console := .unattended } }
  | truck (n : Nat) (f : Truck → Truck) (hnum : ∀ k, k.num = n → (f k).num = n)
      (h : ∀ k, truckOf s n = some k → TruckMove A s k (f k)) :
      Move A s (modTruck s n f)
  | enroll (n : Nat) (h : A .enroll) (hlo : 1 ≤ n) (hhi : n ≤ 999) (hnew : truckOf s n = none)
      (hroom : s.trucks.length < 64) : Move A s { s with trucks := insertBy Truck.num (Truck.fresh n) s.trucks }
  | remove (n : Nat) (h : A .remove) : Move A s { s with trucks := eraseBy Truck.num n s.trucks }
  | order (n : Nat) (f : Order → Order) (hnum : ∀ o, o.num = n → (f o).num = n)
      (h : ∀ o, orderOf s n = some o → OrderMove o (f o)) : Move A s (modOrder s n f)
  | postOrder (o : Order) (hnew : orderOf s o.num = none) (hroom : s.orders.length < 128) (ho : o.TriedOk) :
      Move A s { s with orders := insertBy Order.num o s.orders }
  | retireOrder (n : Nat) : Move A s { s with orders := eraseBy Order.num n s.orders }
  | permit (n : Nat) (f : Permit → Permit) (hnum : ∀ p, p.num = n → (f p).num = n)
      (h : ∀ p, permitOf s n = some p → PermitMove A p (f p)) :
      Move A s (modPermit s n f)
  | loadPermit (p : Permit) (h : A .load) (hnew : permitOf s p.num = none) (hroom : s.permits.length < 32)
      (hpoints : s.points.length + (p.points.filter fun n => (pointOf s n).isNone).length ≤ 256) (hp : p.CausesOk) :
      Move A s (withPermit s p)
  | retirePermit (p : Permit) (h : A .retire) (hp : permitOf s p.num = some p)
      (ha : recOf s p.holder (.answer p.num) = none) : Move A s (withoutPermit s p)
  | point (n : Nat) (f : Point → Point) (hnum : ∀ q, q.num = n → (f q).num = n)
      (h : ∀ q, pointOf s n = some q → PointMove A q (f q)) :
      Move A s (modPoint s n f)
  | points (f : Point → Point) (h : ∀ q, PointMove A q (f q)) : Move A s { s with points := s.points.map f }
  | asks (l : List Ask) (hroom : s.asks.length ≤ 16 → l.length ≤ 16)
      (h : s.sup.console = .unattended → s.asks = [] → l = []) : Move A s { s with asks := l }
  | air (a : Air) (h : A .schedule ∨ A .turn ∧ s.air.PhaseKept a ∨ s.air.SamePhase a) : Move A s { s with air := a }
  | sites (l : List Site) (h : SitesInv s → SitesInv { s with sites := l }) : Move A s { s with sites := l }
  | meter (m : Load) (h : LoadMove A s.load m) : Move A s { s with load := m }
  | queue (l : List Instr) (n : Nat) (h : A .queue) : Move A s { s with pending := l, choices := n }
  | period (h : A .period) : Move A s { s with load := s.load.afterPeriod }
  | clear (h : A .clear) : Move A s { s with
      trucks := [], orders := [], permits := [], points := [], asks := []
      sup := { s.sup with console := .unattended } }

/-- One move after another. -/
def Path (A : Right → Prop) : State → State → Prop := Relation.ReflTransGen (Move A)

theorem Path.refl {A : Right → Prop} (s : State) : Path A s s := Relation.ReflTransGen.refl

theorem Path.trans {A : Right → Prop} {s t u : State} (h : Path A s t) (h' : Path A t u) : Path A s u :=
  Relation.ReflTransGen.trans h h'

/-- A path under some rights is one under more. -/
theorem TruckMove.mono {A B : Right → Prop} (hAB : ∀ r, A r → B r) {s : State} {k k' : Truck} (h : TruckMove A s k k') :
    TruckMove B s k k' := { h with
  alarm1 := fun ha => (h.alarm1 ha).imp_right (.imp (hAB _) (.imp_right (hAB _)))
  alarm2 := fun ha => (h.alarm2 ha).imp_right (.imp (hAB _) (.imp_right (hAB _)))
  watch := h.watch.imp_right (hAB _) }

theorem Move.mono {A B : Right → Prop} (hAB : ∀ r, A r → B r) {s t : State} (h : Move A s t) : Move B s t := by
  cases h with
  | frame h => exact .frame h
  | port p hbuffer hnotices hkept => exact .port p hbuffer hnotices (hkept.imp_right (hAB _))
  | sup x hx => exact .sup x hx
  | attend h => exact .attend (hAB _ h)
  | leave h => exact .leave (hAB _ h)
  | truck n f hnum h => exact .truck n f hnum fun k hk => (h k hk).mono hAB
  | enroll n h hlo hhi hnew hroom => exact .enroll n (hAB _ h) hlo hhi hnew hroom
  | remove n h => exact .remove n (hAB _ h)
  | order n f hnum h => exact .order n f hnum h
  | postOrder o hnew hroom ho => exact .postOrder o hnew hroom ho
  | retireOrder n => exact .retireOrder n
  | permit n f hnum h => exact .permit n f hnum fun p hp => { h p hp with latched := (h p hp).latched.imp_left (hAB _) }
  | loadPermit p h hnew hroom hpoints hp => exact .loadPermit p (hAB _ h) hnew hroom hpoints hp
  | retirePermit p h hp ha => exact .retirePermit p (hAB _ h) hp ha
  | point n f hnum h => exact .point n f hnum fun q hq => { h q hq with position := (h q hq).position.imp_right (hAB _) }
  | points f h => exact .points f fun q => { h q with position := (h q).position.imp_right (hAB _) }
  | asks l hroom h => exact .asks l hroom h
  | air a h => exact .air a (h.imp (hAB _) (.imp_left (.imp_left (hAB _))))
  | sites l h => exact .sites l h
  | meter m h => exact .meter m { h with sample := h.sample.imp_right (hAB _) }
  | queue l n h => exact .queue l n (hAB _ h)
  | period h => exact .period (hAB _ h)
  | clear h => exact .clear (hAB _ h)

theorem Path.mono {A B : Right → Prop} (hAB : ∀ r, A r → B r) {s t : State} (h : Path A s t) : Path B s t := by
  induction h with
  | refl => exact Relation.ReflTransGen.refl
  | tail _ hm ih => exact ih.tail (hm.mono hAB)

theorem Move.path {A : Right → Prop} {s t : State} (h : Move A s t) : Path A s t := Relation.ReflTransGen.single h

section
variable {A : Right → Prop} (s : State)

theorem modTruck_path (n : Nat) (f : Truck → Truck) (h : ∀ k, truckOf s n = some k → TruckMove A s k (f k))
    (hnum : ∀ k, k.num = n → (f k).num = n := by simp) : Path A s (modTruck s n f) := (Move.truck n f hnum h).path

theorem modOrder_path (n : Nat) (f : Order → Order) (h : ∀ o, orderOf s n = some o → OrderMove o (f o))
    (hnum : ∀ o, o.num = n → (f o).num = n := by simp) : Path A s (modOrder s n f) := (Move.order n f hnum h).path

theorem modPermit_path (n : Nat) (f : Permit → Permit) (h : ∀ p, permitOf s n = some p → PermitMove A p (f p))
    (hnum : ∀ p, p.num = n → (f p).num = n := by simp) : Path A s (modPermit s n f) := (Move.permit n f hnum h).path

theorem modPoint_path (n : Nat) (f : Point → Point) (h : ∀ q, pointOf s n = some q → PointMove A q (f q))
    (hnum : ∀ q, q.num = n → (f q).num = n := by simp) : Path A s (modPoint s n f) := (Move.point n f hnum h).path

end

/-- A fold of operations that are paths is one. -/
theorem Path.foldl {A : Right → Prop} {α : Type} {f : State → α → State} (h : ∀ s a, Path A s (f s a)) (l : List α)
    (s : State) : Path A s (l.foldl f s) := by
  induction l generalizing s with
  | nil => exact .refl s
  | cons a l ih => exact (h s a).trans (ih (f s a))

/-- A state property that every move keeps is kept along a path. -/
theorem Path.keeps {A : Right → Prop} {P : State → Prop} (h : ∀ {s t}, Move A s t → P s → P t) {s t : State}
    (hp : Path A s t) : P s → P t := by
  induction hp with
  | refl => exact id
  | tail _ hm ih => exact fun hs => h hm (ih hs)

/-- A relation that every move is in, reflexive and transitive, holds along a path. -/
theorem Path.relates {A : Right → Prop} {R : State → State → Prop} (hrefl : ∀ s, R s s)
    (htrans : ∀ {s t u}, R s t → R t u → R s u) (h : ∀ {s t}, Move A s t → R s t) {s t : State} (hp : Path A s t) :
    R s t := by
  induction hp with
  | refl => exact hrefl s
  | tail _ hm ih => exact htrans ih (h hm)

end Sys2Proof.Machine

/-!
PROOFS. The queue operations of the Delivery Unit keep a queue well formed (R112, R115 to R118): first what they do to
the multiset of records, then that every ANSWER stays immediately behind its PERMIT record.
-/
namespace Sys2Proof.Machine

/-! ## The records of a rearranged queue -/

theorem behindRun_perm (q : List Rec) (r : Rec) : (behindRun q r).Perm (r :: q) := by
  have h : behindRun q r = urgentRun q ++ r :: routinePart q := rfl
  rw [h]
  exact List.perm_middle.trans (by rw [run_part])

theorem behindSubject_perm (x : Subject) (r : Rec) (q : List Rec) : (behindSubject x r q).Perm (r :: q) := by
  obtain ⟨a, b, h1, h2⟩ := behindSubject_split x r q
  rw [h1, h2]
  exact List.perm_middle

theorem without_of_forall_ne {q : List Rec} {x : Subject} (h : ∀ r ∈ q, r.subject ≠ x) : without q x = q :=
  List.filter_eq_self.mpr fun r hr => by simpa using h r hr

theorem without_cons (r : Rec) (q : List Rec) (x : Subject) :
    without (r :: q) x = if r.subject = x then without q x else r :: without q x := by
  by_cases h : r.subject = x <;> simp [without, h]

/-- In a queue of one record a subject, a subject's record and the queue without it are the queue. -/
theorem cons_without_perm {q : List Rec} {x : Subject} {r : Rec} (hn : (q.map Rec.subject).Nodup)
    (h : recFor q x = some r) : (r :: without q x).Perm q := by
  induction q with
  | nil => simp at h
  | cons y q ih =>
    rw [List.map_cons, List.nodup_cons] at hn
    rw [recFor_cons] at h
    rw [without_cons]
    by_cases hy : y.subject = x
    · rw [if_pos hy] at h ⊢
      obtain rfl := Option.some.inj h
      have hne : ∀ z ∈ q, z.subject ≠ x := fun z hz e => hn.1 (hy ▸ e ▸ List.mem_map_of_mem hz)
      rw [without_of_forall_ne hne]
    · rw [if_neg hy] at h ⊢
      exact (List.Perm.swap y r _).trans ((ih hn.2 h).cons y)

theorem tuckAnswer_perm {q : List Rec} (hn : (q.map Rec.subject).Nodup) (p : Nat) : (tuckAnswer p q).Perm q := by
  unfold tuckAnswer
  split
  · rename_i a ha
    split
    · exact (behindSubject_perm _ a _).trans (cons_without_perm hn ha)
    · exact .refl q
  · exact .refl q

theorem tuckFor_perm {q : List Rec} (hn : (q.map Rec.subject).Nodup) (x : Subject) : (tuckFor x q).Perm q := by
  unfold tuckFor
  split
  · exact tuckAnswer_perm hn _
  · exact .refl q

theorem nodup_cons_of_recFor_none {q : List Rec} {r : Rec} (hn : (q.map Rec.subject).Nodup)
    (hr : recFor q r.subject = none) : ((r :: q).map Rec.subject).Nodup := by
  rw [List.map_cons, List.nodup_cons]
  refine ⟨fun hm => ?_, hn⟩
  obtain ⟨y, hy, e⟩ := List.mem_map.mp hm
  exact recFor_none.mp hr y hy e

theorem placeNew_perm {q : List Rec} {r : Rec} (hn : (q.map Rec.subject).Nodup) (hr : recFor q r.subject = none) :
    (placeNew q r).Perm (r :: q) := by
  unfold placeNew
  split
  · split
    · exact behindSubject_perm _ r q
    · exact behindRun_perm q r
  · have hplaced : (if r.urgent then behindRun q r else q ++ [r]).Perm (r :: q) := by
      split
      · exact behindRun_perm q r
      · exact List.perm_append_comm
    refine (tuckFor_perm ?_ _).trans hplaced
    exact ((hplaced.map Rec.subject).nodup_iff).mpr (nodup_cons_of_recFor_none hn hr)

theorem nodup_without {q : List Rec} (hn : (q.map Rec.subject).Nodup) (x : Subject) :
    ((without q x).map Rec.subject).Nodup := hn.sublist (List.filter_sublist.map _)

theorem map_replace_perm {q : List Rec} {old new : Rec} (hn : (q.map Rec.subject).Nodup)
    (hq : recFor q old.subject = some old) :
    (q.map fun r => if r.subject = old.subject then new else r).Perm (new :: without q old.subject) := by
  induction q with
  | nil => simp at hq
  | cons y q ih =>
    rw [List.map_cons, List.nodup_cons] at hn
    rw [recFor_cons] at hq
    rw [without_cons, List.map_cons]
    by_cases hy : y.subject = old.subject
    · have hne : ∀ z ∈ q, z.subject ≠ old.subject := fun z hz e => hn.1 (hy ▸ e ▸ List.mem_map_of_mem hz)
      rw [if_pos hy, if_pos hy, without_of_forall_ne hne, List.map_congr_left fun z hz => if_neg (hne z hz), List.map_id']
    · rw [if_neg hy] at hq ⊢
      rw [if_neg hy]
      exact ((ih hn.2 hq).cons y).trans (List.Perm.swap new y _)

theorem placeUpdated_perm {q : List Rec} {old new : Rec} (hn : (q.map Rec.subject).Nodup)
    (hq : recFor q old.subject = some old) (hs : new.subject = old.subject) :
    (placeUpdated q old new).Perm (new :: without q old.subject) := by
  unfold placeUpdated
  split
  · exact map_replace_perm hn hq
  · refine (tuckFor_perm ?_ _).trans (behindRun_perm _ new)
    refine (((behindRun_perm _ new).map Rec.subject).nodup_iff).mpr (nodup_cons_of_recFor_none (nodup_without hn _) ?_)
    rw [recFor_without, if_pos hs]

theorem afterLeaving_perm {q : List Rec} (hn : (q.map Rec.subject).Nodup) (x : Subject) :
    (afterLeaving q x).Perm (without q x) := by
  unfold afterLeaving
  split
  · rename_i p
    split
    · split
      · rename_i a ha
        refine (behindRun_perm _ a).trans (cons_without_perm (nodup_without hn _) ?_)
        obtain ⟨hs, hm⟩ := recFor_some ha
        rw [recFor_without, if_neg (by simp)]
        have hrun : recFor (urgentRun q) (.answer p) = none := by
          rw [recFor_none]
          intro r hr e
          rw [← run_part q, List.map_append, List.nodup_append] at hn
          exact hn.2.2 _ (List.mem_map_of_mem hr) _ (List.mem_map_of_mem hm) (by rw [e, hs])
        rw [← run_part q, recFor_append, hrun, ha]
        rfl
      · exact .refl _
    · exact .refl _
  · exact .refl _

/-! ## Records a queue has after an operation -/

theorem mem_tuckFor {q : List Rec} {x : Subject} {r : Rec} (h : r ∈ tuckFor x q) : r ∈ q := by
  unfold tuckFor at h
  split at h
  · unfold tuckAnswer at h
    split at h
    · rename_i a ha
      split at h
      · rw [(behindSubject_perm _ a _).mem_iff, List.mem_cons] at h
        exact h.elim (fun e => e ▸ (recFor_some ha).2) List.mem_of_mem_filter
      · exact h
    · exact h
  · exact h

theorem mem_placeNew {q : List Rec} {r x : Rec} (h : x ∈ placeNew q r) : x = r ∨ x ∈ q := by
  unfold placeNew at h
  split at h
  · split at h
    · exact List.mem_cons.mp ((behindSubject_perm _ r q).mem_iff.mp h)
    · exact List.mem_cons.mp ((behindRun_perm q r).mem_iff.mp h)
  · have h' := mem_tuckFor h
    split at h'
    · exact List.mem_cons.mp ((behindRun_perm q r).mem_iff.mp h')
    · exact (List.mem_append.mp h').symm.imp_left List.mem_singleton.mp

theorem mem_placeUpdated {q : List Rec} {old new x : Rec} (h : x ∈ placeUpdated q old new) : x = new ∨ x ∈ q := by
  unfold placeUpdated at h
  split at h
  · obtain ⟨y, hy, e⟩ := List.mem_map.mp h
    split at e
    · exact .inl e.symm
    · exact .inr (e ▸ hy)
  · exact (List.mem_cons.mp ((behindRun_perm _ new).mem_iff.mp (mem_tuckFor h))).imp_right List.mem_of_mem_filter

theorem mem_afterLeaving {q : List Rec} {x : Subject} {r : Rec} (h : r ∈ afterLeaving q x) : r ∈ q := by
  unfold afterLeaving at h
  split at h
  · split at h
    · split at h
      · rename_i a ha
        rw [(behindRun_perm _ a).mem_iff, List.mem_cons] at h
        exact h.elim (fun e => e ▸ (List.dropWhile_sublist _).subset (recFor_some ha).2)
          fun hr => List.mem_of_mem_filter (List.mem_of_mem_filter hr)
      · exact List.mem_of_mem_filter h
    · exact List.mem_of_mem_filter h
  · exact List.mem_of_mem_filter h

/-! ## An ANSWER stays behind its PERMIT record (R117) -/

/-- Every ANSWER stands immediately behind its PERMIT record where both stand. -/
def AnswersBehind (l : List Subject) : Prop :=
  ∀ p, .permit p ∈ l → .answer p ∈ l → standsBehind (.permit p) (.answer p) l

/-- A subject put between two that stand one behind the other would part them; anywhere else it does not. -/
theorem standsBehind_insert {a b x : Subject} {l1 l2 : List Subject} (h : standsBehind a b (l1 ++ l2))
    (hx : l1.getLast? ≠ some a ∨ l2.head? ≠ some b) : standsBehind a b (l1 ++ x :: l2) := by
  obtain ⟨m1, m2, e⟩ := h
  obtain ⟨c, rfl, e2⟩ | ⟨c, rfl, e2⟩ := List.append_eq_append_iff.mp e
  · exact ⟨l1 ++ x :: c, m2, by simp [e2]⟩
  · match c with
    | [] =>
      simp only [List.nil_append] at e2
      exact ⟨m1 ++ [x], m2, by simp [← e2]⟩
    | [y] =>
      simp only [List.cons_append, List.nil_append, List.cons.injEq] at e2
      obtain ⟨rfl, rfl⟩ := e2
      simp at hx
    | y :: z :: c =>
      simp only [List.cons_append, List.cons.injEq] at e2
      obtain ⟨rfl, rfl, rfl⟩ := e2
      exact ⟨m1, c ++ x :: l2, by simp⟩

theorem standsBehind_filter {a b : Subject} {l : List Subject} (h : standsBehind a b l) (p : Subject → Bool)
    (ha : p a = true) (hb : p b = true) : standsBehind a b (l.filter p) := by
  obtain ⟨l1, l2, rfl⟩ := h
  exact ⟨l1.filter p, l2.filter p, by simp [ha, hb]⟩

theorem without_map_subject (q : List Rec) (x : Subject) :
    (without q x).map Rec.subject = (q.map Rec.subject).filter (· != x) := by
  simp [without, List.filter_map, Function.comp_def]

theorem AnswersBehind.without {q : List Rec} (h : AnswersBehind (q.map Rec.subject)) (x : Subject) :
    AnswersBehind ((without q x).map Rec.subject) := by
  intro p hp ha
  rw [without_map_subject] at hp ha ⊢
  obtain ⟨hp, hpx⟩ := List.mem_filter.mp hp
  obtain ⟨ha, hax⟩ := List.mem_filter.mp ha
  exact standsBehind_filter (h p hp ha) _ hpx hax

theorem Rec.urgent_of_answer {r : Rec} {p : Nat} (h : r.subject = .answer p) : r.urgent = true := by
  unfold Rec.subject at h
  unfold Rec.urgent
  cases hc : r.content <;> simp_all [Content.subject, Content.urgent]

/-- The routine part is led by no ANSWER, as an ANSWER is urgent (R113, R116). -/
theorem routinePart_head_ne_answer (q : List Rec) (p : Nat) :
    ((routinePart q).map Rec.subject).head? ≠ some (.answer p) := by
  intro h
  rw [List.head?_map, Option.map_eq_some_iff] at h
  obtain ⟨r, hr, hs⟩ := h
  have hu := List.head?_dropWhile_not Rec.urgent q
  rw [show (q.dropWhile Rec.urgent).head? = some r from hr] at hu
  simp [Rec.urgent_of_answer hs] at hu

/-- A record put at the end of the urgent run parts no ANSWER from its PERMIT record; of the record's own permit nothing
is said. -/
theorem standsBehind_behindRun {q : List Rec} {p : Nat} (r : Rec)
    (h : standsBehind (.permit p) (.answer p) (q.map Rec.subject)) :
    standsBehind (.permit p) (.answer p) ((behindRun q r).map Rec.subject) := by
  rw [← run_part q, List.map_append] at h
  simpa [behindRun] using standsBehind_insert (x := r.subject) h (.inr (routinePart_head_ne_answer q p))

theorem behindSubject_split_last {x : Subject} (r : Rec) {q : List Rec} (hx : x ∈ q.map Rec.subject) :
    ∃ a b, behindSubject x r q = a ++ r :: b ∧ q = a ++ b ∧ (a.map Rec.subject).getLast? = some x := by
  induction q with
  | nil => simp at hx
  | cons y q ih =>
    unfold behindSubject
    split
    · rename_i hy
      exact ⟨[y], q, rfl, rfl, by simp [hy]⟩
    · rename_i hy
      obtain ⟨a, b, h1, h2, h3⟩ := ih (by simpa [Ne.symm hy] using hx)
      refine ⟨y :: a, b, by rw [h1]; rfl, by rw [h2]; rfl, ?_⟩
      cases a with
      | nil => simp at h3
      | cons z a => simpa using h3

/-- An ANSWER put behind its PERMIT record, where none stands for that permit. -/
theorem AnswersBehind.behindSubject {q : List Rec} {r : Rec} {p : Nat} (h : AnswersBehind (q.map Rec.subject))
    (hr : r.subject = .answer p) (hp : .permit p ∈ q.map Rec.subject) :
    AnswersBehind ((behindSubject (.permit p) r q).map Rec.subject) := by
  obtain ⟨a, b, h1, rfl, hlast⟩ := behindSubject_split_last r hp
  rw [h1]
  simp only [List.map_append, List.map_cons, hr] at h ⊢
  intro m hm ha
  by_cases e : m = p
  · subst e
    obtain ⟨a', ha'⟩ := List.getLast?_eq_some_iff.mp hlast
    exact ⟨a', b.map Rec.subject, by rw [ha']; simp⟩
  · refine standsBehind_insert (h m ?_ ?_) (.inl ?_)
    · simpa using hm
    · simpa [e] using ha
    · rw [hlast]
      simpa using Ne.symm e

theorem AnswersBehind.tuckAnswer {q : List Rec} {p : Nat}
    (h : ∀ m, m ≠ p → .permit m ∈ q.map Rec.subject → .answer m ∈ q.map Rec.subject →
      standsBehind (.permit m) (.answer m) (q.map Rec.subject)) : AnswersBehind ((tuckAnswer p q).map Rec.subject) := by
  have hmem : ∀ {x : Subject}, x ∈ q.map Rec.subject ↔ (recFor q x).isSome = true := by
    intro x
    rw [List.mem_map, Option.isSome_iff_ne_none, Ne, recFor_none]
    push Not
    rfl
  unfold Sys2Proof.Machine.tuckAnswer
  split
  · rename_i a ha
    have hs := (recFor_some ha).1
    split
    · rename_i hp
      have hrest : AnswersBehind ((Sys2Proof.Machine.without q (.answer p)).map Rec.subject) := by
        intro m hm hma
        rw [without_map_subject] at hm hma ⊢
        obtain ⟨hm, hmx⟩ := List.mem_filter.mp hm
        obtain ⟨hma, hmax⟩ := List.mem_filter.mp hma
        exact standsBehind_filter (h m (by simpa using hmax) hm hma) _ hmx hmax
      refine hrest.behindSubject hs ?_
      rw [without_map_subject]
      exact List.mem_filter.mpr ⟨hmem.mpr hp, by simp⟩
    · rename_i hp
      intro m hm hma
      refine h m (fun e => hp (hmem.mp (e ▸ hm))) hm hma
  · rename_i ha
    intro m hm hma
    refine h m (fun e => ?_) hm hma
    subst e
    rw [hmem, ha] at hma
    exact absurd hma (by simp)

/-- A record of another kind than ANSWER put at the end of the urgent run, or one for which no PERMIT record stands,
and then its ANSWER behind it. -/
theorem AnswersBehind.tuckFor_behindRun {q : List Rec} {r : Rec} (h : AnswersBehind (q.map Rec.subject))
    (hr : ∀ p, r.subject ≠ .answer p) : AnswersBehind ((tuckFor r.subject (behindRun q r)).map Rec.subject) := by
  have hother : ∀ m, r.subject ≠ .permit m → .permit m ∈ (behindRun q r).map Rec.subject →
      .answer m ∈ (behindRun q r).map Rec.subject →
      standsBehind (.permit m) (.answer m) ((behindRun q r).map Rec.subject) := by
    intro m hm hp ha
    rw [((behindRun_perm q r).map Rec.subject).mem_iff, List.map_cons, List.mem_cons] at hp ha
    exact standsBehind_behindRun r (h m (hp.resolve_left (Ne.symm hm)) (ha.resolve_left (Ne.symm (hr m))))
  unfold tuckFor
  split
  · rename_i p hs
    exact .tuckAnswer fun m hm => hother m (by rw [hs]; simpa using Ne.symm hm)
  · rename_i hs
    exact fun m => hother m (hs m)

theorem AnswersBehind.placeNew {q : List Rec} {r : Rec} (h : AnswersBehind (q.map Rec.subject)) :
    AnswersBehind ((placeNew q r).map Rec.subject) := by
  unfold Sys2Proof.Machine.placeNew
  split
  · rename_i p hr
    split
    · rename_i hp
      refine h.behindSubject hr ?_
      obtain ⟨y, hy⟩ := Option.isSome_iff_exists.mp hp
      exact List.mem_map.mpr ⟨y, (recFor_some hy).2, (recFor_some hy).1⟩
    · rename_i hp
      intro m hm ha
      have hpm : recFor q (.permit p) = none := by simpa using hp
      rw [((behindRun_perm q r).map Rec.subject).mem_iff, List.map_cons, List.mem_cons, hr] at hm ha
      have hm' := hm.resolve_left (by simp)
      have hne : m ≠ p := by
        rintro rfl
        obtain ⟨y, hy, e⟩ := List.mem_map.mp hm'
        exact recFor_none.mp hpm y hy e
      exact standsBehind_behindRun r (h m hm' (ha.resolve_left (by simpa using hne)))
  · rename_i hr
    split
    · exact h.tuckFor_behindRun hr
    · have hother : ∀ m, r.subject ≠ .permit m → .permit m ∈ (q ++ [r]).map Rec.subject →
          .answer m ∈ (q ++ [r]).map Rec.subject →
          standsBehind (.permit m) (.answer m) ((q ++ [r]).map Rec.subject) := by
        intro m hm hp ha
        simp only [List.map_append, List.map_cons, List.map_nil, List.mem_append, List.mem_singleton] at hp ha ⊢
        have hback := h m (hp.resolve_right (Ne.symm hm)) (ha.resolve_right (Ne.symm (hr m)))
        exact standsBehind_insert (l2 := []) (by simpa using hback) (.inr (by simp))
      unfold tuckFor
      split
      · rename_i p hs
        exact .tuckAnswer fun m hm => hother m (by rw [hs]; simpa using Ne.symm hm)
      · rename_i hs
        exact fun m => hother m (hs m)

theorem AnswersBehind.placeUpdated {q : List Rec} {old new : Rec} (h : AnswersBehind (q.map Rec.subject))
    (hs : new.subject = old.subject) : AnswersBehind ((placeUpdated q old new).map Rec.subject) := by
  unfold Sys2Proof.Machine.placeUpdated
  split
  · have e : (q.map fun r => if r.subject = old.subject then new else r).map Rec.subject = q.map Rec.subject := by
      rw [List.map_map]
      refine List.map_congr_left fun r _ => ?_
      by_cases hr : r.subject = old.subject <;> simp [hr, hs]
    rw [e]
    exact h
  · rename_i hclass
    refine (h.without old.subject).tuckFor_behindRun fun p hp => hclass ?_
    rw [Rec.urgent_of_answer hp, Rec.urgent_of_answer (hs ▸ hp)]

theorem AnswersBehind.afterLeaving {q : List Rec}
    (h : AnswersBehind (q.map Rec.subject)) (x : Subject) : AnswersBehind ((afterLeaving q x).map Rec.subject) := by
  unfold Sys2Proof.Machine.afterLeaving
  split
  · rename_i p
    split
    · split
      · rename_i a ha
        have hs := (recFor_some ha).1
        intro m hm hma
        rw [((behindRun_perm _ a).map Rec.subject).mem_iff, List.map_cons, List.mem_cons, hs] at hm hma
        have hm' := hm.resolve_left (by simp)
        have hne : m ≠ p := by
          rintro rfl
          simp [without_map_subject] at hm'
        exact standsBehind_behindRun a
          (((h.without _).without _) m hm' (hma.resolve_left (by simpa using hne)))
      · exact h.without _
    · exact h.without _
  · exact h.without _

/-! ## Well-formed queues -/

theorem QueueWf.answersBehind {q : List Rec} (h : QueueWf q) : AnswersBehind (q.map Rec.subject) := h.answers

/-- A queue whose records are a rearrangement of fewer or other records, with their facts. -/
theorem QueueWf.of_perm {q l : List Rec} (hp : q.Perm l) (hroom : l.length ≤ 12) (hsub : (l.map Rec.subject).Nodup)
    (hseq : (l.map Rec.seq).Nodup) (hrange : ∀ r ∈ l, r.seq < 256) (ha : AnswersBehind (q.map Rec.subject)) :
    QueueWf q where
  room := hp.length_eq ▸ hroom
  subjects := ((hp.map Rec.subject).nodup_iff).mpr hsub
  seqs := ((hp.map Rec.seq).nodup_iff).mpr hseq
  seqRange := fun r hr => hrange r (hp.mem_iff.mp hr)
  answers := ha

theorem QueueWf.afterLeaving {q : List Rec} (h : QueueWf q) (x : Subject) : QueueWf (afterLeaving q x) := by
  have hsub : (Sys2Proof.Machine.without q x).Sublist q := List.filter_sublist
  exact .of_perm (afterLeaving_perm h.subjects x) (hsub.length_le.trans h.room) (nodup_without h.subjects x)
    (h.seqs.sublist (hsub.map _)) (fun r hr => h.seqRange r (hsub.subset hr))
    (h.answersBehind.afterLeaving x)

/-- A queue changed record by record, each keeping its subject and its sequence number. -/
theorem QueueWf.map {q : List Rec} (h : QueueWf q) {f : Rec → Rec} (hsub : ∀ r, (f r).subject = r.subject)
    (hseq : ∀ r, (f r).seq = r.seq) : QueueWf (q.map f) := by
  have e1 : (q.map f).map Rec.subject = q.map Rec.subject := by
    rw [List.map_map]
    exact List.map_congr_left fun r _ => hsub r
  have e2 : (q.map f).map Rec.seq = q.map Rec.seq := by
    rw [List.map_map]
    exact List.map_congr_left fun r _ => hseq r
  constructor
  case room => simpa using h.room
  case subjects => exact e1 ▸ h.subjects
  case seqs => exact e2 ▸ h.seqs
  case seqRange =>
    intro r hr
    obtain ⟨x, hx, rfl⟩ := List.mem_map.mp hr
    exact hseq x ▸ h.seqRange x hx
  case answers => exact e1 ▸ h.answers

theorem markLeading_map_subject (n : Nat) (q : List Rec) : (markLeading n q).map Rec.subject = q.map Rec.subject := by
  induction q generalizing n with
  | nil => cases n <;> rfl
  | cons r q ih =>
    cases n with
    | zero => rfl
    | succ n => exact congrArg (r.subject :: ·) (ih n)

theorem markLeading_map_seq (n : Nat) (q : List Rec) : (markLeading n q).map Rec.seq = q.map Rec.seq := by
  induction q generalizing n with
  | nil => cases n <;> rfl
  | cons r q ih =>
    cases n with
    | zero => rfl
    | succ n => exact congrArg (r.seq :: ·) (ih n)

theorem mem_markLeading {n : Nat} {q : List Rec} {r : Rec} (h : r ∈ markLeading n q) :
    ∃ x ∈ q, x.content = r.content := by
  induction q generalizing n with
  | nil => cases n <;> simp [markLeading] at h
  | cons y q ih =>
    cases n with
    | zero => exact ⟨r, h, rfl⟩
    | succ n =>
      obtain rfl | h := List.mem_cons.mp h
      · exact ⟨y, List.mem_cons_self, rfl⟩
      · obtain ⟨x, hx, e⟩ := ih h
        exact ⟨x, List.mem_cons_of_mem y hx, e⟩

theorem QueueWf.markLeading {q : List Rec} (h : QueueWf q) (n : Nat) : QueueWf (markLeading n q) := by
  have hlen : (Sys2Proof.Machine.markLeading n q).length = q.length := by
    simpa using congrArg List.length (markLeading_map_seq n q)
  constructor
  case room => exact hlen ▸ h.room
  case subjects => exact markLeading_map_subject n q ▸ h.subjects
  case seqs => exact markLeading_map_seq n q ▸ h.seqs
  case seqRange =>
    intro r hr
    have hm : r.seq ∈ q.map Rec.seq := markLeading_map_seq n q ▸ List.mem_map_of_mem hr
    obtain ⟨x, hx, e⟩ := List.mem_map.mp hm
    exact e ▸ h.seqRange x hx
  case answers => exact markLeading_map_subject n q ▸ h.answers

/-! ## A record given (R114) -/

/-- A record given is one of the content given, under the next sequence number: it replaces the one standing for the
subject, or is placed anew where there is room. -/
theorem give_cases {now wait : Nat} {t u : Truck} {c : Content} (h : t.give now wait c = some u) :
    ∃ r : Rec, r.content = c ∧ r.seq = t.nextSeq ∧
      ((∃ old, recFor t.queue old.subject = some old ∧ r.subject = old.subject ∧
          u = { t with queue := placeUpdated t.queue old r, seqCtr := (t.nextSeq + 1) % 256 }) ∨
        (recFor t.queue r.subject = none ∧ t.queue.length < 12 ∧
          u = { t with queue := placeNew t.queue r, seqCtr := (t.nextSeq + 1) % 256 })) := by
  unfold Truck.give at h
  dsimp only at h
  split at h
  · rename_i old hold
    obtain ⟨hs, -⟩ := recFor_some hold
    exact ⟨{ old with
      content := c, seq := t.nextSeq, attempts := 0, inFlight := false, discard := discardFor now wait (some old) c },
      rfl, rfl, .inl ⟨old, by rw [hs]; exact hold, hs.symm, (Option.some.inj h).symm⟩⟩
  · rename_i hnone
    split at h
    · exact ⟨{
        content := c, seq := t.nextSeq, attempts := 0, inFlight := false, entry := now, discard := discardFor now wait none c
        origin := c.origin }, rfl, rfl, .inr ⟨hnone, ‹_›, (Option.some.inj h).symm⟩⟩
    · exact absurd h (by simp)

section
variable {now wait : Nat} {t u : Truck} {c : Content} (h : t.give now wait c = some u)
include h

theorem give_subjects_nodup (hn : (t.queue.map Rec.subject).Nodup) : (u.queue.map Rec.subject).Nodup := by
  obtain ⟨r, -, -, ⟨old, hold, hs, rfl⟩ | ⟨hnone, -, rfl⟩⟩ := give_cases h
  · refine (((placeUpdated_perm hn hold hs).map Rec.subject).nodup_iff).mpr
      (nodup_cons_of_recFor_none (nodup_without hn _) ?_)
    rw [recFor_without, if_pos hs]
  · exact (((placeNew_perm hn hnone).map Rec.subject).nodup_iff).mpr (nodup_cons_of_recFor_none hn hnone)

/-- The records of a queue a record has been given to: the given content, or one that stood. -/
theorem mem_give {r : Rec} (hr : r ∈ u.queue) : r.content = c ∨ r ∈ t.queue := by
  obtain ⟨x, rfl, -, ⟨old, -, -, rfl⟩ | ⟨-, -, rfl⟩⟩ := give_cases h
  · exact (mem_placeUpdated hr).imp_left fun e => by rw [e]
  · exact (mem_placeNew hr).imp_left fun e => by rw [e]

theorem give_queueOk (hq : t.QueueOk) : u.QueueOk := by
  obtain ⟨hwf, hctr⟩ := hq
  have hnew : ∀ {r : Rec} {l : List Rec}, r.seq = t.nextSeq → l.Sublist t.queue → ((r :: l).map Rec.seq).Nodup ∧
      ∀ x ∈ r :: l, x.seq < 256 := by
    intro r l hseq hl
    refine ⟨?_, fun x hx => ?_⟩
    · rw [List.map_cons, List.nodup_cons]
      refine ⟨fun hm => ?_, hwf.seqs.sublist (hl.map _)⟩
      obtain ⟨x, hx, e⟩ := List.mem_map.mp hm
      exact nextSeq_fresh t hwf.room x (hl.subset hx) (e.trans hseq)
    · obtain rfl | hx := List.mem_cons.mp hx
      · exact hseq ▸ freeSeq_lt _ hctr 13
      · exact hwf.seqRange x (hl.subset hx)
  obtain ⟨r, -, hseq, ⟨old, hold, hs, rfl⟩ | ⟨hnone, hroom, rfl⟩⟩ := give_cases h
  · have hlen := (cons_without_perm hwf.subjects hold).length_eq
    obtain ⟨hseqs, hrange⟩ := hnew hseq (List.filter_sublist : (without t.queue old.subject).Sublist t.queue)
    refine ⟨.of_perm (placeUpdated_perm hwf.subjects hold hs) (hlen ▸ hwf.room) ?_ hseqs hrange
      (hwf.answersBehind.placeUpdated hs), Nat.mod_lt _ (by decide)⟩
    exact nodup_cons_of_recFor_none (nodup_without hwf.subjects _) (by rw [recFor_without, if_pos hs])
  · obtain ⟨hseqs, hrange⟩ := hnew hseq (List.Sublist.refl t.queue)
    exact ⟨.of_perm (placeNew_perm hwf.subjects hnone) (Nat.succ_le_of_lt hroom)
      (nodup_cons_of_recFor_none hwf.subjects hnone) hseqs hrange hwf.answersBehind.placeNew, Nat.mod_lt _ (by decide)⟩

end

end Sys2Proof.Machine

/-!
PROOFS. The operations as paths, part one: the console port, the records of a truck's queue, reachability, permits with
their causes, and points.
-/
namespace Sys2Proof.Machine

variable {A : Right → Prop}

/-! ## Moves of a truck's record -/

theorem GrantsFrom.of_subset {s : State} {n : Nat} {q q' : List Rec} (h : ∀ r ∈ q', ∃ x ∈ q, x.content = r.content) :
    GrantsFrom s n q q' := fun r hr c hc _ => by
  obtain ⟨x, hx, e⟩ := h r hr
  exact .inl ⟨x, hx, e.trans hc⟩

theorem AlarmMove.of_state_set {n seat : Nat} {w w' : Watch} (hstate : w.state = .alarm → w'.state = .alarm)
    (hset : w.state = .alarm → w'.set.alarm = w.set.alarm) : AlarmMove A n seat w w' :=
  fun h => .inl ⟨hstate h, hset h⟩

theorem AlarmMove.refl (n seat : Nat) (w : Watch) : AlarmMove A n seat w w := .of_state_set id fun _ => rfl

/-- A change of a truck's queue and sequence counter alone. -/
theorem TruckMove.ofQueue {s : State} {k : Truck} {q : List Rec} {c : Nat}
    (hqueue : k.QueueOk → Truck.QueueOk { k with queue := q, seqCtr := c })
    (hsubjects : (k.queue.map Rec.subject).Nodup → (q.map Rec.subject).Nodup)
    (hgrants : GrantsFrom s k.num k.queue q) : TruckMove A s k { k with queue := q, seqCtr := c } where
  num := rfl
  slots := id
  queue := hqueue
  subjects := hsubjects
  grants := hgrants
  fits1 := id
  fits2 := id
  alarm1 := .refl _ _ _
  alarm2 := .refl _ _ _
  heard := id
  watch := .inl ⟨rfl, rfl⟩

/-- A change of a truck's record but for its contexts, its queue and its number. -/
theorem TruckMove.ofSlots {s : State} {k k' : Truck} (hnum : k'.num = k.num) (hw1 : k'.w1 = k.w1) (hw2 : k'.w2 = k.w2)
    (hqueue : k'.queue = k.queue) (hctr : k'.seqCtr = k.seqCtr) (hslots : k.SlotsOk → k'.SlotsOk)
    (hheard : k.reach ≠ .absent → k'.reach ≠ .absent) : TruckMove A s k k' where
  num := hnum
  slots := hslots
  queue := fun h => ⟨hqueue ▸ h.1, hctr ▸ h.2⟩
  subjects := fun h => hqueue ▸ h
  grants := hqueue ▸ .of_subset fun r hr => ⟨r, hr, rfl⟩
  fits1 := fun h => hw1 ▸ h
  fits2 := fun h => hw2 ▸ h
  alarm1 := hw1 ▸ .refl _ _ _
  alarm2 := hw2 ▸ .refl _ _ _
  heard := hheard
  watch := .inl ⟨hw1, hw2⟩

/-- The number of a seat: 1, or 2 for any other number (R39). -/
def seatIndex (seat : Nat) : Nat := if seat = 1 then 1 else 2

/-- A change of one context of a truck (R39). -/
theorem TruckMove.ofWatch {s : State} {k : Truck} {seat : Nat} {w : Watch} (hright : A (.watch k.num))
    (hfits : deadlineFits (k.watch seat) → deadlineFits w) (halarm : AlarmMove A k.num (seatIndex seat) (k.watch seat) w) :
    TruckMove A s k (k.withWatch seat w) := by
  have hqueue : (k.withWatch seat w).queue = k.queue := Truck.withWatch_queue k seat w
  have hslots : k.SlotsOk → (k.withWatch seat w).SlotsOk := by simp [Truck.SlotsOk]
  have hok : k.QueueOk → (k.withWatch seat w).QueueOk := by simp [Truck.QueueOk]
  refine ⟨Truck.withWatch_num k seat w, hslots, hok, fun h => hqueue ▸ h,
    hqueue ▸ .of_subset fun r hr => ⟨r, hr, rfl⟩, ?_, ?_, ?_, ?_, by simp, .inr hright⟩
  all_goals
    unfold Truck.withWatch
    unfold Truck.watch at hfits halarm
    unfold seatIndex at halarm
    split
    · rename_i h
      simp only [h, if_true] at hfits halarm
      first | exact hfits | exact id | exact halarm | exact .refl _ _ _
    · rename_i h
      simp only [h, if_false] at hfits halarm
      first | exact id | exact hfits | exact .refl _ _ _ | exact halarm

/-! ## Free fields and the console port -/

theorem Keeps.path {l : List Field} {s t : State} (h : Keeps l s t) (hl : ∀ f ∈ l, f ∈ freeFields := by decide) :
    Path A s t := (Move.frame (h.to hl)).path

theorem askArb_path (s : State) (b : Bool) : Path A s { s with askArb := b } := (askArb_keeps s b).path

theorem eq_withPort {s t : State} (h : Keeps [.port] s t) : t = { s with port := t.port } := by
  obtain ⟨⟩ := t
  simp only [State.mk.injEq, true_and]
  exact ⟨h .clock (by decide), h .held (by decide), h .sup (by decide), h .trucks (by decide), h .orders (by decide),
    h .permits (by decide), h .points (by decide), h .asks (by decide), h .timeouts (by decide), h .air (by decide),
    h .sites (by decide), h .policy (by decide), h .graces (by decide), h .load (by decide), h .askArb (by decide),
    h .choices (by decide), h .pending (by decide)⟩

theorem port_path {s t : State} (h : Keeps [.port] s t)
    (hbuffer : s.port.buffer.length ≤ 4 → t.port.buffer.length ≤ 4)
    (hnotices : s.port.notices.length ≤ 64 → t.port.notices.length ≤ 64)
    (hkept : t.port.buffer = s.port.buffer ∨ A .buffer) : Path A s t := by
  rw [eq_withPort h]
  exact (Move.port _ hbuffer hnotices hkept).path

/-- The choice of the next frame takes nothing into the buffer and the notice queue (R179). -/
theorem kick_port (s : State) : (kick s).port.buffer = s.port.buffer ∧
    (kick s).port.notices.length ≤ s.port.notices.length := by
  unfold kick
  split
  · exact ⟨rfl, le_rfl⟩
  · split
    · exact ⟨rfl, le_rfl⟩
    · split
      · rename_i n l hn
        split
        · exact ⟨rfl, by simp [hn]⟩
        · exact ⟨rfl, le_rfl⟩
      · exact ⟨rfl, le_rfl⟩

theorem kick_path (s : State) : Path A s (kick s) :=
  port_path (kick_keeps s) (fun h => (kick_port s).1 ▸ h) (fun h => (kick_port s).2.trans h)
    (.inl (kick_port s).1)

theorem dropOldestRoutine_length {l l' : List Notice} (h : dropOldestRoutine l = some l') : l.length = l'.length + 1 := by
  induction l generalizing l' with
  | nil => simp [dropOldestRoutine] at h
  | cons n l ih =>
    unfold dropOldestRoutine at h
    split at h
    · obtain ⟨m, hm, rfl⟩ := Option.map_eq_some_iff.mp h
      simp [ih hm]
    · obtain rfl := Option.some.inj h
      rfl

theorem enqueue_buffer (p : Port) (n : Notice) : (p.enqueue n).buffer = p.buffer := by
  unfold Port.enqueue
  split
  · rfl
  · split <;> rfl

theorem enqueue_notices {p : Port} (h : p.notices.length ≤ 64) (n : Notice) : (p.enqueue n).notices.length ≤ 64 := by
  unfold Port.enqueue
  split
  · simp only [List.length_append, List.length_singleton]
    omega
  · split
    · rename_i l hl
      have := dropOldestRoutine_length hl
      simp only [List.length_append, List.length_singleton]
      omega
    · exact h

theorem post_path (s : State) (b : NoticeBody) : Path A s (post s b) :=
  ((Move.port _ (fun h => (enqueue_buffer s.port _).symm ▸ h) (fun h => enqueue_notices h _)
    (.inl (enqueue_buffer s.port _))).path).trans (kick_path _)

/-- A reply taken into a buffer that has room (R178). -/
theorem attach_path (s : State) (k tag : Nat) (a : Answer) (h : s.port.buffer.length < 4) (hB : A .buffer) :
    Path A s (attach s k tag a) :=
  (Move.port { s.port with buffer := s.port.buffer ++ [_] } (fun _ => by simpa using h) id (.inr hB)).path.trans (kick_path _)

theorem armWindow_path (s : State) : Path A s (armWindow s) := (Move.sup (s := s) (armWindow s).sup rfl).path

theorem setLinkFault_path (s : State) : Path A s (setLinkFault s) := (Move.port (s := s) (setLinkFault s).port id id (.inl rfl)).path

theorem setLapsed_path (s : State) : Path A s (setLapsed s) := (Move.port (s := s) (setLapsed s).port id id (.inl rfl)).path

/-! ## The records of a queue (R114, R118) -/

/-- A record given: of a GRANT it is to be known that it stands (R91, R92). -/
theorem give_path (s : State) (n : Nat) (c : Content)
    (hc : ∀ a, c = .answer a → a.kind = .grant → GrantStands s n a) : Path A s (give s n c) := by
  unfold give
  split
  · exact .refl s
  · rename_i t ht
    split
    · exact .refl s
    · rename_i u hu
      obtain ⟨r, -, -, -, -, hu', -⟩ := truck_give hu
      have htn := (findBy_some ht).1
      refine Path.trans (modTruck_path _ n _ (fun k hk => ?_) fun _ _ => by rw [hu']; exact htn) (askArb_path _ _)
      obtain rfl : k = t := Option.some.inj (hk.symm.trans ht)
      have hqueue := give_queueOk hu
      rw [hu'] at hqueue ⊢
      refine .ofQueue hqueue (give_subjects_nodup hu) fun r hr a ha hkind => ?_
      obtain e | hr := mem_give hu hr
      · exact .inr (htn ▸ hc a (e.symm.trans ha) hkind)
      · exact .inl ⟨r, hr, ha⟩

theorem give_path_of_not_grant (s : State) (n : Nat) {c : Content} (hc : c.isGrant = false) : Path A s (give s n c) :=
  give_path s n c fun a e hk => by simp [e, Content.isGrant, hk] at hc

theorem dropRec_path (s : State) (n : Nat) (x : Subject) : Path A s (dropRec s n x) :=
  (modTruck_path _ n _ fun _ _ => .ofQueue (fun h => ⟨h.1.afterLeaving x, h.2⟩)
    (fun h => (((afterLeaving_perm h x).map Rec.subject).nodup_iff).mpr (nodup_without h x))
    (.of_subset fun r hr => ⟨r, mem_afterLeaving hr, rfl⟩))

theorem givePermit_path (s : State) (n : Nat) : Path A s (givePermit s n) := by
  unfold givePermit
  split
  · exact give_path_of_not_grant s _ rfl
  · exact .refl s

theorem giveOrder_path (s : State) (t n : Nat) (d : Disposition) (b : Bool) : Path A s (giveOrder s t n d b) := by
  unfold giveOrder
  split
  · exact give_path_of_not_grant s _ rfl
  · exact .refl s

theorem updateOrderRec_path (s : State) (t n : Nat) (d : Disposition) : Path A s (updateOrderRec s t n d) := by
  unfold updateOrderRec
  split
  · exact giveOrder_path s t n d _
  · exact .refl s

theorem refreshOrderRec_path (s : State) (t n : Nat) : Path A s (refreshOrderRec s t n) := by
  unfold refreshOrderRec
  split
  · exact giveOrder_path s t n _ _
  · exact .refl s

/-! ## Reachability and slots (R4, R9 to R13) -/

theorem setReach_path (s : State) (n : Nat) {r : Reach} {c : Nat} (hfit : reachFits r c)
    (hheard : ∀ k, truckOf s n = some k → k.reach ≠ .absent → r ≠ .absent) : Path A s (setReach s n r c) := by
  unfold setReach
  split
  · rename_i t ht
    have hmove : Path A s (modTruck s n fun t => { t with reach := r, miss := c }) := by
      refine (modTruck_path s n _ fun k hk => .ofSlots rfl rfl rfl rfl rfl (fun h => ?_) (hheard k hk))
      obtain ⟨h1, h2, h3, h4, h5, h6, -⟩ := h
      exact ⟨h1, h2, h3, h4, h5, h6, hfit⟩
    split
    · exact hmove
    · exact (hmove.trans (askArb_path _ _)).trans (post_path _ _)
  · exact .refl s

theorem routeDown_path (s : State) (n : Nat) : Path A s (routeDown s n) := by
  unfold routeDown
  split
  · split
    · exact .refl s
    · exact setReach_path s n rfl fun _ _ _ => by decide
  · exact .refl s

theorem routeRestored_path (s : State) (n : Nat) : Path A s (routeRestored s n) := by
  unfold routeRestored
  split
  · split
    · exact setReach_path s n ⟨by decide, by decide⟩ fun _ _ _ => by decide
    · exact .refl s
  · exact .refl s

theorem reachFits_afterMiss {r : Reach} (h : r ≠ .absent) {c : Nat} (hc : c ≤ 6) :
    reachFits (reachAfterMiss r c) c ∧ reachAfterMiss r c ≠ .absent := by
  unfold reachAfterMiss
  rw [if_neg h]
  split
  · exact ⟨by simp only [reachFits]; omega, by decide⟩
  · split
    · exact ⟨by simp only [reachFits]; omega, by decide⟩
    · exact ⟨by simp only [reachFits]; omega, by decide⟩

theorem missedTurn_path (s : State) (n : Nat) : Path A s (missedTurn s n) := by
  unfold missedTurn
  split
  · rename_i t _
    split
    · exact .refl s
    · rename_i hr
      obtain ⟨hfit, hne⟩ := reachFits_afterMiss hr (Nat.min_le_right (t.miss + 1) 6)
      exact setReach_path s n hfit fun _ _ _ => hne
  · exact .refl s

theorem freePermitSlot_path (s : State) (t n : Nat) : Path A s (freePermitSlot s t n) :=
  (modTruck_path _ t _ fun _ _ => .ofSlots rfl rfl rfl rfl rfl
    (fun ⟨h1, h2, h3, h4, h5, h6, h7⟩ =>
      ⟨h1, h2, h3.filter _, (List.length_filter_le _ _).trans h4, h5, h6, h7⟩) id)

theorem freeOrderSlot_path (s : State) (t n : Nat) : Path A s (freeOrderSlot s t n) :=
  (modTruck_path _ t _ fun _ _ => .ofSlots rfl rfl rfl rfl rfl
    (fun ⟨h1, h2, h3, h4, h5, h6, h7⟩ =>
      ⟨h1.filter _, (List.length_filter_le _ _).trans h2, h3, h4, h5, h6, h7⟩) id)

theorem nodup_append_new {l : List Nat} {n : Nat} (h : l.Nodup) (hn : n ∉ l) : (l ++ [n]).Nodup := by
  rw [List.nodup_append]
  exact ⟨h, List.nodup_singleton n, fun a ha b hb e => hn (List.mem_singleton.mp hb ▸ e ▸ ha)⟩

theorem takeOrderSlot_path (s : State) (t n : Nat) : Path A s (takeOrderSlot s t n) := by
  refine modTruck_path s t _ (fun k _ => ?_) fun k hk => by split_ifs <;> exact hk
  split
  · exact .ofSlots rfl rfl rfl rfl rfl id id
  · rename_i hnew
    split
    · rename_i hroom
      refine .ofSlots rfl rfl rfl rfl rfl (fun ⟨h1, h2, h3, h4, h5, h6, h7⟩ => ⟨?_, ?_, h3, h4, h5, h6, h7⟩) id
      · exact nodup_append_new h1 (by simpa using hnew)
      · simp only [List.length_append, List.length_singleton]
        omega
    · exact .ofSlots rfl rfl rfl rfl rfl id id

/-- A permit slot taken where the truck holds fewer than two (R70). -/
theorem takePermitSlot_path (s : State) (t n : Nat) (hroom : ∀ k, truckOf s t = some k → k.permitSlots.length < 2) :
    Path A s (takePermitSlot s t n) := by
  refine modTruck_path s t _ (fun k hk => ?_) fun k hk => by split_ifs <;> exact hk
  split
  · exact .ofSlots rfl rfl rfl rfl rfl id id
  · rename_i hnew
    refine .ofSlots rfl rfl rfl rfl rfl (fun ⟨h1, h2, h3, h4, h5, h6, h7⟩ => ⟨h1, h2, ?_, ?_, h5, h6, h7⟩) id
    · exact nodup_append_new h3 (by simpa using hnew)
    · have := hroom k hk
      simp only [List.length_append, List.length_singleton]
      omega

/-! ## Steps and points (R89, R90) -/

theorem stepAt_changeAt (f : StepRec → StepRec) (l : List StepRec) (m n : Nat) :
    (changeAt f l m)[n]? = (l[n]?).map fun x => if n = m then f x else x := by
  induction l generalizing m n with
  | nil => simp [changeAt]
  | cons x l ih =>
    match m, n with
    | 0, 0 => simp [changeAt]
    | 0, n + 1 => simp [changeAt]
    | m + 1, 0 => simp [changeAt]
    | m + 1, n + 1 => simpa [changeAt] using ih m n

/-- What a step change leaves under each name (R65). -/
theorem Permit.step_withStep (p : Permit) (i j : StepId) (f : StepRec → StepRec) :
    (p.withStep i f).step j = (p.step j).map fun x => if j = i then f x else x := by
  obtain ⟨il, inum⟩ := i
  obtain ⟨jl, jnum⟩ := j
  unfold Permit.withStep Permit.step stepAt
  by_cases hi : inum = 0
  · by_cases hj : jnum = 0
    · simp [hi, hj]
    · have hne : jnum ≠ inum := by omega
      simp [hi, hj]
  · by_cases hj : jnum = 0
    · simp [hj]
    · have hidx : (jnum - 1 = inum - 1) ↔ jnum = inum := by omega
      by_cases h0 : il = 0
      · by_cases hj0 : jl = 0
        · simp [hi, hj, h0, hj0, stepAt_changeAt, hidx]
        · by_cases hj1 : jl = 1 <;> simp [hi, hj, h0, hj0, hj1]
      · by_cases h1 : il = 1
        · by_cases hj0 : jl = 0
          · simp [hi, hj, h1, hj0]
          · by_cases hj1 : jl = 1 <;> simp [hi, hj, h1, hj0, hj1, stepAt_changeAt, hidx]
        · have hne0 : jl = 0 → ¬jl = il := by omega
          have hne1 : jl = 1 → ¬jl = il := by omega
          by_cases hj0 : jl = 0
          · simp [hi, hj, h0, h1, hj0, Ne.symm h0]
          · by_cases hj1 : jl = 1 <;> simp [hi, hj, h0, h1, hj0, hj1, Ne.symm h1]

theorem named_map_point (k n : Nat) (l : List StepRec) :
    (named k n l).map (fun x => x.2.point) = l.map StepRec.point := by
  induction l generalizing n with
  | nil => rfl
  | cons x l ih => simp [named, ih]

theorem Permit.points_eq (p : Permit) : p.points = dropRepeats (p.iso.map StepRec.point ++ p.rest.map StepRec.point) := by
  simp [Permit.points, Permit.steps, named_map_point]

theorem changeAt_map_point {f : StepRec → StepRec} (hf : ∀ x, (f x).point = x.point) (l : List StepRec) (m : Nat) :
    (changeAt f l m).map StepRec.point = l.map StepRec.point := by
  induction l generalizing m with
  | nil => rfl
  | cons x l ih =>
    cases m with
    | zero => simp [changeAt, hf]
    | succ m => simp [changeAt, ih]

theorem Permit.withStep_points (p : Permit) (i : StepId) {f : StepRec → StepRec} (hf : ∀ x, (f x).point = x.point) :
    (p.withStep i f).points = p.points := by
  rw [Permit.points_eq, Permit.points_eq]
  unfold Permit.withStep
  split
  · rfl
  · split
    · simp only [changeAt_map_point hf]
    · split
      · simp only [changeAt_map_point hf]
      · rfl

theorem LatchedKept.refl (c : Causes) : LatchedKept c c := ⟨id, id, id, id⟩

/-- A change of one step that keeps what the step is to do. -/
theorem PermitMove.ofStep (p : Permit) (i : StepId) {f : StepRec → StepRec}
    (hpoint : ∀ x, (f x).point = x.point) (haction : ∀ x, (f x).action = x.action)
    (hconfirm : ∀ x, (f x).confirm = x.confirm) : PermitMove A p (p.withStep i f) where
  num := Permit.withStep_num p i f
  holder := Permit.withStep_holder p i f
  points := Permit.withStep_points p i hpoint
  steps := fun j x hx => by
    rw [Permit.step_withStep, hx, Option.map_some]
    refine ⟨_, rfl, ?_⟩
    split
    · exact ⟨haction x, hconfirm x⟩
    · exact ⟨rfl, rfl⟩
  causes := fun h => by simpa [Permit.CausesOk] using h
  rank := by rw [Permit.withStep_state]
  final := fun _ => Permit.withStep_state p i f
  latched := .inr fun _ => by
    rw [Permit.withStep_causes]
    exact .refl _

theorem modStep_path (s : State) (n : Nat) (i : StepId) {f : StepRec → StepRec} (hpoint : ∀ x, (f x).point = x.point)
    (haction : ∀ x, (f x).action = x.action) (hconfirm : ∀ x, (f x).confirm = x.confirm) : Path A s (modStep s n i f) :=
  (modPermit_path _ n _ fun p _ => .ofStep p i hpoint haction hconfirm)

theorem stepPending_path (s : State) (n : Nat) (i : StepId) (r : Option Reason) : Path A s (stepPending s n i r) :=
  modStep_path s n i (fun _ => rfl) (fun _ => rfl) fun _ => rfl

theorem PointMove.refl (q : Point) : PointMove A q q := ⟨rfl, rfl, id, .inl rfl⟩

theorem clearBusy_path (s : State) (m n : Nat) (i : StepId) : Path A s (clearBusy s m n i) := by
  refine modPoint_path s m _ (fun q _ => ?_) fun q hq => by split_ifs <;> exact hq
  split
  · exact ⟨rfl, rfl, id, .inl rfl⟩
  · exact .refl q

theorem clearStepBusy_path (s : State) (n : Nat) (i : StepId) : Path A s (clearStepBusy s n i) := by
  unfold clearStepBusy
  split
  · exact clearBusy_path s _ n i
  · exact .refl s

theorem Point.HoldsOk.filter {q : Point} (h : q.HoldsOk) (f : Hold → Bool) :
    Point.HoldsOk { q with holds := q.holds.filter f } := by
  obtain ⟨hroom, hone, x, hx⟩ := h
  exact ⟨(List.length_filter_le _ _).trans hroom, hone.sublist (List.filter_sublist.map _), x,
    fun y hy => hx y (List.mem_of_mem_filter hy)⟩

theorem releaseHold_path (s : State) (m n : Nat) : Path A s (releaseHold s m n) :=
  (modPoint_path _ m _ fun _ _ => ⟨rfl, rfl, fun h => h.filter _, .inl rfl⟩)

theorem releaseHolds_path (s : State) (n : Nat) : Path A s (releaseHolds s n) :=
  (Move.points (fun q => { q with holds := q.holds.filter fun h => h.permit != n })
    fun _ => ⟨rfl, rfl, fun h => h.filter _, .inl rfl⟩).path

theorem releaseMarks_path (s : State) (n : Nat) : Path A s (releaseMarks s n) := by
  refine (Move.points (fun q =>
    match q.busy with
    | some b => if b.permit = n then { q with busy := none } else q
    | none => q) fun q => ?_).path
  split
  · split
    · exact ⟨rfl, rfl, id, .inl rfl⟩
    · exact .refl q
  · exact .refl q

/-! ## Answers and pending requests (R79, R98) -/

theorem supersede_path (s : State) (n : Nat) (r : Reason) : Path A s (supersede s n r) := by
  unfold supersede
  split
  · split
    · exact ((give_path_of_not_grant s _ rfl).trans (stepPending_path _ n _ _)).trans (clearStepBusy_path _ n _)
    · exact .refl s
  · exact .refl s

theorem removeAsk_path (s : State) (n : Nat) : Path A s (removeAsk s n) :=
  (Move.asks _ (fun h => (List.length_filter_le _ _).trans h) fun _ h => by rw [h]; rfl).path

theorem refusePending_path (s : State) (n : Nat) (r : Reason) : Path A s (refusePending s n r) := by
  unfold refusePending
  split
  · exact ((give_path_of_not_grant s _ rfl).trans (removeAsk_path _ n)).trans (stepPending_path _ n _ _)
  · exact .refl s

/-! ## Halt causes (R78 to R84) -/

/-- A change of a permit's state and causes alone. -/
theorem PermitMove.ofState {p p' : Permit} (hp : p' = { p with state := p'.state, causes := p'.causes })
    (hcauses : p.CausesOk → p'.CausesOk) (hrank : p.state.rank ≤ p'.state.rank)
    (hfinal : p.state.isOpen = false → p'.state = p.state)
    (hlatched : A (.resume p.num) ∨ (p'.state.isOpen = true → LatchedKept p.causes p'.causes)) : PermitMove A p p' where
  num := by rw [hp]
  holder := by rw [hp]
  points := by rw [hp]; rfl
  steps := fun i x hx => ⟨x, by rw [hp]; exact hx, rfl, rfl⟩
  causes := hcauses
  rank := hrank
  final := hfinal
  latched := hlatched

/-- A cause added: SITE in an active state alone (R78, R83). -/
theorem addCause_path (s : State) (n : Nat) (c : Cause)
    (hc : c = .site → ∀ p, permitOf s n = some p → p.state.isActive = true) : Path A s (addCause s n c) := by
  unfold addCause
  split
  · rename_i p hp
    split
    · rename_i hadd
      simp only [Bool.and_eq_true, Bool.not_eq_true'] at hadd
      obtain ⟨hopen, -⟩ := hadd
      have hmove : Path A s (modPermit s n fun x => { x with causes := p.causes.put true c }) := by
        refine (modPermit_path s n _ fun q hq => ?_)
        obtain rfl : q = p := Option.some.inj (hq.symm.trans hp)
        refine .ofState rfl (fun h => ⟨fun hclosed => ?_, fun hearly => ?_⟩) le_rfl (fun _ => rfl) (.inr fun _ => ?_)
        · simp only at hclosed
          simp [hopen] at hclosed
        · cases c with
          | site =>
            have := hc rfl q hq
            obtain e | e := hearly <;> simp only at e <;> simp [e, PermitState.isActive] at this
          | _ => exact h.2 hearly
        · cases c <;> simp [LatchedKept, Causes.put]
      have hposted := hmove.trans (post_path _ (.permitHalt n p.holder c true (p.causes.put true c)))
      split
      · exact ((hposted.trans (givePermit_path _ n)).trans (supersede_path _ n _)).trans (refusePending_path _ n _)
      · exact hposted
    · exact .refl s
  · exact .refl s

/-- A cause dropped: SITE, or another by RESUME_PERMIT (R84). -/
theorem dropCause_path (s : State) (n : Nat) (c : Cause) (hc : c = .site ∨ A (.resume n)) : Path A s (dropCause s n c) := by
  unfold dropCause
  split
  · rename_i p hp
    split
    · refine Path.trans (modPermit_path _ n _ fun q hq => ?_) (post_path _ _)
      obtain rfl : q = p := Option.some.inj (hq.symm.trans hp)
      refine .ofState rfl (fun h => ⟨fun hclosed => ?_, fun hearly => ?_⟩) le_rfl (fun _ => rfl) ?_
      · have := h.1 hclosed
        simp only [this]
        cases c <;> rfl
      · have := h.2 hearly
        cases c with
        | site => rfl
        | _ => exact this
      · obtain rfl | hr := hc
        · exact .inr fun _ => .refl q.causes
        · exact .inl ((findBy_some hp).1.symm ▸ hr)
    · exact .refl s
  · exact .refl s

theorem afterDrop_path (s : State) (n : Nat) : Path A s (afterDrop s n) := by
  unfold afterDrop
  split
  · split
    · exact givePermit_path s n
    · exact .refl s
  · exact .refl s

theorem removeSite_path (s : State) (n : Nat) : Path A s (removeCause s n .site) := by
  unfold removeCause
  split
  · split
    · exact (dropCause_path s n _ (.inl rfl)).trans (afterDrop_path _ n)
    · exact .refl s
  · exact .refl s

theorem evalSite_path (s : State) (n : Nat) : Path A s (evalSite s n) := by
  unfold evalSite
  split
  · rename_i p hp
    split
    · rename_i hactive
      split
      · exact addCause_path s n _ fun _ q hq => by rwa [Option.some.inj (hq.symm.trans hp)]
      · exact removeSite_path s n
    · exact .refl s
  · exact .refl s

theorem evalAllSites_path (s : State) : Path A s (evalAllSites s) := Path.foldl evalSite_path _ s

theorem evalSlots_path (s : State) (n : Nat) : Path A s (evalSlots s n) := by
  unfold evalSlots
  split
  · exact Path.foldl evalSite_path _ s
  · exact .refl s

theorem haltForAlarm_path (s : State) (n : Nat) : Path A s (haltForAlarm s n) := by
  unfold haltForAlarm
  split
  · refine Path.foldl (fun u m => ?_) _ s
    split
    · split
      · exact addCause_path u m _ (by simp)
      · exact .refl u
    · exact .refl u
  · exact .refl s

theorem weigh_path (s : State) (m : Nat) (src : ConflictSource) : Path A s (weigh s m src) := by
  unfold weigh
  split
  · split
    · exact (post_path s _).trans (Path.foldl (fun u n => addCause_path u n _ (by simp)) _ _)
    · exact .refl s
  · exact .refl s

/-! ## The header of a frame (R5, R6) -/

theorem takeZone_path (s : State) (n z : Nat) : Path A s (takeZone s n z) := by
  unfold takeZone
  split
  · split
    · refine Path.trans (Path.trans ?_ (post_path _ _)) (evalSlots_path _ n)
      exact modTruck_path s n _ fun _ _ => .ofSlots rfl rfl rfl rfl rfl id id
    · exact .refl s
  · exact .refl s

theorem takeHeader_path (s : State) (n z : Nat) : Path A s (takeHeader s n z) := by
  refine Path.trans ?_ (takeZone_path _ n z)
  refine Path.trans (setReach_path s n (r := .reachable) (c := 0) (Nat.zero_le 2) fun _ _ _ => by decide) ?_
  exact modTruck_path _ n _ fun _ _ => .ofSlots rfl rfl rfl rfl rfl id id

/-! ## The lifecycle of a permit (R69, R74 to R77) -/

theorem postPermitState_path (s : State) (n : Nat) : Path A s (postPermitState s n) := by
  unfold postPermitState
  split
  · exact post_path s _
  · exact .refl s

theorem giveFinal_path (s : State) (n : Nat) : Path A s (giveFinal s n) := by
  unfold giveFinal
  dsimp only
  split
  · exact givePermit_path s n
  · exact freePermitSlot_path s _ n

/-- A permit moved on to an open state in which SITE may stand. -/
theorem setPermitState_path (s : State) (n : Nat) {st : PermitState} (hst : st.isActive = true)
    (hp : ∀ p, permitOf s n = some p → p.state.isOpen = true ∧ p.state.rank ≤ st.rank) :
    Path A s (setPermitState s n st) := by
  refine (modPermit_path s n _ fun p hq => ?_)
  obtain ⟨hopen, hrank⟩ := hp p hq
  refine .ofState rfl (fun _ => ⟨fun h => ?_, fun h => ?_⟩) hrank (fun h => ?_) (.inr fun _ => .refl _)
  · simp only at h
    cases st <;> simp_all [PermitState.isActive, PermitState.isOpen]
  · simp only at h
    cases st <;> simp_all [PermitState.isActive]
  · simp [hopen] at h

theorem announce_path (s : State) (n : Nat) : Path A s (postPermitState (givePermit s n) n) :=
  (givePermit_path s n).trans (postPermitState_path _ n)

theorem enterClosed_path (s : State) (n : Nat)
    (hp : ∀ p, permitOf s n = some p → p.state.isOpen = true) : Path A s (enterClosed s n) := by
  refine (((releaseHolds_path s n).trans (modPermit_path _ n _ fun p hq => ?_)).trans (giveFinal_path _ n)).trans
    (postPermitState_path _ n)
  have hopen := hp p hq
  refine .ofState rfl (fun _ => ⟨fun _ => rfl, fun h => ?_⟩) ?_ (fun h => ?_) (.inr fun h => ?_)
  · simp at h
  · cases hst : p.state <;> simp [PermitState.rank]
  · simp [hopen] at h
  · simp [PermitState.isOpen] at h

theorem enterCleared_path (s : State) (n : Nat)
    (hp : ∀ p, permitOf s n = some p → p.state = .isolating) : Path A s (enterCleared s n) :=
  (setPermitState_path s n rfl fun p hq => by simp [hp p hq, PermitState.isOpen, PermitState.rank]).trans (announce_path _ n)

theorem enterIsolating_path (s : State) (n : Nat)
    (hp : ∀ p, permitOf s n = some p → p.state = .issued) : Path A s (enterIsolating s n) :=
  ((setPermitState_path s n rfl fun p hq => by simp [hp p hq, PermitState.isOpen, PermitState.rank]).trans
    (evalSite_path _ n)).trans (announce_path _ n)

theorem enterRestoring_path (s : State) (n : Nat)
    (hp : ∀ p, permitOf s n = some p → p.state = .cleared) : Path A s (enterRestoring s n) :=
  (setPermitState_path s n rfl fun p hq => by simp [hp p hq, PermitState.isOpen, PermitState.rank]).trans (announce_path _ n)

theorem afterDone_path (s : State) (n : Nat) : Path A s (afterDone s n) := by
  unfold afterDone
  split
  · rename_i p hp
    split
    · rename_i h
      refine enterCleared_path s n fun q hq => ?_
      rw [Option.some.inj (hq.symm.trans hp)]
      simpa using (Bool.and_eq_true_iff.mp h).1
    · split
      · rename_i h
        refine enterClosed_path s n fun q hq => ?_
        have hst : p.state = .restoring := by simpa using (Bool.and_eq_true_iff.mp h).1
        rw [Option.some.inj (hq.symm.trans hp), hst]
        rfl
      · exact .refl s
  · exact .refl s

/-! ## Outcomes of the Permit Unit's records (R73, R101 to R103) -/

theorem permitOutcome_path (s : State) (t : Nat) (c : PermitContent) : Path A s (permitOutcome s t c) := by
  unfold permitOutcome
  split
  · exact .refl s
  · exact freePermitSlot_path s t _

theorem grantSent_path (s : State) (c : AnswerContent) : Path A s (grantSent s c) :=
  modStep_path s _ _ (fun _ => rfl) (fun _ => rfl) fun _ => rfl

theorem grantAcknowledged_path (s : State) (c : AnswerContent) : Path A s (grantAcknowledged s c) := by
  have hmove : Path A s (modStep s c.permit c.step fun x => { x with state := .executing }) :=
    modStep_path s _ _ (fun _ => rfl) (fun _ => rfl) fun _ => rfl
  unfold grantAcknowledged
  dsimp only
  split
  · split
    · exact hmove.trans (releaseHold_path _ _ _)
    · exact hmove
  · exact hmove

theorem grantLost_path (s : State) (c : AnswerContent) : Path A s (grantLost s c) :=
  (stepPending_path s _ _ _).trans (clearStepBusy_path _ _ _)

end Sys2Proof.Machine

/-!
PROOFS. The operations as paths, part two: the watch contexts. What a path without rights leaves of the contexts comes
first, as later operations look at a context behind notices and records.
-/
namespace Sys2Proof.Machine

/-- A path without any right leaves every watch context as it is. -/
theorem Path.watchOf_eq {s t : State} (h : Path (fun _ => False) s t) (n seat : Nat) : watchOf t n seat = watchOf s n seat := by
  refine Path.relates (R := fun a b => watchOf b n seat = watchOf a n seat) (fun _ => rfl) (fun h1 h2 => h2.trans h1) ?_ h
  intro a b hm
  cases hm with
  | frame hk => exact congrArg (Option.map _) (truckOf_of_keeps hk n)
  | truck m f hnum hf =>
    unfold watchOf
    rw [truckOf_modTruck a m n f hnum, Option.map_map]
    cases hk : truckOf a n with
    | none => rfl
    | some k =>
      simp only [Option.map_some, Function.comp_apply]
      split
      · rename_i e
        obtain ⟨h1, h2⟩ := ((hf k (e ▸ hk)).watch).resolve_right id
        simp only [Truck.watch, h1, h2]
      · rfl
  | enroll _ h => exact h.elim
  | remove _ h => exact h.elim
  | clear h => exact h.elim
  | loadPermit _ h => exact h.elim
  | retirePermit _ h => exact h.elim
  | _ => rfl

variable {A : Right → Prop}

/-! ## Changes of one context -/

theorem watchOf_modWatch (s : State) (n seat : Nat) (f : Watch → Watch) :
    watchOf (modWatch s n seat f) n seat = (watchOf s n seat).map f := by
  unfold watchOf
  rw [truckOf_modWatch]
  cases truckOf s n <;> simp

theorem watchOf_eq_some {s : State} {n seat : Nat} {w : Watch} (h : watchOf s n seat = some w) :
    ∃ k, truckOf s n = some k ∧ k.watch seat = w := Option.map_eq_some_iff.mp h

theorem modWatch_path (s : State) (n seat : Nat) (f : Watch → Watch) (hA : A (.watch n))
    (h : ∀ w, watchOf s n seat = some w → (deadlineFits w → deadlineFits (f w)) ∧
      AlarmMove A n (seatIndex seat) w (f w)) : Path A s (modWatch s n seat f) := by
  refine modTruck_path s n _ (fun k hk => ?_)
  obtain ⟨hfits, halarm⟩ := h (k.watch seat) (congrArg (Option.map _) hk)
  have hn : k.num = n := (findBy_some hk).1
  exact .ofWatch (hn.symm ▸ hA) hfits (hn.symm ▸ halarm)

theorem changeBy_changeBy {α : Type} {key : α → Nat} {n : Nat} {f g : α → α} (hf : ∀ x, key x = n → key (f x) = n)
    (l : List α) : changeBy key n g (changeBy key n f l) = changeBy key n (fun x => g (f x)) l := by
  unfold changeBy
  rw [List.map_map]
  refine List.map_congr_left fun x _ => ?_
  by_cases h : key x = n <;> simp [h, hf]

theorem modTruck_modTruck (s : State) (n : Nat) {f : Truck → Truck} (g : Truck → Truck)
    (hf : ∀ k, k.num = n → (f k).num = n) : modTruck (modTruck s n f) n g = modTruck s n fun k => g (f k) := by
  unfold modTruck
  rw [changeBy_changeBy hf]

theorem Truck.withWatch_withWatch (k : Truck) (seat : Nat) (v w : Watch) :
    (k.withWatch seat v).withWatch seat w = k.withWatch seat w := by
  unfold Truck.withWatch
  by_cases h : seat = 1 <;> simp [h]

theorem modWatch_modWatch (s : State) (n seat : Nat) (f g : Watch → Watch) :
    modWatch (modWatch s n seat f) n seat g = modWatch s n seat fun w => g (f w) := by
  unfold modWatch
  rw [modTruck_modTruck s n _ (by simp)]
  simp only [Truck.withWatch_watch, Truck.withWatch_withWatch]

theorem truckGrace_of_zone {s : State} {k k' : Truck} (h : k'.zone = k.zone) : truckGrace s k' = truckGrace s k := by
  unfold truckGrace
  rw [h]

/-- The deadline computed behind a change of the same context is one change of it (R45). -/
theorem computeWatch_modWatch {s : State} {n : Nat} {k : Truck} (hk : truckOf s n = some k) (seat : Nat)
    (f : Watch → Watch) : computeWatch (modWatch s n seat f) n seat =
      modWatch s n seat fun w => (f w).compute (truckGrace s k) (bandEntryInForce s).allowance s.now := by
  have hk' : truckOf (modWatch s n seat f) n = some (k.withWatch seat (f (k.watch seat))) := by
    rw [truckOf_modWatch, hk]
    simp
  unfold computeWatch
  simp only [hk']
  rw [modWatch_modWatch]
  have hzone : truckGrace (modWatch s n seat f) (k.withWatch seat (f (k.watch seat))) = truckGrace s k :=
    truckGrace_of_zone (Truck.withWatch_zone k seat _)
  rw [hzone]
  rfl

/-- A computed deadline fits the moment it is computed at (R45). -/
theorem deadlineFits_compute (grace allowance now : Nat) {w : Watch}
    (hi : w.set.timer = .interval → w.lastContact = some now) (ht : w.set.timer = .task → w.startTime = some now) :
    deadlineFits (w.compute grace allowance now) := by
  intro _
  unfold Watch.compute Watch.withDeadline Watch.noDeadline
  cases htimer : w.set.timer <;> simp only [htimer]
  case interval =>
    refine ⟨now, _, hi htimer, rfl, ?_⟩
    have := Nat.min_le_right (grace + allowance) (w.set.interval / 2)
    omega
  case task =>
    refine ⟨now, _, ht htimer, rfl, ?_⟩
    have := Nat.min_le_right (grace + allowance) (w.set.task / 2)
    omega

theorem compute_state (grace allowance now : Nat) (w : Watch) : (w.compute grace allowance now).state = w.state := by
  unfold Watch.compute
  cases w.set.timer <;> rfl

theorem compute_set (grace allowance now : Nat) (w : Watch) : (w.compute grace allowance now).set = w.set := by
  unfold Watch.compute
  cases w.set.timer <;> rfl

/-- A change of a context followed by the computation of its deadline: from a context in ALARM by the right to recover
from another mode than LATCHED alone. -/
theorem computed_path (s : State) (n seat : Nat) (f : Watch → Watch) (hA : A (.watch n))
    (h : ∀ w, watchOf s n seat = some w →
      (w.state = .alarm → w.set.alarm ≠ .latched ∧ A (.recover n)) ∧
      ((f w).set.timer = .interval → (f w).lastContact = some s.now) ∧
      ((f w).set.timer = .task → (f w).startTime = some s.now)) : Path A s (computeWatch (modWatch s n seat f) n seat) := by
  cases hk : truckOf s n with
  | none =>
    have hnone : truckOf (modWatch s n seat f) n = none := by rw [truckOf_modWatch, hk]; rfl
    have hsame : computeWatch (modWatch s n seat f) n seat = modWatch s n seat f := by
      unfold computeWatch
      rw [hnone]
    rw [hsame]
    exact modWatch_path s n seat f hA fun w hw => by simp [watchOf, hk] at hw
  | some k =>
    rw [computeWatch_modWatch hk]
    refine modWatch_path s n seat _ hA fun w hw => ?_
    obtain ⟨halarm, hi, ht⟩ := h w hw
    exact ⟨fun _ => deadlineFits_compute _ _ _ hi ht, fun e => .inr (.inr (halarm e))⟩

/-! ## Notices, prompts and warnings (R52, R53, R64) -/

theorem postWatchState_path (s : State) (n seat : Nat) (why : WatchReason) : Path A s (postWatchState s n seat why) := by
  unfold postWatchState
  split
  · exact post_path s _
  · exact .refl s

theorem removePrompt_path (s : State) (n seat : Nat) (k : PromptKind) : Path A s (removePrompt s n seat k) := by
  unfold removePrompt
  split
  · split
    · exact dropRec_path s n _
    · exact .refl s
  · exact .refl s

/-- A warning reached in WATCH (R52). -/
theorem enterWarn_path (s : State) (n seat : Nat) (hA : A (.watch n))
    (hw : ∀ w, watchOf s n seat = some w → w.state = .watch) : Path A s (enterWarn s n seat) := by
  unfold enterWarn
  split
  · refine Path.trans (Path.trans ?_ (give_path_of_not_grant _ n rfl)) (post_path _ _)
    refine modWatch_path s n seat _ hA fun w hw' => ?_
    have hstate := hw w hw'
    refine ⟨fun h _ => h (.inl hstate), fun e => ?_⟩
    rw [hstate] at e
    exact absurd e (by decide)
  · exact .refl s

theorem warnReached_state {now : Nat} {w : Watch} (h : w.warnReached now = true) : w.state = .watch := by
  simp only [Watch.warnReached, Bool.and_eq_true, beq_iff_eq] at h
  exact h.1

theorem warnAtOnce_path (s : State) (n seat : Nat) (hA : A (.watch n)) : Path A s (warnAtOnce s n seat) := by
  unfold warnAtOnce
  split
  · rename_i w hw
    split
    · refine enterWarn_path s n seat hA fun v hv => ?_
      rw [Option.some.inj (hv.symm.trans hw)]
      exact warnReached_state ‹_›
    · exact .refl s
  · exact .refl s

/-! ## Assist calls (R60 to R63) -/

theorem assistOne_path (s : State) (n : Nat) : Path A s (assistOne s n) := by
  unfold assistOne
  split
  · dsimp only
    split
    · split
      · exact dropRec_path s n _
      · split
        · exact .refl s
        · exact give_path_of_not_grant s n rfl
    · split
      · exact .refl s
      · exact give_path_of_not_grant s n rfl
  · exact .refl s

theorem assistSite_path (s : State) (site : Nat) : Path A s (assistSite s site) := Path.foldl assistOne_path _ s

theorem assistFor_path (s : State) (n : Nat) : Path A s (assistFor s n) := by
  unfold assistFor
  split
  · split
    · exact assistSite_path s _
    · exact .refl s
  · exact .refl s

theorem assistAll_path (s : State) : Path A s (assistAll s) := Path.foldl assistSite_path _ s

theorem removeAssists_path (s : State) : Path A s (removeAssists s) := Path.foldl (fun u n => dropRec_path u n _) _ s

/-! ## Alarms (R54, R55) -/

/-- A context as an alarm raised at `now` leaves it (R55). -/
def Watch.alarmed (now : Nat) (cause : AlarmCause) (w : Watch) : Watch :=
  { w with
    state := .alarm, alarm := some { cause := cause, raised := now }, deadline := none, warnTime := none
    stillSince := none, flags := { w.flags with alarmed := true } }

/-- What an alarm brings behind the change of its context `w` of truck `t` (R55). -/
def afterAlarm (s : State) (t : Truck) (n seat : Nat) (cause : AlarmCause) (w : Watch) : State :=
  let s2 := post s (.alarm n seat cause w.set.alarm t.zone (stampOpt s w.lastContact) (canGive s n (.prompt seat)))
  let s3 := give s2 n (.prompt { seat := seat, kind := .alarmed, deadline := none, cause := some cause })
  assistFor (if w.set.alarm = .reportOnly then s3 else haltForAlarm s3 n) n

theorem enterAlarm_eq {s : State} {n : Nat} {t : Truck} (ht : truckOf s n = some t) (seat : Nat) (cause : AlarmCause) :
    enterAlarm s n seat cause = afterAlarm (modWatch s n seat (Watch.alarmed s.now cause)) t n seat cause (t.watch seat) := by
  unfold enterAlarm
  rw [ht]
  rfl

theorem enterAlarm_none {s : State} {n : Nat} (ht : truckOf s n = none) (seat : Nat) (cause : AlarmCause) :
    enterAlarm s n seat cause = s := by
  unfold enterAlarm
  rw [ht]

theorem afterAlarm_path (s : State) (t : Truck) (n seat : Nat) (cause : AlarmCause) (w : Watch) :
    Path A s (afterAlarm s t n seat cause w) := by
  refine Path.trans ?_ (assistFor_path _ n)
  have hgiven := (post_path (A := A) s
    (.alarm n seat cause w.set.alarm t.zone (stampOpt s w.lastContact) (canGive s n (.prompt seat)))).trans
    (give_path_of_not_grant _ n (c := .prompt { seat := seat, kind := .alarmed, deadline := none, cause := some cause }) rfl)
  split
  · exact hgiven
  · exact hgiven.trans (haltForAlarm_path _ n)

theorem not_deadlineFits_of_idle {w : Watch} (h : ¬(w.state = .watch ∨ w.state = .warn)) : deadlineFits w :=
  fun e => absurd e h

theorem alarmed_move (n seat now : Nat) (cause : AlarmCause) {v w : Watch} (hset : w.set.alarm = v.set.alarm) :
    (deadlineFits v → deadlineFits (w.alarmed now cause)) ∧ AlarmMove A n seat v (w.alarmed now cause) :=
  ⟨fun _ => not_deadlineFits_of_idle (by simp [Watch.alarmed]), .of_state_set (fun _ => rfl) fun _ => hset⟩

theorem enterAlarm_path (s : State) (n seat : Nat) (cause : AlarmCause) (hA : A (.watch n)) :
    Path A s (enterAlarm s n seat cause) := by
  cases ht : truckOf s n with
  | none =>
    rw [enterAlarm_none ht]
    exact .refl s
  | some t =>
    rw [enterAlarm_eq ht]
    exact (modWatch_path s n seat _ hA fun w _ => alarmed_move n _ _ cause rfl).trans (afterAlarm_path _ t n seat cause _)

theorem deadlineAlarm_path (s : State) (n seat : Nat) (hA : A (.watch n)) : Path A s (deadlineAlarm s n seat) := by
  unfold deadlineAlarm
  split
  · exact enterAlarm_path s n seat _ hA
  · exact .refl s

/-- After an alarm the context is in ALARM under its alarm mode. -/
theorem watchOf_enterAlarm (s : State) (n seat : Nat) (cause : AlarmCause) :
    watchOf (enterAlarm s n seat cause) n seat = (watchOf s n seat).map (Watch.alarmed s.now cause) := by
  cases ht : truckOf s n with
  | none =>
    rw [enterAlarm_none ht]
    simp [watchOf, ht]
  | some t => rw [enterAlarm_eq ht, (afterAlarm_path _ t n seat cause _).watchOf_eq, watchOf_modWatch]

/-! ## Start and stop (R43, R44) -/

theorem AlarmMove.of_not_alarm {n seat : Nat} {w w' : Watch} (h : w.state ≠ .alarm) : AlarmMove A n seat w w' :=
  fun e => absurd e h

theorem startContext_path (s : State) (n seat : Nat) (order : Option Nat) (why : WatchReason) (hA : A (.watch n))
    (hw : ∀ w, watchOf s n seat = some w → w.state ≠ .alarm) : Path A s (startContext s n seat order why) := by
  refine Path.trans (Path.trans ?_ (postWatchState_path _ n seat why)) (warnAtOnce_path _ n seat hA)
  exact computed_path s n seat _ hA fun w hw' => ⟨fun e => absurd e (hw w hw'), fun _ => rfl, fun _ => rfl⟩

theorem stopContext_path (s : State) (n seat : Nat) (why : WatchReason) (hA : A (.watch n))
    (hw : ∀ w, watchOf s n seat = some w → w.state ≠ .alarm) : Path A s (stopContext s n seat why) := by
  refine Path.trans (Path.trans ?_ (removePrompt_path _ n seat _)) (postWatchState_path _ n seat why)
  exact modWatch_path s n seat _ hA fun w hw' => ⟨fun _ => not_deadlineFits_of_idle (by simp), .of_not_alarm (hw w hw')⟩

/-! ## Check-in (R42, R47, R48) -/

theorem applyStaged_timer {w : Watch} (h : w.modeChanges = false) : w.applyStaged.set.timer = w.set.timer := by
  unfold Watch.modeChanges at h
  unfold Watch.applyStaged
  split
  · rename_i st hst
    rw [hst] at h
    simpa using h
  · rfl

theorem warnToWatch_path (s : State) (n seat : Nat) (why : WatchReason) (hA : A (.watch n)) :
    Path A s (warnToWatch s n seat why) := by
  unfold warnToWatch
  split
  · rename_i w hw
    split
    · rename_i hwarn
      refine Path.trans (Path.trans ?_ (postWatchState_path _ n seat why)) (removePrompt_path _ n seat _)
      refine modWatch_path s n seat _ hA fun v hv => ?_
      obtain rfl := Option.some.inj (hv.symm.trans hw)
      exact ⟨fun h _ => h (.inr hwarn), .of_not_alarm (by rw [hwarn]; decide)⟩
    · exact .refl s
  · exact .refl s

/-- Which frame CTX takes next does not depend on the crew. -/
theorem kick_withTrucks (s : State) (l : List Truck) : kick { s with trucks := l } = { kick s with trucks := l } := by
  have hflow : flowOpen { s with trucks := l } = flowOpen s := rfl
  unfold kick
  rw [hflow]
  dsimp only
  split
  · rfl
  · split
    · rfl
    · split
      · split <;> rfl
      · rfl

/-- A notice does not depend on the crew it is posted over. -/
theorem post_modTruck (s : State) (n : Nat) (f : Truck → Truck) (b : NoticeBody) :
    post (modTruck s n f) b = modTruck (post s b) n f := by
  have htrucks : (post s b).trucks = s.trucks := post_keeps s b .trucks (by decide)
  unfold modTruck
  rw [htrucks]
  exact kick_withTrucks { s with port := s.port.enqueue { stamp := stamp s s.now, body := b } } _

theorem modTruck_comm (s : State) (n : Nat) {f g : Truck → Truck} (hf : ∀ k, k.num = n → (f k).num = n)
    (hg : ∀ k, k.num = n → (g k).num = n) (h : ∀ k, f (g k) = g (f k)) :
    modTruck (modTruck s n f) n g = modTruck (modTruck s n g) n f := by
  rw [modTruck_modTruck s n g hf, modTruck_modTruck s n f hg]
  simp only [h]

theorem postWatchState_modWatch {s : State} {n seat : Nat} {f : Watch → Watch} (why : WatchReason)
    (h : ∀ w, (f w).state = w.state ∧ (f w).deadline = w.deadline ∧ (f w).startedBy = w.startedBy) :
    postWatchState (modWatch s n seat f) n seat why = modWatch (postWatchState s n seat why) n seat f := by
  unfold postWatchState
  rw [watchOf_modWatch]
  cases hw : watchOf s n seat with
  | none => rfl
  | some w =>
    obtain ⟨h1, h2, h3⟩ := h w
    simp only [Option.map_some, h1, h2, h3]
    exact post_modTruck s n _ _

theorem recOf_modWatch (s : State) (n seat m : Nat) (f : Watch → Watch) (x : Subject) :
    recOf (modWatch s n seat f) m x = recOf s m x := by
  unfold recOf
  rw [truckOf_modWatch]
  cases truckOf s m with
  | none => rfl
  | some k =>
    simp only [Option.map_some, Option.bind_some]
    split
    · rw [Truck.withWatch_queue]
    · rfl

theorem withWatch_queue_comm (k : Truck) (seat : Nat) (f : Watch → Watch) (q : List Rec → List Rec) :
    ({ k with queue := q k.queue } : Truck).withWatch seat (f (Truck.watch { k with queue := q k.queue } seat)) =
      { k.withWatch seat (f (k.watch seat)) with queue := q (k.withWatch seat (f (k.watch seat))).queue } := by
  unfold Truck.withWatch Truck.watch
  split <;> rfl

theorem removePrompt_modWatch (s : State) (n seat : Nat) (k : PromptKind) (f : Watch → Watch) :
    removePrompt (modWatch s n seat f) n seat k = modWatch (removePrompt s n seat k) n seat f := by
  unfold removePrompt
  rw [recOf_modWatch]
  split
  · split
    · exact modTruck_comm s n (by simp) (by simp) fun k => withWatch_queue_comm k seat f fun q => afterLeaving q _
    · rfl
  · rfl

/-- A change of the context that its state, its deadline and its starter do not show may be made behind the return to
WATCH as well. -/
theorem warnToWatch_modWatch {s : State} {n seat : Nat} {f : Watch → Watch} (why : WatchReason)
    (h : ∀ w, (f w).state = w.state ∧ (f w).deadline = w.deadline ∧ (f w).startedBy = w.startedBy)
    (hcomm : ∀ w, f { w with state := .watch } = { f w with state := .watch }) :
    warnToWatch (modWatch s n seat f) n seat why = modWatch (warnToWatch s n seat why) n seat f := by
  unfold warnToWatch
  rw [watchOf_modWatch]
  cases hw : watchOf s n seat with
  | none => rfl
  | some w =>
    simp only [Option.map_some, (h w).1]
    split
    · rw [modWatch_modWatch]
      simp only [← hcomm]
      rw [← modWatch_modWatch s n seat (fun w => { w with state := .watch }) f, postWatchState_modWatch why h,
        removePrompt_modWatch]
    · rfl

theorem restartUnderStaged_path (s : State) (n seat : Nat) (hA : A (.watch n))
    (hw : ∀ w, watchOf s n seat = some w → w.state ≠ .alarm) : Path A s (restartUnderStaged s n seat) := by
  have hreturn : warnToWatch (modWatch s n seat Watch.applyStaged) n seat .checkIn =
      modWatch (warnToWatch s n seat .checkIn) n seat Watch.applyStaged := by
    refine warnToWatch_modWatch .checkIn (fun w => ?_) fun w => ?_
    · unfold Watch.applyStaged
      split <;> exact ⟨rfl, rfl, rfl⟩
    · unfold Watch.applyStaged
      cases h : w.staged <;> simp only [h]
  unfold restartUnderStaged
  dsimp only
  rw [hreturn, modWatch_modWatch]
  have hkeeps : Path A s (warnToWatch s n seat .checkIn) := warnToWatch_path s n seat .checkIn hA
  have hnow : (warnToWatch s n seat .checkIn).now = s.now := by
    unfold warnToWatch State.now
    split
    · split
      · rw [(removePrompt_keeps _ n seat _) .clock (by decide), (postWatchState_keeps _ n seat _) .clock (by decide)]
        rfl
      · rfl
    · rfl
  have hstate : ∀ w, watchOf (warnToWatch s n seat .checkIn) n seat = some w → w.state ≠ .alarm := by
    intro w h
    unfold warnToWatch at h
    split at h
    · rename_i v hv
      split at h
      · rw [(removePrompt_path _ n seat _).watchOf_eq, (postWatchState_path _ n seat _).watchOf_eq, watchOf_modWatch, hv] at h
        obtain rfl := Option.some.inj h
        exact fun e => by simp at e
      · exact hw w h
    · exact hw w h
  refine Path.trans (Path.trans hkeeps ?_) (warnAtOnce_path _ n seat hA)
  refine computed_path _ n seat _ hA fun w hw' => ⟨fun e => absurd e (hstate w hw'), fun _ => ?_, fun _ => ?_⟩
  · rw [hnow]; rfl
  · rw [hnow]; rfl

theorem becomesStill_stillness {w : Watch} (h : w.set.timer = .stillness) (now : Nat) : deadlineFits (w.becomesStill now) := by
  intro _
  simp [Watch.becomesStill, Watch.withDeadline, h]

theorem deadlineFits_stillness {w : Watch} (h : w.set.timer = .stillness) : deadlineFits w := by
  intro _
  rw [h]
  trivial

/-- A check-in of a context that is not in ALARM (R47, R48). -/
theorem checkIn_path (s : State) (n seat : Nat) (hA : A (.watch n))
    (hw : ∀ w, watchOf s n seat = some w → w.state ≠ .alarm) : Path A s (checkIn s n seat) := by
  unfold checkIn
  split
  · rename_i w hfound
    have hsame : ∀ {v}, watchOf s n seat = some v → v = w := fun hv => Option.some.inj (hv.symm.trans hfound)
    split
    · rename_i htimer
      refine modWatch_path s n seat _ hA fun v hv => ⟨fun h hr => ?_, .of_state_set id fun _ => rfl⟩
      obtain rfl := hsame hv
      have := h hr
      simpa [htimer] using this
    · rename_i htimer
      split
      · exact restartUnderStaged_path s n seat hA hw
      · rename_i hmode
        refine Path.trans (Path.trans (Path.trans ?_ (warnToWatch_path _ n seat .checkIn hA)) (removePrompt_path _ n seat _))
          (warnAtOnce_path _ n seat hA)
        refine computed_path s n seat _ hA fun v hv => ⟨fun e => absurd e (hw v hv), fun _ => rfl, fun e => ?_⟩
        obtain rfl := hsame hv
        rw [show ({ v.applyStaged with lastContact := some s.now } : Watch).set.timer = v.applyStaged.set.timer from rfl,
          applyStaged_timer (by simpa using hmode), htimer] at e
        exact absurd e (by decide)
    · rename_i htimer
      split
      · exact restartUnderStaged_path s n seat hA hw
      · rename_i hmode
        have hstill : Path A s (modWatch s n seat fun w =>
            if ({ w.applyStaged with lastContact := some s.now, stillAcc := 0 } : Watch).stillSince.isSome then
              Watch.becomesStill s.now { w.applyStaged with lastContact := some s.now, stillAcc := 0 }
            else { w.applyStaged with lastContact := some s.now, stillAcc := 0 }) := by
          refine modWatch_path s n seat _ hA fun v hv => ⟨fun _ => ?_, .of_not_alarm (hw v hv)⟩
          obtain rfl := hsame hv
          have ht : v.applyStaged.set.timer = .stillness := (applyStaged_timer (by simpa using hmode)).trans htimer
          split
          · exact becomesStill_stillness (w := { v.applyStaged with lastContact := some s.now, stillAcc := 0 }) ht _
          · exact deadlineFits_stillness ht
        have hback := hstill.trans (warnToWatch_path _ n seat .checkIn hA)
        dsimp only
        split
        · exact hback.trans (warnAtOnce_path _ n seat hA)
        · exact hback
  · exact .refl s

/-! ## Motion and task end (R49 to R51) -/

section
variable (s : State) (n seat : Nat) (hA : A (.watch n))
include hA

theorem touch_path (h : ∀ w, watchOf s n seat = some w → w.set.timer = .stillness) :
    Path A s (modWatch s n seat fun w => { w with lastContact := some s.now }) :=
  modWatch_path s n seat _ hA fun w hw => ⟨fun _ => deadlineFits_stillness (h w hw), .of_state_set id fun _ => rfl⟩

theorem motionStill_path (h : ∀ w, watchOf s n seat = some w → w.set.timer = .stillness) :
    Path A s (motionStill s n seat) := by
  unfold motionStill
  split
  · split
    · exact touch_path s n seat hA h
    · refine Path.trans ?_ (warnAtOnce_path _ n seat hA)
      exact modWatch_path s n seat _ hA fun w hw =>
        ⟨fun _ => becomesStill_stillness (h w hw) _, .of_state_set id fun _ => rfl⟩
  · exact .refl s

theorem motionMoving_path (h : ∀ w, watchOf s n seat = some w → w.set.timer = .stillness) :
    Path A s (motionMoving s n seat) := by
  unfold motionMoving
  split
  · split
    · refine Path.trans ?_ (warnToWatch_path _ n seat .motion hA)
      exact modWatch_path s n seat _ hA fun w hw =>
        ⟨fun _ => deadlineFits_stillness (h w hw), .of_state_set id fun _ => rfl⟩
    · exact touch_path s n seat hA h
  · exact .refl s

theorem endTask_path (hw : ∀ w, watchOf s n seat = some w → w.state ≠ .alarm) : Path A s (endTask s n seat) := by
  unfold endTask
  split
  · refine Path.trans (Path.trans ?_ (removePrompt_path _ n seat _)) (post_path _ _)
    exact modWatch_path s n seat _ hA fun w hw' => ⟨fun _ => not_deadlineFits_of_idle (by simp), .of_not_alarm (hw w hw')⟩
  · exact .refl s

/-! ## Contact after alarm (R56, R57) -/

theorem contactLatched_path (item : ItemKind) (hw : ∀ w, watchOf s n seat = some w → w.state = .alarm) :
    Path A s (contactLatched s n seat item) := by
  refine Path.trans (Path.trans ?_ (post_path _ _)) (assistFor_path _ n)
  refine modWatch_path s n seat _ hA fun w hw' => ⟨fun _ => not_deadlineFits_of_idle ?_, .of_state_set id fun _ => rfl⟩
  simp [hw w hw']

theorem recover_path (item : ItemKind) (hr : A (.recover n))
    (hw : ∀ w, watchOf s n seat = some w → w.set.alarm ≠ .latched) : Path A s (recover s n seat item) := by
  refine Path.trans (Path.trans (Path.trans (Path.trans ?_ (post_path _ _)) (removePrompt_path _ n seat _))
    (assistFor_path _ n)) (warnAtOnce_path _ n seat hA)
  exact computed_path s n seat _ hA fun w hw' => ⟨fun _ => ⟨hw w hw', hr⟩, fun _ => rfl, fun _ => rfl⟩

omit hA in
/-- A context that has recovered runs (R57). -/
theorem watchOf_recover (item : ItemKind) {w : Watch} (h : watchOf (recover s n seat item) n seat = some w) :
    w.state ≠ .alarm := by
  have hwarned : ∀ (u : State) {v : Watch}, (∀ x, watchOf u n seat = some x → x.state = .watch) →
      watchOf (warnAtOnce u n seat) n seat = some v → v.state ≠ .alarm := by
    intro u v hu hv e
    unfold warnAtOnce at hv
    split at hv
    · split at hv
      · unfold enterWarn at hv
        split at hv
        · rw [(post_path _ _).watchOf_eq, (give_path_of_not_grant _ n rfl).watchOf_eq, watchOf_modWatch] at hv
          obtain ⟨x, -, rfl⟩ := Option.map_eq_some_iff.mp hv
          exact absurd e (by simp)
        · rw [hu v hv] at e
          exact absurd e (by decide)
      · rw [hu v hv] at e
        exact absurd e (by decide)
    · rw [hu v hv] at e
      exact absurd e (by decide)
  refine hwarned _ (fun x hx => ?_) h
  rw [(assistFor_path _ n).watchOf_eq, (removePrompt_path _ n seat _).watchOf_eq, (post_path _ _).watchOf_eq] at hx
  cases hk : truckOf s n with
  | none =>
    have hnone : truckOf (modWatch s n seat fun w => { w.applyStaged.started s.now with alarm := none }) n = none := by
      rw [truckOf_modWatch, hk]
      rfl
    unfold computeWatch at hx
    rw [hnone] at hx
    simp [watchOf, hnone] at hx
  | some k =>
    rw [computeWatch_modWatch hk, watchOf_modWatch] at hx
    obtain ⟨v, -, rfl⟩ := Option.map_eq_some_iff.mp hx
    rw [compute_state]
    rfl

/-- An item of a running context (R40). -/
theorem takeRunning_path (item : ItemKind) (still : Bool) (hw : ∀ w, watchOf s n seat = some w → w.state ≠ .alarm) :
    Path A s (takeRunning s n seat item still) := by
  unfold takeRunning
  split
  · rename_i w hfound
    have hsame : ∀ {v}, watchOf s n seat = some v → v = w := fun hv => Option.some.inj (hv.symm.trans hfound)
    split
    · exact checkIn_path s n seat hA hw
    · split
      · exact endTask_path s n seat hA hw
      · exact checkIn_path s n seat hA hw
    · split
      · rename_i htimer
        split
        · exact motionStill_path s n seat hA fun v hv => hsame hv ▸ htimer
        · exact motionMoving_path s n seat hA fun v hv => hsame hv ▸ htimer
      · exact .refl s
    · exact .refl s
  · exact .refl s

theorem contactAfterAlarm_path (item : ItemKind) (still : Bool) (hr : A (.recover n))
    (hw : ∀ w, watchOf s n seat = some w → w.state = .alarm) : Path A s (contactAfterAlarm s n seat item still) := by
  unfold contactAfterAlarm
  split
  · rename_i w hfound
    split
    · exact contactLatched_path s n seat hA item hw
    · rename_i hmode
      refine Path.trans (recover_path s n seat hA item hr fun v hv => ?_)
        (takeRunning_path _ n seat hA item still fun v hv => watchOf_recover s n seat item hv)
      rwa [Option.some.inj (hv.symm.trans hfound)]
  · exact .refl s

omit hA in
theorem watchOf_deadlineAlarm_state {w : Watch} (h : watchOf (deadlineAlarm s n seat) n seat = some w) :
    w.state = .alarm := by
  unfold deadlineAlarm at h
  split at h
  · rw [watchOf_enterAlarm] at h
    obtain ⟨v, -, rfl⟩ := Option.map_eq_some_iff.mp h
    rfl
  · rename_i hnone
    rw [hnone] at h
    exact absurd h (by simp)

theorem takeContact_path (item : ItemKind) (still : Bool) (hr : A (.recover n)) :
    Path A s (takeContact s n seat item still) := by
  unfold takeContact
  split
  · split
    · rename_i w hfound
      have hsame : ∀ {v}, watchOf s n seat = some v → v = w := fun hv => Option.some.inj (hv.symm.trans hfound)
      split
      · exact .refl s
      · rename_i hstate
        exact contactAfterAlarm_path s n seat hA item still hr fun v hv => hsame hv ▸ hstate
      · rename_i hnotAlarm
        split
        · exact (deadlineAlarm_path s n seat hA).trans (contactAfterAlarm_path _ n seat hA item still hr fun v hv =>
            watchOf_deadlineAlarm_state s n seat hv)
        · exact takeRunning_path s n seat hA item still fun v hv => hsame hv ▸ hnotAlarm
    · exact .refl s
  · exact .refl s

omit hA in
/-- The truck's record with one context changed. -/
theorem truckOf_modWatch_self {k : Truck} (hk : truckOf s n = some k) (f : Watch → Watch) :
    truckOf (modWatch s n seat f) n = some (k.withWatch seat (f (k.watch seat))) := by
  rw [truckOf_modWatch, hk]
  simp

theorem takeEmergency_path (seat0 : Nat) : Path A s (takeEmergency s n seat0) := by
  unfold takeEmergency
  dsimp only
  generalize (if seat0 = 2 then 2 else 1) = seat
  split
  · rename_i w hfound
    have hsame : ∀ {v}, watchOf s n seat = some v → v = w := fun hv => Option.some.inj (hv.symm.trans hfound)
    split
    · rename_i hstate
      have hcause : Path A s (modWatch s n seat fun w =>
          { w with alarm := w.alarm.map fun a => { a with cause := .emergency } }) :=
        modWatch_path s n seat _ hA fun v _ => ⟨id, .of_state_set id fun _ => rfl⟩
      refine hcause.trans (contactLatched_path _ n seat hA _ fun v hv => ?_)
      rw [watchOf_modWatch, hfound] at hv
      obtain rfl := Option.some.inj hv
      exact hstate
    · obtain ⟨k, hk, -⟩ := watchOf_eq_some hfound
      rw [enterAlarm_eq (truckOf_modWatch_self s n seat hk _), modWatch_modWatch]
      refine Path.trans ?_ (afterAlarm_path _ _ n seat _ _)
      exact modWatch_path s n seat _ hA fun v _ =>
        alarmed_move n _ _ _ (w := { v with lastContact := some s.now }) rfl
  · exact .refl s

/-! ## Orders and watches (R30, R31) -/

theorem applyProfile_path (order : Nat) (p : Profile) : Path A s (applyProfile s n order p) := by
  unfold applyProfile
  split
  · rename_i w hfound
    have hsame : ∀ {v}, watchOf s n p.seat = some v → v = w := fun hv => Option.some.inj (hv.symm.trans hfound)
    split
    · rename_i hidle
      have hset : Path A s (modWatch s n p.seat fun w => { w with set := p.set }) := by
        refine modWatch_path s n p.seat _ hA fun v hv => ?_
        obtain rfl := hsame hv
        exact ⟨fun _ => not_deadlineFits_of_idle (by simp [hidle]), .of_not_alarm (by simp [hidle])⟩
      refine hset.trans (startContext_path _ n p.seat _ _ hA fun v hv => ?_)
      rw [watchOf_modWatch, hfound] at hv
      obtain rfl := Option.some.inj hv
      simp [hidle]
    · exact modWatch_path s n p.seat _ hA fun v _ => ⟨id, .of_state_set id fun _ => rfl⟩
  · exact .refl s

theorem stopIfStarted_path (order : Nat) : Path A s (stopIfStarted s n seat order) := by
  unfold stopIfStarted
  split
  · rename_i w hfound
    have hsame : ∀ {v}, watchOf s n seat = some v → v = w := fun hv => Option.some.inj (hv.symm.trans hfound)
    split
    · split
      · rename_i hstate
        exact stopContext_path s n seat _ hA fun v hv => by simp [hsame hv, hstate]
      · rename_i hstate
        exact stopContext_path s n seat _ hA fun v hv => by simp [hsame hv, hstate]
      · exact modWatch_path s n seat _ hA fun v _ => ⟨id, .of_state_set id fun _ => rfl⟩
      · exact .refl s
    · exact .refl s
  · exact .refl s

end

theorem stopForOrder_path (s : State) (n order : Nat) (hA : A (.watch n)) : Path A s (stopForOrder s n order) :=
  (stopIfStarted_path s n 1 hA order).trans (stopIfStarted_path _ n 2 hA order)

end Sys2Proof.Machine

/-!
PROOFS. The operations as paths, part three: orders, the outcomes of records, step asks and step ends.
-/
namespace Sys2Proof.Machine

variable {A : Right → Prop}

/-- A branch is a path where both ways are. -/
theorem ite_path {s t u : State} {p : Prop} [Decidable p] (ht : Path A s t) (hu : Path A s u) :
    Path A s (if p then t else u) := by
  split
  · exact ht
  · exact hu

/-! ## Orders (R17 to R25) -/

/-- A change of an order that leaves its number and its two lists. -/
theorem OrderMove.ofLists {o o' : Order} (hnum : o'.num = o.num) (hcands : o'.cands = o.cands) (htried : o'.tried = o.tried) :
    OrderMove o o' := by
  refine ⟨hnum, fun h => ?_⟩
  unfold Order.TriedOk at h ⊢
  rwa [hcands, htried]

theorem postOrderState_path (s : State) (n : Nat) : Path A s (postOrderState s n) := by
  unfold postOrderState
  split
  · exact post_path s _
  · exact .refl s

theorem backToQueued_path (s : State) (n : Nat) : Path A s (backToQueued s n) :=
  (modOrder_path s n Order.requeued (fun _ _ => .ofLists rfl rfl rfl) fun _ h => h).trans (postOrderState_path _ n)

theorem offeredTo_move (now wait t : Nat) (o : Order) : OrderMove o (o.offeredTo now wait t) := by
  refine ⟨rfl, fun ⟨hc, hlen, ht, hsub⟩ => ?_⟩
  unfold Order.TriedOk Order.offeredTo
  dsimp only
  split
  · rename_i h
    simp only [Bool.and_eq_true, Bool.not_eq_true', List.contains_eq_mem, decide_eq_false_iff_not] at h
    refine ⟨hc, hlen, nodup_append_new ht h.2, fun m hm => ?_⟩
    obtain hm | hm := List.mem_append.mp hm
    · exact hsub m hm
    · exact List.mem_singleton.mp hm ▸ by simpa using h.1
  · exact ⟨hc, hlen, ht, hsub⟩

theorem makeOffer_path (s : State) (n t : Nat) : Path A s (makeOffer s n t) := by
  have hoffered : Path A s
      (postOrderState (modOrder (takeOrderSlot s t n) n (Order.offeredTo s.now s.timeouts.offer t)) n) :=
    ((takeOrderSlot_path s t n).trans
      (modOrder_path _ n _ (fun o _ => offeredTo_move _ _ t o) fun _ h => h)).trans (postOrderState_path _ n)
  unfold makeOffer
  dsimp only
  split
  · exact hoffered.trans (giveOrder_path _ t n _ _)
  · exact (hoffered.trans (freeOrderSlot_path _ t n)).trans (backToQueued_path _ n)

theorem rolloverAlong_path (n : Nat) (l : List Nat) (s : State) : Path A s (rolloverAlong n l s) := by
  induction l generalizing s with
  | nil =>
    unfold rolloverAlong
    split
    · exact post_path s _
    · exact .refl s
  | cons t l ih =>
    unfold rolloverAlong
    split
    · split
      · exact makeOffer_path s n t
      · exact (makeOffer_path s n t).trans (ih _)
    · exact ih s

theorem rollover_path (s : State) (n : Nat) : Path A s (rollover s n) := by
  unfold rollover
  split
  · split
    · exact .refl s
    · exact rolloverAlong_path n _ s
  · exact .refl s

theorem orderLosesTruck_path (t : Nat) (s : State) (n : Nat) : Path A s (orderLosesTruck t s n) := by
  unfold orderLosesTruck
  split
  · split
    · exact (backToQueued_path s n).trans (rollover_path _ n)
    · exact .refl s
  · exact .refl s

theorem offerExpires_path (s : State) (n : Nat) : Path A s (offerExpires s n) := by
  unfold offerExpires
  split
  · split
    · refine Path.trans ?_ (rollover_path _ n)
      split
      · exact ((backToQueued_path s n).trans (dropRec_path _ _ _)).trans (freeOrderSlot_path _ _ n)
      · exact (backToQueued_path s n).trans (giveOrder_path _ _ n _ _)
    · exact (backToQueued_path s n).trans (rollover_path _ n)
  · exact .refl s

/-! ## The replies of a truck (R26 to R29) -/

theorem ignoreOrder_path (s : State) (n t : Nat) (c : ReplyCode) : Path A s (ignoreOrder s n t c) := post_path s _

theorem tellLate_path (s : State) (n t : Nat) (d : Disposition) : Path A s (tellLate s n t d) := by
  unfold tellLate
  split
  · split
    · exact .refl s
    · split
      · exact (takeOrderSlot_path s t n).trans (giveOrder_path _ t n d _)
      · exact .refl s
  · exact .refl s

theorem replyAccept_path (s : State) (n t : Nat) : Path A s (replyAccept s n t) := by
  unfold replyAccept
  split
  · exact ignoreOrder_path s n t _
  · split
    · refine Path.trans (Path.trans ?_ (postOrderState_path _ n)) (updateOrderRec_path _ t n _)
      exact modOrder_path s n _ fun _ _ => .ofLists rfl rfl rfl
    · split
      · exact .refl s
      · exact (post_path s _).trans (tellLate_path _ n t _)

theorem replyDecline_path (s : State) (n t : Nat) : Path A s (replyDecline s n t) := by
  unfold replyDecline
  split
  · exact ignoreOrder_path s n t _
  · split
    · exact (((backToQueued_path s n).trans (freeOrderSlot_path _ t n)).trans (dropRec_path _ t _)).trans (rollover_path _ n)
    · exact ignoreOrder_path s n t _

theorem onSite_path (s : State) (n t : Nat) (hA : A (.watch t)) : Path A s (onSite s n t) := by
  unfold onSite
  split
  · exact applyProfile_path s t hA n _
  · exact .refl s

theorem replyProgress_path (s : State) (n t : Nat) (st : OrderState) (c : ReplyCode) (hA : A (.watch t)) :
    Path A s (replyProgress s n t st c) := by
  unfold replyProgress
  split
  · exact ignoreOrder_path s n t c
  · split
    · split
      · have hmoved : Path A s (updateOrderRec (postOrderState (modOrder s n fun o => { o with state := st }) n) t n .held) := by
          refine Path.trans (Path.trans ?_ (postOrderState_path _ n)) (updateOrderRec_path _ t n _)
          exact modOrder_path s n _ fun _ _ => .ofLists rfl rfl rfl
        dsimp only
        split
        · exact hmoved.trans (onSite_path _ n t hA)
        · exact hmoved
      · split
        · exact .refl s
        · exact ignoreOrder_path s n t c
    · exact ignoreOrder_path s n t c

theorem replyComplete_path (s : State) (n t : Nat) (hA : A (.watch t)) : Path A s (replyComplete s n t) := by
  unfold replyComplete
  split
  · exact ignoreOrder_path s n t _
  · split
    · split
      · exact (giveOrder_path s t n _ _).trans (post_path _ _)
      · refine Path.trans (Path.trans (Path.trans (Path.trans ?_ (postOrderState_path _ n)) (freeOrderSlot_path _ t n))
          (dropRec_path _ t _)) (stopForOrder_path _ t n hA)
        exact modOrder_path s n _ fun _ _ => .ofLists rfl rfl rfl
    · split
      · exact .refl s
      · exact ignoreOrder_path s n t _

theorem orderReply_path (s : State) (n t : Nat) (c : ReplyCode) (hA : A (.watch t)) : Path A s (orderReply s n t c) := by
  cases c with
  | accept => exact replyAccept_path s n t
  | decline => exact replyDecline_path s n t
  | enRoute => exact replyProgress_path s n t _ _ hA
  | onSite => exact replyProgress_path s n t _ _ hA
  | complete => exact replyComplete_path s n t hA

/-! ## The outcomes of records (R34, R121 to R127) -/

theorem orderAcknowledged_path (s : State) (t : Nat) (c : OrderContent) : Path A s (orderAcknowledged s t c) := by
  unfold orderAcknowledged
  split
  · split
    · exact freeOrderSlot_path s t _
    · exact .refl s
  · split
    · exact freeOrderSlot_path s t _
    · exact .refl s
  · exact .refl s

theorem orderUndeliverable_path (s : State) (t : Nat) (c : OrderContent) : Path A s (orderUndeliverable s t c) := by
  unfold orderUndeliverable
  split
  · exact .refl s
  · split
    · exact freeOrderSlot_path s t _
    · exact freeOrderSlot_path s t _
    · exact .refl s
    · split
      · exact ((backToQueued_path s _).trans (freeOrderSlot_path _ t _)).trans (rollover_path _ _)
      · exact .refl s

theorem ownerAcknowledged_path (s : State) (t seq : Nat) (c : Content) : Path A s (ownerAcknowledged s t seq c) := by
  cases c with
  | order c => exact orderAcknowledged_path s t c
  | permit c => exact permitOutcome_path s t c
  | answer c =>
    unfold ownerAcknowledged
    dsimp only
    split
    · exact grantAcknowledged_path s c
    · exact .refl s
  | prompt c => exact .refl s
  | assist l => exact .refl s
  | text x => exact post_path s _

theorem ownerLost_path (s : State) (t : Nat) (c : Content) : Path A s (ownerLost s t c) := by
  cases c with
  | order c => exact orderUndeliverable_path s t c
  | permit c => exact permitOutcome_path s t c
  | answer c =>
    unfold ownerLost
    dsimp only
    split
    · exact grantLost_path s c
    · exact .refl s
  | _ => exact .refl s

theorem takeAck_path (t : Nat) (s : State) (seq : Nat) : Path A s (takeAck t s seq) := by
  unfold takeAck
  split
  · exact (dropRec_path s t _).trans (ownerAcknowledged_path _ t seq _)
  · exact .refl s

theorem takeAcks_path (s : State) (t : Nat) (acks : List Nat) : Path A s (takeAcks s t acks) :=
  Path.foldl (takeAck_path t) acks s

theorem loseRec_path (s : State) (t : Nat) (r : Rec) (why : LossReason) (n : Nat) : Path A s (loseRec s t r why n) :=
  ((dropRec_path s t _).trans (post_path _ _)).trans (ownerLost_path _ t _)

/-- A change of the records of a queue that keeps their contents and sequence numbers. -/
theorem mapQueue_path (s : State) (t : Nat) {f : Rec → Rec} (hcontent : ∀ r, (f r).content = r.content)
    (hseq : ∀ r, (f r).seq = r.seq) : Path A s (modTruck s t fun k => { k with queue := k.queue.map f }) := by
  have hsub : ∀ r, (f r).subject = r.subject := fun r => congrArg Content.subject (hcontent r)
  refine modTruck_path s t _ fun k _ => .ofQueue (fun h => ⟨h.1.map hsub hseq, h.2⟩) (fun h => ?_) (.of_subset fun r hr => ?_)
  · have e : (k.queue.map f).map Rec.subject = k.queue.map Rec.subject := by
      rw [List.map_map]
      exact List.map_congr_left fun r _ => hsub r
    exact e ▸ h
  · obtain ⟨x, hx, rfl⟩ := List.mem_map.mp hr
    exact ⟨x, hx, (hcontent x).symm⟩

theorem endTurnRec_path (t : Nat) (s : State) (seq : Nat) : Path A s (endTurnRec t s seq) := by
  unfold endTurnRec
  split
  · split
    · exact (askArb_path s true).trans (loseRec_path _ t _ _ _)
    · refine Path.trans (mapQueue_path s t (f := fun x =>
        if x.seq = seq ∧ x.inFlight = true then { x with inFlight := false, attempts := x.attempts + 1 } else x)
        (fun x => ?_) fun x => ?_) (askArb_path _ true)
      · split <;> rfl
      · split <;> rfl
  · exact .refl s

theorem endTurnQueue_path (s : State) (t : Nat) : Path A s (endTurnQueue s t) := by
  unfold endTurnQueue
  split
  · exact Path.foldl (endTurnRec_path t) _ s
  · exact .refl s

/-! ## Step asks (R92 to R99) -/

theorem ignoreStep_path (s : State) (t : Nat) (item : ItemKind) (n : Nat) (i : StepId) (why : StepIgnored)
    (r : Option Reason) : Path A s (ignoreStep s t item n i why r) := post_path s _

theorem laterChecks_console {s : State} {p : Permit} {x : StepRec} (h : laterChecks s p x = none) :
    checkConsole s x = true := by
  unfold laterChecks at h
  split at h
  · exact absurd h (by simp)
  · split at h
    · exact absurd h (by simp)
    · simpa using ‹¬checkConsole s x = false›

/-- A GRANT placed for a step that needs no dispatcher or while one is there (R92 check 6). -/
theorem placeGrant_path (s : State) {p : Permit} {i : StepId} {x : StepRec} (hp : permitOf s p.num = some p)
    (hx : p.step i = some x) (hconsole : checkConsole s x = true) : Path A s (placeGrant s p i x) := by
  have hgiven : Path A s (give s p.holder (.answer (grantContent p.num i x))) := by
    refine give_path s _ _ fun a ha _ => ?_
    obtain rfl := Content.answer.inj ha
    refine ⟨p, x, hp, rfl, hx, fun hun => ?_⟩
    simpa [checkConsole, hun] using hconsole
  have hanswered := hgiven.trans
    (modStep_path _ p.num i (f := fun y => { y with state := .answered, reason := none }) (fun _ => rfl) (fun _ => rfl) fun _ => rfl)
  unfold placeGrant
  dsimp only
  split
  · exact hanswered
  · exact hanswered.trans (modPoint_path _ _ _ fun _ _ => ⟨rfl, rfl, id, .inl rfl⟩)

theorem refuseAsk_path (s : State) (t n : Nat) (i : StepId) (r : Reason) : Path A s (refuseAsk s t n i r) := by
  have hmine : ∀ b : Bool, Path A s (if b then modStep s n i fun x => { x with reason := some r } else s) := fun _ =>
    ite_path (modStep_path s n i (fun _ => rfl) (fun _ => rfl) fun _ => rfl) (.refl s)
  have hanswered : ∀ u, Path A s u → Path A s
      (if (answerIn u t n).any fun c => c.kind != .refuse then ignoreStep u t .stepAsk n i .answerStanding (some r)
      else if canGive u t (.answer n) then give u t (.answer (refuseContent n i r))
      else ignoreStep u t .stepAsk n i .queueFull (some r)) := fun u hu =>
    ite_path (hu.trans (ignoreStep_path u _ _ _ _ _ _))
      (ite_path (hu.trans (give_path_of_not_grant u t rfl)) (hu.trans (ignoreStep_path u _ _ _ _ _ _)))
  exact hanswered _ (hmine _)

theorem holdAsk_path (s : State) (p : Permit) (i : StepId) (x : StepRec) (hconsole : s.sup.console = .attended) :
    Path A s (holdAsk s p i x) := by
  unfold holdAsk
  split
  · exact refuseAsk_path s _ _ i _
  · rename_i hroom
    split
    · have hkeeps := give_keeps s p.holder (.answer (heldContent p.num i))
      have hsup : (give s p.holder (.answer (heldContent p.num i))).sup = s.sup := hkeeps .sup (by decide)
      have hasks : (give s p.holder (.answer (heldContent p.num i))).asks = s.asks := hkeeps .asks (by decide)
      refine Path.trans ?_ (post_path _ _)
      refine Path.trans ?_ (modStep_path _ p.num i (f := fun y => { y with state := .asked, reason := none })
        (fun _ => rfl) (fun _ => rfl) fun _ => rfl)
      refine (give_path_of_not_grant s p.holder rfl).trans (Move.asks _ (fun _ => ?_) ?_).path
      · simp only [hasks, List.length_append, List.length_singleton]
        omega
      · intro h
        rw [hsup, hconsole] at h
        exact absurd h (by decide)
    · exact ignoreStep_path _ _ _ _ _ _ _

theorem repeatHeld_path (s : State) (p : Permit) (i : StepId) : Path A s (repeatHeld s p i) := by
  unfold repeatHeld
  split
  · exact .refl s
  · exact give_path_of_not_grant s _ rfl

theorem stepAsk_path (s : State) (t n : Nat) (i : StepId) (point action : Nat) : Path A s (stepAsk s t n i point action) := by
  unfold stepAsk
  split
  · exact refuseAsk_path s t n i _
  · rename_i p hp
    obtain rfl := (findBy_some hp).1
    split
    · exact refuseAsk_path s t _ i _
    · rename_i x hx
      have hpending : Path A s (match laterChecks s p x with
          | some r => refuseAsk s t p.num i r
          | none => if x.confirm then holdAsk s p i x else grantAsk s p i x) := by
        split
        · exact refuseAsk_path s t _ i _
        · rename_i hpass
          have hconsole := laterChecks_console hpass
          split
          · rename_i hconfirm
            exact holdAsk_path s p i x (by simpa [checkConsole, hconfirm] using hconsole)
          · unfold grantAsk
            split
            · exact placeGrant_path s hp hx hconsole
            · exact ignoreStep_path _ _ _ _ _ _ _
      iterate 4
        refine ite_path (refuseAsk_path s t _ i _) ?_
      split
      · exact repeatHeld_path s p i
      · exact hpending
      · exact .refl s

/-! ## Step ends (R105 to R108) -/

/-- What a normal end asks of the holds of its point (R89, R105). -/
def Point.placeable (q : Point) (n : Nat) (i : StepId) (x : StepRec) : Bool :=
  if i.list = 1 then true
  else
    let agrees := q.holds.all fun h => h.permit == n || h.position == x.leaves
    match q.holdOf n with
    | some _ => agrees
    | none => !x.hold || (agrees && q.holds.length < 4)

theorem holdPlaceable_of_point {s : State} {q : Point} {x : StepRec} (hq : pointOf s x.point = some q) (n : Nat)
    (i : StepId) : holdPlaceable s n i x = q.placeable n i x := by
  simp only [holdPlaceable, hq]
  rfl

/-- The hold of an isolate step placed or updated where it can be (R89, R106). -/
theorem placeHold_move {q : Point} {n : Nat} {i : StepId} {x : StepRec} (hlist : i.list ≠ 1)
    (h : q.placeable n i x = true) : PointMove A q
      (match q.holdOf n with
       | some _ => { q with holds := q.holds.map fun h => if h.permit = n then { h with position := x.leaves } else h }
       | none => if x.hold then { q with holds := q.holds ++ [{ permit := n, position := x.leaves }] } else q) := by
  unfold Point.placeable at h
  rw [if_neg hlist] at h
  dsimp only at h
  split
  · rename_i h0 hfound
    simp only [hfound, List.all_eq_true, Bool.or_eq_true, beq_iff_eq] at h
    refine ⟨rfl, rfl, fun ⟨hroom, hone, _⟩ => ⟨by simpa using hroom, ?_, x.leaves, fun y hy => ?_⟩, .inl rfl⟩
    · have e : (q.holds.map fun h => if h.permit = n then { h with position := x.leaves } else h).map Hold.permit =
          q.holds.map Hold.permit := by
        rw [List.map_map]
        refine List.map_congr_left fun y _ => ?_
        simp only [Function.comp_apply]
        split <;> rfl
      exact e ▸ hone
    · obtain ⟨z, hz, rfl⟩ := List.mem_map.mp hy
      split
      · rfl
      · exact (h z hz).resolve_left ‹_›
  · rename_i hnone
    split
    · rename_i hflag
      simp only [hnone, hflag, Bool.not_true, Bool.false_or, Bool.and_eq_true, List.all_eq_true, Bool.or_eq_true,
        beq_iff_eq, decide_eq_true_eq] at h
      have hnew : ∀ y ∈ q.holds, y.permit ≠ n := by simpa [Point.holdOf, List.find?_eq_none] using hnone
      refine ⟨rfl, rfl, fun ⟨_, hone, _⟩ => ⟨?_, ?_, x.leaves, fun y hy => ?_⟩, .inl rfl⟩
      · simp only [List.length_append, List.length_singleton]
        omega
      · simp only [List.map_append, List.map_cons, List.map_nil]
        exact nodup_append_new hone fun hm => by
          obtain ⟨y, hy, e⟩ := List.mem_map.mp hm
          exact hnew y hy e
      · obtain hy | hy := List.mem_append.mp hy
        · exact (h.1 y hy).resolve_left (hnew y hy)
        · rw [List.mem_singleton.mp hy]
    · exact .refl q

theorem placeHold_path (s : State) (n : Nat) (i : StepId) (x : StepRec)
    (h : ∀ q, pointOf s x.point = some q → q.placeable n i x = true) : Path A s (placeHold s n i x) := by
  unfold placeHold
  split
  · exact .refl s
  · rename_i hlist
    refine modPoint_path s _ _ (fun q hq => placeHold_move hlist (h q hq)) fun q hq => ?_
    split
    · exact hq
    · split <;> exact hq

theorem setReported_path (s : State) (m n : Nat) (i : StepId) (pos : Position) (clear : Bool) (hA : A (.movePoint m)) :
    Path A s (setReported s m n i pos clear) := by
  have hmoved : Path A s (modPoint s m fun q => { q with position := pos }) :=
    modPoint_path s m _ fun q hq => ⟨rfl, rfl, id, .inr ((findBy_some hq).1.symm ▸ hA)⟩
  unfold setReported
  dsimp only
  split
  · exact hmoved.trans (clearBusy_path _ m n i)
  · exact hmoved

/-- A reported position leaves the holds of every point. -/
theorem pointOf_setReported_holds (s : State) (m n : Nat) (i : StepId) (pos : Position) (clear : Bool) (k : Nat) :
    (pointOf (setReported s m n i pos clear) k).map Point.holds = (pointOf s k).map Point.holds := by
  have hmoved : (pointOf (modPoint s m fun q => { q with position := pos }) k).map Point.holds =
      (pointOf s k).map Point.holds := by
    rw [pointOf_modPoint s m k (fun q => { q with position := pos }) fun _ h => h, Option.map_map]
    congr 1
    funext q
    simp only [Function.comp_apply]
    split <;> rfl
  unfold setReported
  dsimp only
  split
  · unfold clearBusy
    rw [pointOf_modPoint _ m k _ (fun q h => by split_ifs <;> exact h), Option.map_map, ← hmoved]
    congr 1
    funext q
    simp only [Function.comp_apply]
    split_ifs <;> rfl
  · exact hmoved

theorem placeable_of_holds {q q' : Point} (h : q'.holds = q.holds) (n : Nat) (i : StepId) (x : StepRec) :
    q'.placeable n i x = q.placeable n i x := by
  unfold Point.placeable Point.holdOf
  rw [h]

theorem postRevoke_path (s : State) (n : Nat) (i : StepId) (x : StepRec) (pos : Position) (b : Bool) :
    Path A s (postRevoke s n i x pos b) := by
  unfold postRevoke
  split
  · split
    · exact post_path s _
    · exact .refl s
  · exact .refl s

section
variable (s : State) (n : Nat) (i : StepId) (x : StepRec) (pos : Position) (revoked : Bool) (hA : ∀ m, A (.movePoint m))
include hA

theorem normalEnd_path (h : holdPlaceable s n i x = true) : Path A s (normalEnd s n i x pos revoked) := by
  refine Path.trans (Path.trans (Path.trans (Path.trans (Path.trans (Path.trans
    (setReported_path s x.point n i pos (!revoked) (hA _))
    (modStep_path _ n i (f := fun y => { y with state := .done, result := some .normal }) (fun _ => rfl) (fun _ => rfl) fun _ => rfl))
    (placeHold_path _ n i x fun q hq => ?_)) (weigh_path _ _ _)) (post_path _ _)) (postRevoke_path _ n i x pos revoked))
    (afterDone_path _ n)
  have hholds := pointOf_setReported_holds s x.point n i pos (!revoked) x.point
  rw [show pointOf (setReported s x.point n i pos (!revoked)) x.point = some q from hq] at hholds
  cases hs : pointOf s x.point with
  | none =>
    rw [hs] at hholds
    exact absurd hholds (by simp)
  | some q0 =>
    rw [hs] at hholds
    rw [placeable_of_holds (Option.some.inj hholds), ← holdPlaceable_of_point hs]
    exact h

theorem abnormalEnd_path : Path A s (abnormalEnd s n i x pos revoked) :=
  Path.trans (Path.trans (Path.trans (Path.trans (Path.trans (Path.trans
    (setReported_path s x.point n i pos (!revoked) (hA _)) (addCause_path _ n .mismatch (by simp))) (weigh_path _ _ _))
    (modStep_path _ n i (f := fun y => { y with state := .done, result := some .abnormal }) (fun _ => rfl) (fun _ => rfl) fun _ => rfl))
    (post_path _ _)) (postRevoke_path _ n i x pos revoked)) (afterDone_path _ n)

theorem endStep_path : Path A s (endStep s n i x pos revoked) := by
  unfold endStep
  split
  · rename_i h
    exact normalEnd_path s n i x pos revoked hA h.2
  · exact abnormalEnd_path s n i x pos revoked hA

end

theorem withdrawStep_path (s : State) (p : Permit) (i : StepId) (x : StepRec) : Path A s (withdrawStep s p i x) := by
  have hback : Path A s (match x.state with
      | .asked =>
        let s1 := removeAsk s p.num
        match answerIn s p.holder p.num with
        | some c => if c.kind = .held ∧ c.step = i then dropRec s1 p.holder (.answer p.num) else s1
        | none => s1
      | .answered =>
        let s1 :=
          match answerIn s p.holder p.num with
          | some c => if c.kind = .grant ∧ c.step = i then dropRec s p.holder (.answer p.num) else s
          | none => s
        clearBusy s1 x.point p.num i
      | _ => s) := by
    split
    · dsimp only
      split
      · split
        · exact (removeAsk_path s _).trans (dropRec_path _ _ _)
        · exact removeAsk_path s _
      · exact removeAsk_path s _
    · refine Path.trans ?_ (clearBusy_path _ _ _ _)
      split
      · split
        · exact dropRec_path s _ _
        · exact .refl s
      · exact .refl s
    · exact .refl s
  unfold withdrawStep
  dsimp only at hback ⊢
  split
  · exact hback.trans (releaseHold_path _ _ _)
  · exact hback

theorem setPosition_path (s : State) (n : Nat) (x : Position) (hA : A (.movePoint n)) : Path A s (setPosition s n x) :=
  modPoint_path s n _ fun _ hq => ⟨rfl, rfl, id, .inr ((findBy_some hq).1.symm ▸ hA)⟩

theorem doneAfterRevoke_path (s : State) (p : Permit) (i : StepId) (x : StepRec) (pos : Position)
    (hA : ∀ m, A (.movePoint m)) : Path A s (doneAfterRevoke s p i x pos) := by
  unfold doneAfterRevoke
  split
  · exact (withdrawStep_path s p i x).trans (endStep_path _ _ i x pos true hA)
  · split
    · exact ((setPosition_path s _ pos (hA _)).trans (weigh_path _ _ _)).trans (post_path _ _)
    · exact .refl s

theorem stepDone_path (s : State) (t n : Nat) (i : StepId) (code : Nat) (hA : ∀ m, A (.movePoint m)) :
    Path A s (stepDone s t n i code) := by
  unfold stepDone
  split
  · exact ignoreStep_path _ _ _ _ _ _ _
  · split_ifs
    · exact ignoreStep_path _ _ _ _ _ _ _
    · split
      · exact ignoreStep_path _ _ _ _ _ _ _
      · split_ifs
        · exact .refl s
        · exact endStep_path s n i _ _ _ hA
        · exact doneAfterRevoke_path s _ i _ _ hA
        · exact ignoreStep_path _ _ _ _ _ _ _

/-! ## PERMIT_ACCEPT and WORK_DONE (R74, R76) -/

theorem permitAccept_path (s : State) (t n : Nat) : Path A s (permitAccept s t n) := by
  unfold permitAccept
  split
  · exact post_path s _
  · rename_i p hp
    split_ifs
    · exact post_path s _
    · split
      · rename_i hstate
        exact enterIsolating_path s n fun q hq => Option.some.inj (hq.symm.trans hp) ▸ hstate
      · exact post_path s _
      · exact post_path s _
      · exact .refl s

theorem workDone_path (s : State) (t n : Nat) : Path A s (workDone s t n) := by
  unfold workDone
  split
  · exact post_path s _
  · rename_i p hp
    refine ite_path (post_path s _) ?_
    · split
      · rename_i hstate
        have hrestoring : Path A s (enterRestoring s n) :=
          enterRestoring_path s n fun q hq => Option.some.inj (hq.symm.trans hp) ▸ hstate
        refine ite_path (post_path s _) (ite_path ?_ hrestoring)
        · refine hrestoring.trans (enterClosed_path _ n fun q hq => ?_)
          rw [enterRestoring, permitOf_announce_setPermitState, hp] at hq
          obtain rfl := Option.some.inj hq
          simp [PermitState.isOpen]
      · exact .refl s
      · exact .refl s
      · exact post_path s _

end Sys2Proof.Machine

/-!
PROOFS. The operations as paths, part four: the Load Meter, turns and phases, and the frames of the air channel.
-/
namespace Sys2Proof.Machine

variable {A : Right → Prop}

/-! ## The Load Meter (R163 to R168) -/

theorem meter_path (s : State) (m : Load) (h : LoadMove A s.load m) : Path A s { s with load := m } := (Move.meter m h).path

theorem air_path (s : State) (a : Air) (h : A .schedule ∨ A .turn ∧ s.air.PhaseKept a ∨ s.air.SamePhase a) : Path A s { s with air := a } :=
  (Move.air a h).path

/-- A change of the Load Meter but for figure, band, thresholds and sample. -/
theorem LoadMove.ofBusy {m m' : Load} (hlevel : m'.level = m.level) (hband : m'.band = m.band) (hthr : m'.thr = m.thr)
    (hstaged : m'.thrStaged = m.thrStaged) (hsample : m'.sample = m.sample) : LoadMove A m m' :=
  ⟨hlevel, hband, hthr, fun _ hx => .inl (hstaged ▸ hx), .inl hsample⟩

theorem LoadMove.refl (m : Load) : LoadMove A m m := .ofBusy rfl rfl rfl rfl rfl

theorem LoadMove.count {m m' : Load} (h : LoadMove A m m') (x : Span) : LoadMove A m (m'.count x) :=
  ⟨h.level, h.band, h.thr, h.staged, h.sample⟩

theorem LoadMove.settle (m : Load) (t : Nat) : LoadMove A m (m.settle t) := by
  have hfold : ∀ (l : List Span) (m' : Load), LoadMove A m m' → LoadMove A m (l.foldl Load.count m') := by
    intro l
    induction l with
    | nil => exact fun _ h => h
    | cons x l ih => exact fun _ h => ih _ (h.count x)
  exact hfold _ _ (.ofBusy rfl rfl rfl rfl rfl)

theorem LoadMove.uplink (m : Load) (t air : Nat) : LoadMove A m (m.uplink t air) :=
  have h := LoadMove.settle (A := A) m t
  ⟨h.level, h.band, h.thr, h.staged, h.sample⟩

theorem LoadMove.carrierOn (m : Load) (t : Nat) : LoadMove A m (m.carrierOn t) := by
  unfold Load.carrierOn
  split
  · exact .refl m
  · have h := LoadMove.settle (A := A) m t
    exact ⟨h.level, h.band, h.thr, h.staged, h.sample⟩

theorem LoadMove.carrierOff (m : Load) (t : Nat) : LoadMove A m (m.carrierOff t) := by
  unfold Load.carrierOff
  split
  · have h := LoadMove.settle (A := A) m t
    exact ⟨h.level, h.band, h.thr, h.staged, h.sample⟩
  · exact .refl m

theorem LoadMove.afterWarm (m : Load) (t : Nat) (hA : A .clear) : LoadMove A m (m.afterWarm t) :=
  have h := LoadMove.settle (A := A) m t
  ⟨h.level, h.band, h.thr, h.staged, .inr hA⟩

theorem countUplink_path (s : State) (n : Nat) : Path A s (countUplink s n) := meter_path s _ (.uplink _ _ _)

theorem endPeriod_path (s : State) (hA : A .period) : Path A s (endPeriod s) := by
  unfold endPeriod
  dsimp only
  split
  · exact (Move.period hA).path
  · exact (Move.period hA).path.trans (post_path _ _)

/-! ## Turns (R137) -/

theorem Air.SamePhase.phaseKept {a b : Air} (h : a.SamePhase b) : a.PhaseKept b := by
  obtain ⟨hphase, hturn, hstart⟩ := h
  unfold Air.PhaseKept Air.PhaseOk
  rw [hphase, hturn, hstart]
  exact id

/-- A turn in flight leaves the pairing of phase and turn outside WINDOW. -/
theorem Air.PhaseKept.of_turn {a b : Air} (hphase : b.phase = a.phase) (hturn : b.turn.isSome = true)
    (hwindow : a.phase ≠ .window) : a.PhaseKept b := by
  unfold Air.PhaseKept Air.PhaseOk
  rw [hphase]
  exact fun _ => ⟨fun _ => hturn, fun h => absurd h hwindow, fun _ _ => hturn⟩

theorem schedule_path (s : State) (a : Air) (hA : A .schedule) : Path A s { s with air := a } :=
  (Move.air a (.inl hA)).path

theorem handOver_path (s : State) (f : DownFrame) (octets : Nat) : Path A s (handOver s f octets) := by
  have hmeter : Path A s { s with load := (handOver s f octets).load } :=
    meter_path s _ (.ofBusy rfl rfl rfl rfl rfl)
  exact hmeter.trans (air_path _ _ (.inr (.inr ⟨rfl, rfl, rfl⟩)))

theorem reportSent_path (s : State) (l : List (Nat × Content)) : Path A s (reportSent s l) := by
  refine Path.foldl (fun u r => ?_) l s
  split
  · split
    · exact grantSent_path u _
    · exact .refl u
  · exact .refl u

theorem markLeading_path (s : State) (n budget : Nat) :
    Path A s (modTruck s n fun t => { t with queue := markLeading (leading budget t.queue) t.queue, upAcks := [] }) := by
  refine modTruck_path s n _ fun k _ => ?_
  refine ⟨rfl, fun ⟨h1, h2, h3, h4, _, _, h7⟩ => ⟨h1, h2, h3, h4, List.nodup_nil, Nat.zero_le 4, h7⟩,
    fun h => ⟨h.1.markLeading _, h.2⟩, fun h => ?_, .of_subset fun r hr => ?_, id, id, .refl _ _ _, .refl _ _ _, id,
    .inl ⟨rfl, rfl⟩⟩
  · simpa only [markLeading_map_subject] using h
  · obtain ⟨x, hx, hcontent⟩ := mem_markLeading hr
    exact ⟨x, hx, hcontent⟩

theorem beginTurn_path (s : State) (n : Nat) (k : TurnKind) (h : A .schedule ∨ A .turn ∧ s.air.phase ≠ .window) :
    Path A s (beginTurn s n k) := by
  unfold beginTurn
  split
  · rename_i t _
    have hsent := (markLeading_path (A := A) s n s.air.budget).trans (reportSent_path _ (turnRecs t s.air.budget))
    have hover := hsent.trans (handOver_path _ (.poll (routeOf s t) n t.upAcks (turnRecs t s.air.budget))
      (pollOctets (routeOf s t) t.upAcks (turnRecs t s.air.budget)))
    refine hover.trans (air_path _ _ (h.imp id fun ⟨hturn, hwindow⟩ => .inl ⟨hturn, .of_turn rfl rfl ?_⟩))
    rw [show (handOver _ _ _).air.phase = (reportSent _ _).air.phase from rfl, reportSent_keeps _ _ .air (by decide)]
    exact hwindow
  · exact .refl s

/-! ## Phases (R136, R141 to R143) -/

theorem askInGap_path (s : State) (h : A .schedule ∨ A .turn ∧ s.air.phase ≠ .window) : Path A s (askInGap s) := by
  unfold askInGap
  split
  · exact beginTurn_path s _ _ h
  · exact .refl s

theorem askIfIdle_path (s : State) (hT : A .turn) : Path A s (askIfIdle s) := by
  unfold askIfIdle
  split
  · rename_i h
    exact askInGap_path s (.inr ⟨hT, h.1 ▸ by decide⟩)
  · exact .refl s

theorem settleEvent_path (s : State) (hT : A .turn) : Path A s (settleEvent s) := by
  unfold settleEvent
  dsimp only
  split
  · exact (askArb_path s false).trans (askIfIdle_path _ hT)
  · exact askArb_path s false

section
variable (hA : A .schedule)
include hA

theorem enterGap_path (s : State) : Path A s (enterGap s) :=
  (schedule_path s _ hA).trans (askInGap_path _ (.inl hA))

theorem enterWindow_path {past : State → State} (hpast : ∀ u, Path A u (past u)) (s : State) :
    Path A s (enterWindow past s) := by
  unfold enterWindow
  split
  · exact hpast s
  · exact (handOver_path s _ _).trans (schedule_path _ _ hA)

theorem takeEntries_path {past : State → State} (hpast : ∀ u, Path A u (past u)) (l : List ListEntry) (s : State) :
    Path A s (takeEntries past l s) := by
  induction l generalizing s with
  | nil => exact (schedule_path s _ hA).trans (enterWindow_path hA hpast _)
  | cons e l ih =>
    unfold takeEntries
    split
    · exact ih s
    · exact (schedule_path s _ hA).trans (beginTurn_path _ _ _ (.inl hA))

theorem startCycle_path (first : Bool) (s : State) : Path A s (startCycle first s) := by
  have hmeter : Path A s { s with load := s.load.applyStaged } := meter_path s _ (.ofBusy rfl rfl rfl rfl rfl)
  unfold startCycle
  exact (hmeter.trans (schedule_path _ _ hA)).trans (takeEntries_path hA (enterGap_path hA) _ _)

theorem pastWindow_path (s : State) : Path A s (pastWindow s) :=
  ite_path (startCycle_path hA false s) (enterGap_path hA s)

theorem goOnInList_path (s : State) : Path A s (goOnInList s) := by
  unfold goOnInList
  split
  · split
    · exact (schedule_path s _ hA).trans (beginTurn_path _ _ _ (.inl hA))
    · exact takeEntries_path hA (pastWindow_path hA) _ s
  · exact takeEntries_path hA (pastWindow_path hA) _ s

theorem goOn_path (s : State) : Path A s (goOn s) := by
  unfold goOn
  split
  · exact goOnInList_path hA s
  · exact .refl s
  · exact ite_path (startCycle_path hA false s) (askInGap_path s (.inl hA))

theorem reachStart_path (s : State) : Path A s (reachStart s) := by
  unfold reachStart
  split
  · exact ite_path (startCycle_path hA false s) (schedule_path s _ hA)
  · exact schedule_path s _ hA

end

/-! ## Frames (R132, R138 to R146) -/

theorem skipItem_path (s : State) : Path A s (skipItem s) := air_path s _ (.inr (.inr ⟨rfl, rfl, rfl⟩))

theorem rejectFrame_path (s : State) : Path A s (rejectFrame s) := air_path s _ (.inr (.inr ⟨rfl, rfl, rfl⟩))

theorem joinUplink_path (s : State) (n uplink : Nat) : Path A s (joinUplink s n uplink) := by
  refine modTruck_path s n _ (fun k _ => ?_) fun k hk => by split_ifs <;> exact hk
  split
  · exact .ofSlots rfl rfl rfl rfl rfl id id
  · rename_i hnew
    have hnew : uplink ∉ k.upAcks := by simpa using hnew
    split
    · refine .ofSlots rfl rfl rfl rfl rfl (fun ⟨h1, h2, h3, h4, h5, h6, h7⟩ => ⟨h1, h2, h3, h4, ?_, ?_, h7⟩) id
      · exact nodup_append_new h5 hnew
      · simp only [List.length_append, List.length_singleton]
        omega
    · refine .ofSlots rfl rfl rfl rfl rfl (fun ⟨h1, h2, h3, h4, h5, h6, h7⟩ => ⟨h1, h2, h3, h4, ?_, ?_, h7⟩) id
      · exact nodup_append_new (h5.sublist (List.drop_sublist _ _)) fun hm => hnew (List.mem_of_mem_drop hm)
      · simp only [List.length_append, List.length_singleton, List.length_drop]
        omega

/-- What a frame of a truck may do (R145). -/
structure FrameRights (A : Right → Prop) (n : Nat) : Prop where
  watch : A (.watch n)
  recover : A (.recover n)
  points : ∀ m, A (.movePoint m)

section
variable {n : Nat} (hA : FrameRights A n)
include hA

theorem dispatch_path (s : State) (x : Item) : Path A s (dispatch n s x) := by
  have hcontact : ∀ seat item still, Path A s (takeContact s n seat item still) := fun seat item still =>
    takeContact_path s n seat hA.watch item still hA.recover
  cases x with
  | register => exact .refl s
  | checkIn seat => exact hcontact seat _ _
  | motion seat value =>
    simp only [dispatch]
    split
    · exact hcontact seat _ _
    · split
      · exact hcontact seat _ _
      · exact skipItem_path s
  | taskDone seat => exact hcontact seat _ _
  | emergency seat => exact takeEmergency_path s n hA.watch seat
  | orderReply order code =>
    simp only [dispatch]
    split
    · exact orderReply_path s order n _ hA.watch
    · exact skipItem_path s
  | permitAccept permit => exact permitAccept_path s n permit
  | workDone permit => exact workDone_path s n permit
  | stepAsk permit step point action => exact stepAsk_path s n permit step point action
  | stepDone permit step position => exact stepDone_path s n permit step position hA.points
  | other _ _ => exact skipItem_path s

theorem dispatchAll_path (s : State) (items : List Item) : Path A s (dispatchAll n s items) :=
  Path.foldl (dispatch_path hA) items s

end

theorem unknownFrame_path (s : State) (h : Header) (items : List Item) : Path A s (unknownFrame s h items) :=
  ite_path (post_path s _) (.refl s)

theorem takeBurst_path (s : State) (h : Header) (items : List Item) (hA : FrameRights A h.truck) :
    Path A s (takeBurst s h items) := by
  unfold takeBurst
  split
  · exact ((takeHeader_path s _ _).trans (joinUplink_path _ _ _)).trans (dispatchAll_path hA _ items)
  · exact unknownFrame_path s h items

theorem clearTurn_path (s : State) (hA : A .schedule) : Path A s (clearTurn s) := schedule_path s _ hA

theorem replyStages_path (s : State) (h : Header) (acks : List Nat) (items : List Item) (hA : FrameRights A h.truck)
    (hs : A .schedule) : Path A s (replyStages s h acks items) :=
  ((((takeHeader_path s _ _).trans (takeAcks_path _ _ acks)).trans (endTurnQueue_path _ _)).trans
    (clearTurn_path _ hs)).trans ((joinUplink_path _ _ _).trans (dispatchAll_path hA _ items))

theorem takeReply_path (s : State) (h : Header) (acks : List Nat) (items : List Item) (hA : FrameRights A h.truck)
    (hs : A .schedule) : Path A s (takeReply s h acks items) := by
  unfold takeReply
  split
  · exact Path.trans (ite_path (clearTurn_path s hs) (replyStages_path s h acks items hA hs)) (goOn_path hs _)
  · exact takeBurst_path s h items hA

theorem closeWindow_path (s : State) (t : Turn) (hs : A .schedule) : Path A s (closeWindow s t) := by
  unfold closeWindow
  split
  · exact (clearTurn_path s hs).trans (goOn_path hs _)
  · exact ((((endTurnQueue_path s _).trans (clearTurn_path _ hs)).trans (missedTurn_path _ _)).trans
      (schedule_path _ _ hs)).trans (goOn_path hs _)

theorem expireFirst_path (s : State) (h : Header) (hs : A .schedule) (hT : A .turn) :
    Path A s (expireFirst s h) := by
  unfold expireFirst
  split
  · exact ite_path ((closeWindow_path s _ hs).trans (settleEvent_path _ hT)) (.refl s)
  · exact .refl s

end Sys2Proof.Machine

/-!
PROOFS. The site table: what SET_SITE's checks mean, and which changes of the table keep its structure (R149 to R153).
-/
namespace Sys2Proof.Machine

/-! ## What the checks of SET_SITE mean (R151) -/

/-- The values of SET_SITE fit the site table (R151 checks 3 to 7). -/
structure SiteFits (s : State) (n parent : Nat) (r : Nat × Nat) : Prop where
  root : parent = 0 ∨ parent ≠ n ∧ ∃ y, siteOf s parent = some y ∧ y.used = true ∧ y.parent = 0
  flat : parent ≠ 0 → ∀ x ∈ s.sites, x.used = true → x.parent ≠ n
  inner : ∃ o, rangeOf s parent = some o ∧ within r o = true
  outer : ∀ x ∈ s.sites, x.used = true → x.parent = n → ∃ i, x.range = some i ∧ within i r = true
  apart : ∀ x ∈ s.sites, x.used = true → x.num ≠ n → x.parent = parent → ∀ o, x.range = some o → overlap o r = false

theorem parentFits_iff (s : State) (n parent : Nat) : parentFits s n parent = true ↔
    parent = 0 ∨ parent ≠ n ∧ ∃ y, siteOf s parent = some y ∧ y.used = true ∧ y.parent = 0 := by
  unfold parentFits
  cases siteOf s parent <;> simp

theorem siteChecks_none {s : State} {n parent : Nat} {r : Nat × Nat} (h : siteChecks s n parent r = none) :
    SiteFits s n parent r := by
  unfold siteChecks at h
  split_ifs at h with hparent hflat hinner houter hapart
  refine ⟨(parentFits_iff s n parent).mp (by simpa using hparent), fun hp x hx hu he => ?_, ?_, fun x hx hu he => ?_,
    fun x hx hu hne he o ho => ?_⟩
  · refine hflat ⟨hp, ?_⟩
    simp only [hasChildren, List.any_eq_true]
    exact ⟨x, hx, by simp [hu, he]⟩
  · cases ho : rangeOf s parent <;> simp_all
  · simp only [Bool.not_eq_false, List.all_eq_true] at houter
    have := houter x hx
    cases hi : x.range <;> simp_all
  · simp only [Bool.not_eq_true, List.any_eq_false] at hapart
    simpa [hu, hne, he, ho] using hapart x hx

/-! ## Coverage -/

theorem Site.covers_iff (x : Site) (z : Nat) :
    x.covers z = true ↔ x.used = true ∧ ∃ lo hi, x.range = some (lo, hi) ∧ lo ≤ z ∧ z ≤ hi := by
  unfold Site.covers
  cases hr : x.range with
  | none => simp
  | some o => simp [Prod.ext_iff]

theorem Site.covers_of_range {x : Site} {o : Nat × Nat} (hr : x.range = some o) {z : Nat} :
    x.covers z = true ↔ x.used = true ∧ o.1 ≤ z ∧ z ≤ o.2 := by
  simp [Site.covers, hr]

/-! ## Changes that keep the structure -/

/-- The site is as it was but for its state among the used ones, its times and its hop delay. -/
structure Site.SameShape (x y : Site) : Prop where
  num : y.num = x.num
  used : y.used = x.used
  range : y.range = x.range
  parent : y.parent = x.parent

theorem Site.SameShape.refl (x : Site) : x.SameShape x := ⟨rfl, rfl, rfl, rfl⟩

theorem Site.SameShape.covers {x y : Site} (h : x.SameShape y) (z : Nat) : y.covers z = x.covers z := by
  unfold Site.covers
  rw [h.used, h.range]

theorem SitesInv.map {s : State} {f : Site → Site} (h : ∀ x ∈ s.sites, x.SameShape (f x)) (hs : SitesInv s) :
    SitesInv { s with sites := s.sites.map f } := by
  refine ⟨?_, fun y hy hu => ?_, fun y hy hu hp => ?_, fun y hy y' hy' hu hu' hne hp z => ?_⟩
  · rw [← hs.numbers, List.map_map]
    exact List.map_congr_left fun x hx => (h x hx).num
  · obtain ⟨x, hx, rfl⟩ := List.mem_map.mp hy
    rw [(h x hx).range]
    exact hs.range x hx ((h x hx).used ▸ hu)
  · obtain ⟨x, hx, rfl⟩ := List.mem_map.mp hy
    obtain ⟨w, hw, hnum, hused, hroot, hcov⟩ :=
      hs.parent x hx ((h x hx).used ▸ hu) ((h x hx).parent ▸ hp)
    refine ⟨f w, List.mem_map_of_mem hw, ?_, ?_, ?_, fun z hz => ?_⟩
    · rw [(h w hw).num, (h x hx).parent, hnum]
    · rw [(h w hw).used, hused]
    · rw [(h w hw).parent, hroot]
    · rw [(h w hw).covers]
      exact hcov z ((h x hx).covers z ▸ hz)
  · obtain ⟨x, hx, rfl⟩ := List.mem_map.mp hy
    obtain ⟨x', hx', rfl⟩ := List.mem_map.mp hy'
    rw [(h x hx).covers, (h x' hx').covers]
    rw [(h x hx).parent, (h x' hx').parent] at hp
    rw [(h x hx).num, (h x' hx').num] at hne
    exact hs.siblings x hx x' hx' ((h x hx).used ▸ hu) ((h x' hx').used ▸ hu') hne hp z

theorem SitesInv.modSite {s : State} {n : Nat} {f : Site → Site} (h : ∀ x ∈ s.sites, x.num = n → x.SameShape (f x))
    (hs : SitesInv s) : SitesInv (modSite s n f) := by
  refine SitesInv.map (fun x hx => ?_) hs
  split
  · exact h x hx ‹_›
  · exact .refl x

theorem SitesInv.nodup {s : State} (hs : SitesInv s) : (s.sites.map Site.num).Nodup := by
  rw [hs.numbers]
  decide

theorem SitesInv.siteOf_of_mem {s : State} (hs : SitesInv s) {x : Site} (hx : x ∈ s.sites) : siteOf s x.num = some x :=
  findBy_of_mem hs.nodup hx

/-- A site given values that fit keeps the structure (R151, R152). -/
theorem SitesInv.configured {s : State} {n parent lo hi : Nat} {f : Site → Site} (hs : SitesInv s)
    (hf : ∀ x ∈ s.sites, x.num = n →
      (f x).num = n ∧ (f x).used = true ∧ (f x).parent = parent ∧ (f x).range = some (lo, hi))
    (hlo : 1 ≤ lo) (hle : lo ≤ hi) (hhi : hi ≤ 250) (hfits : SiteFits s n parent (lo, hi)) :
    SitesInv (Machine.modSite s n f) := by
  have hmem : ∀ y ∈ (Machine.modSite s n f).sites,
      (∃ x ∈ s.sites, x.num = n ∧ y = f x) ∨ (y ∈ s.sites ∧ y.num ≠ n) := by
    intro y hy
    obtain ⟨x, hx, rfl⟩ := List.mem_map.mp hy
    by_cases hn : x.num = n
    · exact .inl ⟨x, hx, hn, if_pos hn⟩
    · rw [if_neg hn]
      exact .inr ⟨hx, hn⟩
  have hold : ∀ y ∈ s.sites, y.num ≠ n → y ∈ (Machine.modSite s n f).sites := fun y hy hn =>
    List.mem_map.mpr ⟨y, hy, by simp [hn]⟩
  have hnew : ∀ x ∈ s.sites, x.num = n → f x ∈ (Machine.modSite s n f).sites := fun x hx hn =>
    List.mem_map.mpr ⟨x, hx, by simp [hn]⟩
  have hcovers : ∀ x ∈ s.sites, x.num = n → ∀ z, (f x).covers z = true ↔ lo ≤ z ∧ z ≤ hi := fun x hx hn z => by
    obtain ⟨-, hu, -, hr⟩ := hf x hx hn
    simp [Site.covers_of_range hr, hu]
  refine ⟨?_, fun y hy hu => ?_, fun y hy hu hp => ?_, fun y hy y' hy' hu hu' hne hpar z hz => ?_⟩
  · exact (changeBy_keys n s.sites fun x hx hn => (hf x hx hn).1).trans hs.numbers
  · obtain ⟨x, hx, hn, rfl⟩ | ⟨hy, -⟩ := hmem y hy
    · exact ⟨lo, hi, (hf x hx hn).2.2.2, hlo, hle, hhi⟩
    · exact hs.range y hy hu
  · obtain ⟨x, hx, hn, rfl⟩ | ⟨hy, hyn⟩ := hmem y hy
    · rw [(hf x hx hn).2.2.1] at hp ⊢
      obtain ⟨hpn, w, hw, hused, hroot⟩ := hfits.root.resolve_left hp
      obtain ⟨hwnum, hwmem⟩ := findBy_some hw
      refine ⟨w, hold w hwmem (hwnum ▸ hpn), hwnum, hused, hroot, fun z hz => ?_⟩
      obtain ⟨o, ho, hin⟩ := hfits.inner
      have hrange : w.range = some o := by simpa [rangeOf, hp, hw, hused] using ho
      simp only [within, Bool.and_eq_true, decide_eq_true_eq] at hin
      have := (hcovers x hx hn z).mp hz
      exact (Site.covers_of_range hrange).mpr ⟨hused, by omega, by omega⟩
    · obtain ⟨w, hw, hwnum, hused, hroot, hcov⟩ := hs.parent y hy hu hp
      by_cases hwn : w.num = n
      · have hchild : y.parent = n := hwnum.symm.trans hwn
        have hzero : parent = 0 := by
          by_contra hne
          exact hfits.flat hne y hy hu hchild
        refine ⟨f w, hnew w hw hwn, (hf w hw hwn).1.trans hchild.symm, (hf w hw hwn).2.1,
          (hf w hw hwn).2.2.1.trans hzero, fun z hz => ?_⟩
        obtain ⟨i, hi', hin⟩ := hfits.outer y hy hu hchild
        simp only [within, Bool.and_eq_true, decide_eq_true_eq] at hin
        have := (Site.covers_of_range hi').mp hz
        exact (hcovers w hw hwn z).mpr ⟨by omega, by omega⟩
      · exact ⟨w, hold w hw hwn, hwnum, hused, hroot, hcov⟩
  · have hdisjoint : ∀ x ∈ s.sites, x.num = n → ∀ v ∈ s.sites, v.num ≠ n → v.used = true → v.parent = parent →
        (f x).covers z = true → v.covers z = true → False := fun x hx hn v hv hvn hvu hvp hz hz' => by
      obtain ⟨a, b, hr, ha, hb⟩ := ((Site.covers_iff v z).mp hz').2
      have hover := hfits.apart v hv hvu hvn hvp (a, b) hr
      have := (hcovers x hx hn z).mp hz
      simp only [overlap, Bool.and_eq_false_iff, decide_eq_false_iff_not] at hover
      omega
    obtain ⟨x, hx, hn, rfl⟩ | ⟨hy, hyn⟩ := hmem y hy <;> obtain ⟨x', hx', hn', rfl⟩ | ⟨hy', hyn'⟩ := hmem y' hy'
    · exact hne ((hf x hx hn).1.trans (hf x' hx' hn').1.symm)
    · exact hdisjoint x hx hn y' hy' hyn' hu' (hpar.symm.trans (hf x hx hn).2.2.1) hz.1 hz.2
    · exact hdisjoint x' hx' hn' y hy hyn hu (hpar.trans (hf x' hx' hn').2.2.1) hz.2 hz.1
    · exact hs.siblings y hy y' hy' hu hu' hne hpar z hz

/-- A site without children that leaves use keeps the structure (R153). -/
theorem SitesInv.cleared {s : State} {n : Nat} {f : Site → Site} (hs : SitesInv s)
    (hf : ∀ x ∈ s.sites, x.num = n → (f x).num = n ∧ (f x).used = false)
    (hchildren : hasChildren s n = false) : SitesInv (Machine.modSite s n f) := by
  have hmem : ∀ y ∈ (Machine.modSite s n f).sites, y.used = true → y ∈ s.sites ∧ y.num ≠ n := by
    intro y hy hu
    obtain ⟨x, hx, rfl⟩ := List.mem_map.mp hy
    by_cases hn : x.num = n
    · simp [hn, (hf x hx hn).2] at hu
    · rw [if_neg hn]
      exact ⟨hx, hn⟩
  have hfree : ∀ y ∈ s.sites, y.used = true → y.parent ≠ n := by
    intro y hy hu he
    simp only [hasChildren, List.any_eq_false] at hchildren
    exact hchildren y hy (by simp [hu, he])
  refine ⟨?_, fun y hy hu => ?_, fun y hy hu hp => ?_, fun y hy y' hy' hu hu' hne hpar z => ?_⟩
  · exact (changeBy_keys n s.sites fun x hx hn => (hf x hx hn).1).trans hs.numbers
  · exact hs.range y (hmem y hy hu).1 hu
  · obtain ⟨w, hw, hwnum, hrest⟩ := hs.parent y (hmem y hy hu).1 hu hp
    refine ⟨w, List.mem_map.mpr ⟨w, hw, ?_⟩, hwnum, hrest⟩
    rw [if_neg fun e => hfree y (hmem y hy hu).1 hu (hwnum.symm.trans e)]
  · exact hs.siblings y (hmem y hy hu).1 y' (hmem y' hy' hu').1 hu hu' hne hpar z

end Sys2Proof.Machine

/-!
PROOFS. The operations as paths, part five: sites, timers, the console link and the resets.
-/
namespace Sys2Proof.Machine

variable {A : Right → Prop}

theorem sites_path (s : State) (l : List Site) (h : SitesInv s → SitesInv { s with sites := l }) :
    Path A s { s with sites := l } := (Move.sites l h).path

theorem sup_path (s : State) (x : Sup) (h : x.console = s.sup.console) : Path A s { s with sup := x } :=
  (Move.sup x h).path

theorem portMove_path (s : State) (p : Port) (hbuffer : s.port.buffer.length ≤ 4 → p.buffer.length ≤ 4)
    (hnotices : s.port.notices.length ≤ 64 → p.notices.length ≤ 64)
    (hkept : p.buffer = s.port.buffer ∨ A .buffer := by exact .inl rfl) : Path A s { s with port := p } :=
  (Move.port p hbuffer hnotices hkept).path

/-! ## Sites (R151 to R158) -/

theorem modSite_path (s : State) (n : Nat) {f : Site → Site} (h : ∀ x ∈ s.sites, x.num = n → x.SameShape (f x)) :
    Path A s (modSite s n f) := sites_path s _ fun hs => hs.modSite h

/-- The used site with a number stays in the shape it has while its state moves among UP and DOWN. -/
theorem setSiteState_path (s : State) (n : Nat) {st : SiteState} (hst : st ≠ .unused)
    (hused : SitesInv s → ∀ x ∈ s.sites, x.num = n → x.used = true) : Path A s (setSiteState s n st) := by
  unfold setSiteState
  split
  · dsimp only
    refine Path.trans ?_ (post_path _ _)
    refine Path.trans ?_ (askArb_path (modSite s n fun x => { x with state := st }) true)
    refine sites_path s _ fun hs => hs.modSite fun x hx hn => ⟨rfl, ?_, rfl, rfl⟩
    rw [hused hs x hx hn]
    simpa [Site.used] using hst
  · exact .refl s

/-- In a table of distinct numbers every site with a number is the one found under it. -/
theorem SitesInv.eq_of_num {s : State} (hs : SitesInv s) {n : Nat} {x y : Site} (hx : siteOf s n = some x)
    (hy : y ∈ s.sites) (hn : y.num = n) : y = x :=
  Option.some.inj ((hs.siteOf_of_mem hy).symm.trans ((congrArg (siteOf s) hn).trans hx))

theorem forced_path (a : State) (s : State) (l : List Nat) (b : State) : Path A s (eachOf (fun s n =>
    match truckOf a n with
    | some t =>
      let old := passesDown a (routeOf a t)
      let new := passesDown b (routeOf b t)
      if routeOf a t = routeOf b t then s
      else if new && !old then routeDown s n
      else if old && !new then routeRestored s n
      else s
    | none => s) l s) := by
  refine Path.foldl (fun u n => ?_) l s
  split
  · exact ite_path (.refl u) (ite_path (routeDown_path u n) (ite_path (routeRestored_path u n) (.refl u)))
  · exact .refl u

theorem forceRouteChanges_path (a b : State) : Path A b (forceRouteChanges a b) := forced_path a b _ b

theorem siteGoesDown_path (s : State) (n : Nat) (hused : SitesInv s → ∀ x ∈ s.sites, x.num = n → x.used = true) :
    Path A s (siteGoesDown s n) :=
  ((setSiteState_path s n (by decide) hused).trans (Path.foldl routeDown_path _ _)).trans (evalAllSites_path _)

theorem siteReturns_path (s : State) (n : Nat) (hused : SitesInv s → ∀ x ∈ s.sites, x.num = n → x.used = true) :
    Path A s (siteReturns s n) :=
  ((setSiteState_path s n (by decide) hused).trans (Path.foldl routeRestored_path _ _)).trans (evalAllSites_path _)

theorem used_of_timedOut {now : Nat} {x : Site} (h : x.timedOut now = true) : x.used = true := by
  unfold Site.timedOut at h
  simp only [Bool.and_eq_true, beq_iff_eq] at h
  simp [Site.used, h.1]

theorem timedOut_path (s : State) (n : Nat) {x : Site} (hx : siteOf s n = some x) (h : x.timedOut s.now = true) :
    Path A s (siteGoesDown s n) :=
  siteGoesDown_path s n fun hs y hy hn => by
    rw [hs.eq_of_num hx hy hn]
    exact used_of_timedOut h

theorem expireSite_path (s : State) (n : Nat) : Path A s (expireSite s n) := by
  unfold expireSite
  split
  · split
    · exact timedOut_path s n ‹_› ‹_›
    · exact .refl s
  · exact .refl s

theorem takeBeacon_path (s : State) (n : Nat) : Path A s (takeBeacon s n) := by
  unfold takeBeacon
  split
  · rename_i x hx
    have hheard : Path A s (modSite s n fun x => { x with lastBeacon := some s.now }) :=
      modSite_path s n fun _ _ _ => ⟨rfl, rfl, rfl, rfl⟩
    split
    · rename_i hused
      refine ite_path (hheard.trans (siteReturns_path _ n fun hs y hy hn => ?_)) hheard
      have hfound : siteOf (modSite s n fun x => { x with lastBeacon := some s.now }) n =
          some { x with lastBeacon := some s.now } := by
        rw [siteOf_modSite s n n (fun x => { x with lastBeacon := some s.now }) fun _ h => h, hx]
        simp
      rw [hs.eq_of_num hfound hy hn]
      exact hused
    · exact .refl s
  · exact .refl s

/-- A site changed and then set to a state: one change of the table, and its notice. -/
theorem setSiteState_modSite (s : State) (n : Nat) {f : Site → Site} (hf : ∀ x, x.num = n → (f x).num = n) (st : SiteState) :
    setSiteState (modSite s n f) n st =
      match siteOf s n with
      | some x => post { modSite s n (fun x => { f x with state := st }) with askArb := true }
          (.siteState n (f x).state st (stampOpt s (f x).lastBeacon))
      | none => modSite s n f := by
  have hcompose : modSite (modSite s n f) n (fun x => { x with state := st }) = modSite s n fun x => { f x with state := st } := by
    unfold modSite
    rw [changeBy_changeBy hf]
  unfold setSiteState
  rw [siteOf_modSite s n n f hf]
  cases siteOf s n with
  | none => rfl
  | some x =>
    simp only [Option.map_some, if_true, hcompose]
    rfl

/-- A site changed and set to a state in one. -/
theorem modSetSite_path (s : State) (n : Nat) {f : Site → Site} (hf : ∀ x, x.num = n → (f x).num = n) (st : SiteState)
    (hsome : (siteOf s n).isSome = true)
    (h : SitesInv s → SitesInv (modSite s n fun x => { f x with state := st })) :
    Path A s (setSiteState (modSite s n f) n st) := by
  rw [setSiteState_modSite s n hf]
  split
  · exact ((sites_path s _ h).trans (askArb_path _ true)).trans (post_path _ _)
  · simp_all

theorem applySite_path (s : State) {x : Site} {g : SiteGiven} (hx : siteOf s g.num = some x) (hlo : 1 ≤ g.lo)
    (hle : g.lo ≤ g.hi) (hhi : g.hi ≤ 250) (hchecks : siteChecks s g.num g.parent (g.lo, g.hi) = none)
    (hT : A .turn) : Path A s (applySite s x g) := by
  have hfits := siteChecks_none hchecks
  have hset : Path A s (if x.used then modSite s g.num (Site.configured s.now g)
      else setSiteState (modSite s g.num (Site.configured s.now g)) g.num .up) := by
    split
    · rename_i hused
      refine sites_path s _ fun hs => hs.configured (fun y hy hn => ⟨hn, ?_, rfl, rfl⟩) hlo hle hhi hfits
      rw [hs.eq_of_num hx hy hn]
      exact hused
    · refine modSetSite_path s g.num (f := Site.configured s.now g) (fun _ h => h) .up (by simp [hx]) fun hs => ?_
      exact hs.configured (fun y _ hn => ⟨hn, rfl, rfl, rfl⟩) hlo hle hhi hfits
  unfold applySite
  dsimp only
  generalize (if x.used then modSite s g.num (Site.configured s.now g)
    else setSiteState (modSite s g.num (Site.configured s.now g)) g.num .up) = b at hset ⊢
  have hforced := hset.trans (forceRouteChanges_path s b)
  have hevaluated : Path A s (if (forceRouteChanges s b).policy = .affected then evalAllSites (forceRouteChanges s b)
      else forceRouteChanges s b) := ite_path (hforced.trans (evalAllSites_path _)) hforced
  exact (hevaluated.trans (askIfIdle_path _ hT)).trans (expireSite_path _ _)

theorem applyClear_path (s : State) (n : Nat) {x : Site} (hx : siteOf s n = some x) (h : hasChildren s n = false)
    (hT : A .turn) : Path A s (applyClear s n) := by
  refine Path.trans (Path.trans (Path.trans ?_ (forceRouteChanges_path s _)) (evalAllSites_path _)) (askIfIdle_path _ hT)
  exact modSetSite_path s n (f := fun x => { x with range := none, lastBeacon := none }) (fun _ h => h) .unused (by simp [hx])
    fun hs => hs.cleared (fun _ _ hn => ⟨hn, rfl⟩) h

/-! ## The console link (R177 to R184) -/

theorem dropOverdue_path (s : State) : Path A s (dropOverdue s) :=
  ite_path (portMove_path s _ id id) (.refl s)

theorem afterReply_buffer (b : Bool) (e : Entry) (p : Port) : (p.afterReply b e).buffer = p.buffer.drop 1 := by
  unfold Port.afterReply
  dsimp only
  split_ifs <;> rfl

theorem afterReply_notices (b : Bool) (e : Entry) (p : Port) : (p.afterReply b e).notices = p.notices := by
  unfold Port.afterReply
  dsimp only
  split_ifs <;> rfl

theorem replyGone_path (b : Bool) (s : State) (hB : A .buffer) : Path A s (replyGone b s) := by
  unfold replyGone
  split
  · refine Path.trans (portMove_path s _ (fun h => ?_) (fun h => ?_) (.inr hB)) (kick_path _)
    · rw [afterReply_buffer, List.length_drop]
      omega
    · rw [afterReply_notices]
      exact h
  · exact .refl s

theorem noticeGone_path (s : State) : Path A s (noticeGone s) := by
  unfold noticeGone
  split
  · exact (portMove_path s { s.port with ctx := none } id id).trans (kick_path _)
  · exact .refl s

/-! ## The lapse (R174, R175) -/

theorem leave_path (s : State) (hA : A .leave) : Path A s { s with sup := { s.sup with console := .unattended } } :=
  (Move.leave hA).path

theorem answerAll_path (s : State) : Path A s (answerAll s) := Path.foldl (fun u n => refusePending_path u n _) _ s

theorem becomeUnattended_path (s : State) (hA : A .leave) : Path A s (becomeUnattended s) :=
  ((((leave_path s hA).trans (answerAll_path _)).trans (Path.foldl (fun u n => supersede_path u n _) _ _)).trans
    (assistAll_path _)).trans (post_path _ _)

theorem takeLapse_path (s : State) (hA : A .leave) : Path A s (takeLapse s) := by
  have hgone : Path A s { s with sup := { s.sup with lapse := none } } := sup_path s _ rfl
  unfold takeLapse
  dsimp only
  split
  · exact hgone
  · exact hgone.trans (setLapsed_path _)
  · refine hgone.trans ((setLapsed_path _).trans (ite_path (becomeUnattended_path _ hA) (.refl _)))

/-! ## Timers (R25, R46, R54, R100, R124, R156) -/

theorem expireAsk_path (s : State) (a : Ask) : Path A s (expireAsk s a) := (refusePending_path s _ _).trans (post_path _ _)

/-! ## The resets (R184) -/

theorem afterWarm_sameShape (now : Nat) (x : Site) : x.SameShape (x.afterWarm now) := by
  unfold Site.afterWarm
  split
  · exact ⟨rfl, rfl, rfl, rfl⟩
  · exact .refl x

theorem warm_path (s : State) (hclear : A .clear) (hschedule : A .schedule) (hB : A .buffer) : Path A s (warm s) := by
  have hcleared : Path A s { s with
      trucks := [], orders := [], permits := [], points := [], asks := []
      sup := { s.sup with console := .unattended } } := (Move.clear hclear).path
  have hsites := hcleared.trans (sites_path _ (s.sites.map (Site.afterWarm s.now)) fun hs =>
    SitesInv.map (fun x _ => afterWarm_sameShape s.now x) hs)
  have hsup := hsites.trans (sup_path _ (s.sup.afterWarm s.now) rfl)
  have hport := hsup.trans (portMove_path _ s.port.afterWarm (fun _ => Nat.zero_le 4) (fun _ => Nat.zero_le 64)
    (.inr hB))
  have hload := hport.trans (meter_path _ (s.load.afterWarm s.nowMs) (.afterWarm _ _ hclear))
  have hair := hload.trans (schedule_path _ s.air.afterWarm hschedule)
  exact hair.trans (startCycle_path hschedule true _)

theorem holdReset_path (s : State) : Path A s (holdReset s) := by
  have hheld : Path A s { s with held := true } := Keeps.path (l := [.held]) (by
    intro f hf
    cases f <;> first | rfl | simp at hf)
  exact hheld.trans (portMove_path _ _ id id)

end Sys2Proof.Machine

/-!
PROOFS. The operations as paths, part six: what each console request does besides its reply.
-/
namespace Sys2Proof.Machine

variable {A : Right → Prop}

/-- A request's owner leaves a state on a path from the one it is given. -/
def Walks (A : Right → Prop) (f : State → Served) : Prop := ∀ s, Path A s (f s).1

theorem walks_of_unchanged {f : State → Served} (h : ∀ s, (f s).1 = s) : Walks A f := fun s => by
  rw [h s]
  exact .refl s

/-! ## The Crew Register (R2, R14) -/

theorem enrollTruck_walks (truck : Nat) (hA : A .enroll) : Walks A (enrollTruck truck) := fun s => by
  unfold enrollTruck
  dsimp only
  split_ifs with hdup hfull
  · exact .refl s
  · exact .refl s
  all_goals
    obtain ⟨hlo, hhi⟩ := clamp_bounds (lo := 1) (hi := 999) (by decide) truck
    refine (Move.enroll _ hA hlo hhi ?_ (by omega)).path
    simpa using hdup

theorem Air.PhaseKept.of_turn_map {a b : Air} (hphase : b.phase = a.phase) {f : Turn → Turn} (hturn : b.turn = a.turn.map f)
    (hstart : b.startReached = a.startReached) : a.PhaseKept b := by
  unfold Air.PhaseKept Air.PhaseOk
  rw [hphase, hturn, hstart]
  simp

theorem truckGone_path (s : State) (n : Nat) (hT : A .turn) : Path A s (truckGone s n) :=
  air_path s _ (.inr (.inl ⟨hT, .of_turn_map rfl rfl rfl⟩))

theorem removeTruck_walks (truck : Nat) (hA : A .remove) (hT : A .turn) : Walks A (removeTruck truck) := fun s => by
  unfold removeTruck
  split
  · exact .refl s
  · rename_i t _
    split_ifs
    · exact .refl s
    · exact .refl s
    · exact ((Move.remove t.num hA).path.trans (truckGone_path _ _ hT)).trans (Path.foldl (orderLosesTruck_path _) _ _)

/-! ## The Order Manager (R19, R21, R32 to R35) -/

theorem mem_dropRepeats {l : List Nat} {n : Nat} : n ∈ dropRepeats l ↔ n ∈ l := by
  induction l with
  | nil => simp [dropRepeats]
  | cons m l ih =>
    simp only [dropRepeats, List.mem_cons, List.mem_filter, ih, decide_eq_true_eq]
    tauto

theorem dropRepeats_nodup (l : List Nat) : (dropRepeats l).Nodup := by
  induction l with
  | nil => exact List.nodup_nil
  | cons m l ih => exact List.nodup_cons.mpr ⟨by simp, ih.filter _⟩

theorem candidatesOf_nodup (l : List Nat) : (candidatesOf l).Nodup := (dropRepeats_nodup _).sublist (List.take_sublist _ _)

theorem candidatesOf_length (l : List Nat) : (candidatesOf l).length ≤ 4 := by
  simp [candidatesOf]

theorem postOrder_walks (order prio : Nat) (loc desc : Text) (cands : List Nat) (profile : Option ProfileIn) :
    Walks A (postOrder order prio loc desc cands profile) := fun s => by
  unfold postOrder
  split
  · exact .refl s
  · rename_i o ho
    split_ifs with hdup hfull
    · exact .refl s
    · exact .refl s
    · have htried : o.TriedOk := by
        obtain ⟨_, -, rfl⟩ := Option.map_eq_some_iff.mp ho
        exact ⟨candidatesOf_nodup cands, candidatesOf_length cands, List.nodup_nil, by simp⟩
      exact ((Move.postOrder o (by simpa using hdup) (by omega) htried).path.trans (postOrderState_path _ _)).trans
        (rollover_path _ _)

theorem assignOrder_walks (order truck : Nat) : Walks A (assignOrder order truck) := fun s => by
  unfold assignOrder
  split
  · exact .refl s
  · split_ifs
    · exact .refl s
    · split
      · exact .refl s
      · split_ifs
        · exact .refl s
        · exact .refl s
        · exact .refl s
        · exact makeOffer_path s order truck

theorem withCands_tried {o : Order} {l : Option (List Nat)} (hl : ∀ x, l = some x → x.Nodup ∧ x.length ≤ 4)
    (ho : o.TriedOk) : (o.withCands l).TriedOk := by
  cases l with
  | none => exact ho
  | some l =>
    obtain ⟨hnodup, hlen⟩ := hl l rfl
    unfold Order.withCands Order.TriedOk
    cases o.assigned with
    | none => exact ⟨hnodup, hlen, List.nodup_nil, by simp⟩
    | some t =>
      refine ⟨hnodup, hlen, ?_, ?_⟩
      · dsimp only
        split <;> simp
      · dsimp only
        split
        · simp_all
        · simp

theorem Order.withCands_num (o : Order) (l : Option (List Nat)) : (o.withCands l).num = o.num := by
  cases l <;> rfl

theorem change_move (o : Order) {c : OrderChange} (hc : ∀ l, c.cands = some l → l.Nodup ∧ l.length ≤ 4) :
    OrderMove o (o.change c) :=
  ⟨Order.withCands_num o c.cands, fun ho => withCands_tried hc ho⟩

theorem placeChanged_path (s : State) (o : Order) : Path A s (placeChanged s o) := by
  unfold placeChanged
  split
  · exact .refl s
  · split
    · exact giveOrder_path s _ _ _ _
    · exact giveOrder_path s _ _ _ _

theorem applyChange_path (s : State) (o : Order) {c : OrderChange} (hc : ∀ l, c.cands = some l → l.Nodup ∧ l.length ≤ 4) :
    Path A s (applyChange s o c) := by
  have hchanged : Path A s (modOrder s o.num fun o => o.change c) :=
    modOrder_path s o.num _ (fun p _ => change_move p hc) fun p hp => (Order.withCands_num p c.cands).trans hp
  have hplaced := hchanged.trans (ite_path (p := (c.record && o.state != .queued) = true) (placeChanged_path _ o) (.refl _))
  exact hplaced.trans (ite_path (rollover_path _ _) (.refl _))

theorem changeOf_cands {prio : Option Nat} {loc desc : Option Text} {cands : Option (List Nat)} {profile : Option ProfileIn}
    {remove : Bool} {c : OrderChange} (h : changeOf prio loc desc cands profile remove = some c) :
    c.cands = cands.map candidatesOf := by
  unfold changeOf at h
  split at h
  · exact absurd h (by simp)
  · obtain ⟨_, -, rfl⟩ := Option.map_eq_some_iff.mp h
    rfl

theorem changeOrder_walks (order : Nat) (prio : Option Nat) (loc desc : Option Text) (cands : Option (List Nat))
    (profile : Option ProfileIn) (remove : Bool) : Walks A (changeOrder order prio loc desc cands profile remove) := fun s => by
  unfold changeOrder
  split
  · exact .refl s
  · rename_i c hc
    split
    · exact .refl s
    · split_ifs
      · exact .refl s
      · refine applyChange_path s _ fun l hl => ?_
        obtain ⟨x, -, rfl⟩ := Option.map_eq_some_iff.mp ((changeOf_cands hc).symm.trans hl)
        exact ⟨candidatesOf_nodup x, candidatesOf_length x⟩

theorem tellCancelled_path (s : State) (o : Order) (t : Nat) : Path A s (tellCancelled s o t) :=
  ite_path ((dropRec_path s t _).trans (freeOrderSlot_path _ t _))
    (ite_path (giveOrder_path s t _ _ _) (freeOrderSlot_path s t _))

theorem applyCancel_path (s : State) (o : Order) (hA : ∀ n, A (.watch n)) : Path A s (applyCancel s o) := by
  have hended : Path A s (postOrderState (modOrder s o.num fun o => { o with state := .cancelled, offerExpiry := none }) o.num) :=
    (modOrder_path s o.num (fun o => { o with state := .cancelled, offerExpiry := none })
      (fun _ _ => .ofLists rfl rfl rfl) fun _ h => h).trans (postOrderState_path _ _)
  unfold applyCancel
  dsimp only
  split
  · exact hended
  · exact (hended.trans (tellCancelled_path _ o _)).trans (stopForOrder_path _ _ _ (hA _))

theorem cancelOrder_walks (order : Nat) (hA : ∀ n, A (.watch n)) : Walks A (cancelOrder order) := fun s => by
  unfold cancelOrder
  split
  · exact .refl s
  · split_ifs
    · exact .refl s
    · exact .refl s
    · exact applyCancel_path s _ hA

/-- A change of a permit's head that leaves what its rules speak of. -/
theorem PermitMove.ofHead {p p' : Permit} (hnum : p'.num = p.num) (hholder : p'.holder = p.holder) (hiso : p'.iso = p.iso)
    (hrest : p'.rest = p.rest) (hstate : p'.state = p.state) (hcauses : p'.causes = p.causes) : PermitMove A p p' := by
  refine ⟨hnum, hholder, ?_, fun i x hx => ⟨x, ?_, rfl, rfl⟩, ?_, by rw [hstate], fun _ => hstate, .inr fun _ => ?_⟩
  · unfold Permit.points Permit.steps
    rw [hiso, hrest]
  · unfold Permit.step at hx ⊢
    rw [hiso, hrest]
    exact hx
  · unfold Permit.CausesOk
    rw [hstate, hcauses]
    exact id
  · rw [hcauses]
    exact .refl _

theorem forgetOrder_path (n : Nat) (s : State) (t : Nat) : Path A s (forgetOrder n s t) :=
  ite_path ((dropRec_path s t _).trans (freeOrderSlot_path _ t n)) (.refl s)

theorem retireOrder_walks (order : Nat) : Walks A (retireOrder order) := fun s => by
  unfold retireOrder
  split
  · exact .refl s
  · rename_i o _
    split_ifs
    · exact .refl s
    · have hforgot : Path A s (eachOf (forgetOrder o.num) (truckNums s) s) := Path.foldl (forgetOrder_path o.num) _ s
      have hlinked : Path A s
          (match o.linked with
           | some p => modPermit (eachOf (forgetOrder o.num) (truckNums s) s) p fun p => { p with linked := none }
           | none => eachOf (forgetOrder o.num) (truckNums s) s) := by
        split
        · exact hforgot.trans (modPermit_path _ _ _ (fun _ _ => .ofHead rfl rfl rfl rfl rfl rfl) fun _ h => h)
        · exact hforgot
      exact hlinked.trans (Move.retireOrder o.num).path

/-! ## The Watch Unit (R41 to R44, R58, R59) -/

theorem seatIndex_seatOf (seat : Nat) : seatIndex (seatOf seat) = seatOf seat := by
  obtain ⟨h1, h2⟩ := clamp_bounds (lo := 1) (hi := 2) (by decide) seat
  unfold seatIndex seatOf at *
  split <;> omega

theorem setWatch_walks (truck seat : Nat) (set : SettingsIn) (hA : A (.watch truck)) : Walks A (setWatch truck seat set) :=
  fun s => by
  unfold setWatch
  split
  · exact .refl s
  · rename_i st _
    split
    · exact .refl s
    · refine modWatch_path s truck (seatOf seat) (fun w => w.give st) hA fun w _ => ⟨fun hfits => ?_, .of_state_set (fun h => ?_) fun h => ?_⟩
      · unfold Watch.give
        split
        · rename_i hidle
          exact not_deadlineFits_of_idle (by simp [hidle])
        · exact hfits
      · simp [Watch.give, h]
      · simp [Watch.give, h]

theorem startWatch_walks (truck seat : Nat) (hA : A (.watch truck)) : Walks A (startWatch truck seat) := fun s => by
  unfold startWatch
  split
  · exact .refl s
  · rename_i w hw
    split_ifs with hidle
    · exact .refl s
    · refine startContext_path s truck _ none .start hA fun v hv => ?_
      rw [← Option.some.inj (hw.symm.trans hv), not_not.mp hidle]
      decide

theorem stopWatch_walks (truck seat : Nat) (hA : A (.watch truck)) : Walks A (stopWatch truck seat) := fun s => by
  unfold stopWatch
  split
  · exact .refl s
  · rename_i w hw
    split_ifs with hrunning
    · refine stopContext_path s truck _ .stop hA fun v hv => ?_
      rw [← Option.some.inj (hw.symm.trans hv)]
      obtain e | e := hrunning <;> simp [e]
    · exact .refl s

theorem closeAlarm_walks (truck seat : Nat) (hA : A (.watch truck)) (hclose : A (.closeAlarm truck (seatOf seat))) :
    Walks A (closeAlarm truck seat) := fun s => by
  unfold closeAlarm
  split
  · exact .refl s
  · split_ifs
    · refine Path.trans (Path.trans (Path.trans ?_ (removePrompt_path _ _ _ _)) (postWatchState_path _ _ _ _))
        (assistFor_path _ _)
      refine modWatch_path s truck _ _ hA fun w _ =>
        ⟨fun _ => not_deadlineFits_of_idle (by simp [Watch.closed]), fun _ => ?_⟩
      exact .inr (.inl ((seatIndex_seatOf seat).symm ▸ hclose))
    · exact .refl s

theorem queryWatch_walks (truck seat : Nat) (hA : A (.watch truck)) : Walks A (queryWatch truck seat) := fun s => by
  unfold queryWatch
  split
  · exact .refl s
  · exact modWatch_path s truck (seatOf seat) (fun w => { w with flags := EventFlags.none }) hA fun _ _ => ⟨id, .of_state_set id fun _ => rfl⟩

/-! ## The Permit Unit (R67 to R86) -/

theorem loadChecks_none {s : State} {p : Permit} (h : loadChecks s p = none) :
    permitOf s p.num = none ∧ s.permits.length < 32 ∧
      s.points.length + (p.points.filter fun n => (pointOf s n).isNone).length ≤ 256 := by
  unfold loadChecks at h
  dsimp only at h
  split_ifs at h with hdup hfull htruck hover
  · split at h
    · simp at h
    · split at h
      · simp at h
      · split_ifs at h
  · exact ⟨by simpa using hdup, by omega, by omega⟩

theorem refreshAssigned_path (s : State) (n : Nat) : Path A s (refreshAssigned s n) := by
  unfold refreshAssigned
  split
  · exact refreshOrderRec_path s _ n
  · exact .refl s

theorem applyLoad_path (s : State) {p : Permit} (hA : A .load) (hp : p.CausesOk) (hchecks : loadChecks s p = none) :
    Path A s (applyLoad s p) := by
  obtain ⟨hnew, hroom, hpoints⟩ := loadChecks_none hchecks
  have hloaded : Path A s (withPermit s p) := (Move.loadPermit p hA hnew hroom hpoints hp).path
  have hlinked : Path A s
      (match p.linked with
       | some n => refreshAssigned (modOrder (withPermit s p) n fun o => { o with linked := some p.num }) n
       | none => withPermit s p) := by
    split
    · exact (hloaded.trans (modOrder_path _ _ (fun o => { o with linked := some p.num })
        (fun _ _ => .ofLists rfl rfl rfl) fun _ h => h)).trans (refreshAssigned_path _ _)
    · exact hloaded
  exact hlinked.trans (postPermitState_path _ _)

theorem loadPermit_walks (permit holder : Nat) (linked : Option Nat) (iso rest : List StepIn) (hA : A .load) :
    Walks A (loadPermit permit holder linked iso rest) := fun s => by
  unfold loadPermit
  split
  · exact .refl s
  · rename_i p hp
    split
    · exact .refl s
    · refine applyLoad_path s hA ?_ ‹_›
      unfold loadedPermit at hp
      split at hp
      · exact absurd hp (by simp)
      · split at hp
        · obtain rfl := Option.some.inj hp
          exact ⟨fun _ => rfl, fun _ => rfl⟩
        · exact absurd hp (by simp)

theorem issueChecks_none {s : State} {p : Permit} (h : issueChecks s p = none) :
    (p.state = .loaded ∨ p.state = .issued) ∧
      ∃ t, truckOf s p.holder = some t ∧ (p.state = .loaded → t.permitSlots.length < 2) := by
  unfold issueChecks at h
  split at h
  · simp at h
  · rename_i hstate
    split at h
    · simp at h
    · rename_i t ht
      split_ifs at h with hmatch hfull
      refine ⟨by tauto, t, ht, fun hl => ?_⟩
      by_contra hroom
      exact hfull ⟨hl, by omega⟩

theorem applyIssue_path (s : State) {p : Permit} (hp : permitOf s p.num = some p) (hchecks : issueChecks s p = none) :
    Path A s (applyIssue s p) := by
  obtain ⟨-, t, ht, hslot⟩ := issueChecks_none hchecks
  unfold applyIssue
  split
  · rename_i hloaded
    have htaken : Path A s (takePermitSlot s p.holder p.num) :=
      takePermitSlot_path s _ _ fun k hk => Option.some.inj (ht.symm.trans hk) ▸ hslot hloaded
    have hissued : Path A s (modPermit (takePermitSlot s p.holder p.num) p.num fun p =>
        { p with state := .issued, issueTime := some s.now }) := by
      refine htaken.trans (modPermit_path _ _ _ (fun q hq => ?_) fun _ h => h)
      obtain rfl : q = p := Option.some.inj (hq.symm.trans hp)
      refine ⟨rfl, rfl, rfl, fun i x hx => ⟨x, hx, rfl, rfl⟩, fun h => ⟨fun hclosed => ?_, fun _ => h.2 (.inl hloaded)⟩,
        ?_, fun hclosed => ?_, .inr fun _ => .refl _⟩
      · simp [PermitState.isOpen] at hclosed
      · simp [hloaded, PermitState.rank]
      · simp [hloaded, PermitState.isOpen] at hclosed
    exact hissued.trans (announce_path _ _)
  · exact givePermit_path s _

theorem issuePermit_walks (permit : Nat) : Walks A (issuePermit permit) := fun s => by
  unfold issuePermit
  split
  · exact .refl s
  · rename_i p hp
    obtain rfl := (findBy_some hp).1
    split
    · exact .refl s
    · exact applyIssue_path s hp ‹_›

theorem haltPermit_walks (permit : Nat) : Walks A (haltPermit permit) := fun s => by
  unfold haltPermit
  split
  · exact .refl s
  · split_ifs
    · exact .refl s
    · exact addCause_path s _ _ (by simp)

theorem applyResume_path (s : State) (p : Permit) (hA : A (.resume p.num)) : Path A s (applyResume s p) :=
  ite_path (((((dropCause_path s _ _ (.inr hA)).trans (dropCause_path _ _ _ (.inr hA))).trans
    (dropCause_path _ _ _ (.inr hA))).trans (dropCause_path _ _ _ (.inr hA))).trans (afterDrop_path _ _)) (.refl s)

theorem resumePermit_walks (permit : Nat) (hA : A (.resume permit)) : Walks A (resumePermit permit) := fun s => by
  unfold resumePermit
  split
  · exact .refl s
  · rename_i p hp
    split_ifs
    · exact .refl s
    · exact .refl s
    · exact .refl s
    · exact applyResume_path s p ((findBy_some hp).1.symm ▸ hA)

theorem answerCancelled_path (s : State) (p : Permit) : Path A s (answerCancelled s p) := by
  unfold answerCancelled
  split
  · exact give_path_of_not_grant s _ rfl
  · split
    · exact give_path_of_not_grant s _ rfl
    · exact .refl s

theorem revoked_point (x : StepRec) : x.revoked.point = x.point := by
  unfold StepRec.revoked
  split <;> rfl

theorem revoked_action (x : StepRec) : x.revoked.action = x.action := by
  unfold StepRec.revoked
  split <;> rfl

theorem revoked_confirm (x : StepRec) : x.revoked.confirm = x.confirm := by
  unfold StepRec.revoked
  split <;> rfl

/-- A permit as CANCEL_PERMIT leaves it (R85). -/
def Permit.revoked (p : Permit) : Permit :=
  { p with iso := p.iso.map StepRec.revoked, rest := p.rest.map StepRec.revoked, state := .cancelled, causes := Causes.none }

theorem Permit.step_map {p p' : Permit} {f : StepRec → StepRec} (hiso : p'.iso = p.iso.map f) (hrest : p'.rest = p.rest.map f)
    (i : StepId) : p'.step i = (p.step i).map f := by
  unfold Permit.step stepAt
  rw [hiso, hrest]
  split_ifs <;> simp

theorem revoked_move {p : Permit} (h : p.state.isOpen = true) : PermitMove A p p.revoked := by
  refine ⟨rfl, rfl, ?_, fun i x hx => ⟨x.revoked, ?_, revoked_action x, revoked_confirm x⟩,
    fun _ => ⟨fun _ => rfl, fun _ => rfl⟩, ?_, fun hclosed => ?_, .inr fun hopen => ?_⟩
  · rw [Permit.points_eq, Permit.points_eq]
    simp only [Permit.revoked, List.map_map, Function.comp_def, revoked_point]
  · rw [Permit.step_map (p := p) rfl rfl, hx]
    rfl
  · cases hst : p.state <;> simp [PermitState.rank, Permit.revoked]
  · simp [h] at hclosed
  · simp [Permit.revoked, PermitState.isOpen] at hopen

theorem applyCancelPermit_path (s : State) {p : Permit} (hp : permitOf s p.num = some p) (hopen : p.state.isOpen = true) :
    Path A s (applyCancelPermit s p) := by
  have hreleased : Path A s (releaseHolds (releaseMarks (removeAsk (answerCancelled s p) p.num) p.num) p.num) :=
    (((answerCancelled_path s p).trans (removeAsk_path _ _)).trans (releaseMarks_path _ _)).trans (releaseHolds_path _ _)
  have hkeeps : Keeps [.trucks, .askArb, .asks, .points] s
      (releaseHolds (releaseMarks (removeAsk (answerCancelled s p) p.num) p.num) p.num) :=
    (((answerCancelled_keeps s p).to.trans (removeAsk_keeps _ _).to).trans (releaseMarks_keeps _ _).to).trans
      (releaseHolds_keeps _ _).to
  have hrevoked := hreleased.trans (modPermit_path (A := A) _ p.num Permit.revoked (fun q hq => by
    rw [permitOf_of_keeps hkeeps, hp] at hq
    exact Option.some.inj hq ▸ revoked_move hopen) fun _ h => h)
  exact (hrevoked.trans (ite_path (p := p.issued = true) (giveFinal_path _ _) (.refl _))).trans (postPermitState_path _ _)

theorem cancelPermit_walks (permit : Nat) : Walks A (cancelPermit permit) := fun s => by
  unfold cancelPermit
  split
  · exact .refl s
  · rename_i p hp
    obtain rfl := (findBy_some hp).1
    split_ifs with hclosed
    · exact .refl s
    · exact .refl s
    · exact applyCancelPermit_path s hp (by simpa using hclosed)

theorem recFor_without_self (q : List Rec) (x : Subject) : recFor (without q x) x = none := by
  simp [recFor, without, List.find?_eq_none]

/-- No ANSWER stands for a permit whose ANSWER has been removed. -/
theorem recOf_dropRec_answer (s : State) (n p : Nat) : recOf (dropRec s n (.answer p)) n (.answer p) = none := by
  unfold recOf
  rw [truckOf_dropRec]
  cases truckOf s n with
  | none => rfl
  | some k =>
    simp only [Option.map_some, if_true, Option.bind_some]
    exact recFor_without_self k.queue (.answer p)

theorem recOf_freePermitSlot (s : State) (t n m : Nat) (x : Subject) : recOf (freePermitSlot s t n) m x = recOf s m x := by
  unfold recOf freePermitSlot
  rw [truckOf_modTruck s t m (fun k => { k with permitSlots := k.permitSlots.filter (· != n) }) fun _ h => h]
  cases truckOf s m with
  | none => rfl
  | some k =>
    simp only [Option.map_some, Option.bind_some]
    split <;> rfl

theorem retirePermitMove_path (s : State) (p : Permit) (hA : A .retire) (hp : permitOf s p.num = some p)
    (ha : recOf s p.holder (.answer p.num) = none) : Path A s (withoutPermit s p) := (Move.retirePermit p hA hp ha).path

theorem applyRetirePermit_path (s : State) {p : Permit} (hA : A .retire) (hp : permitOf s p.num = some p) :
    Path A s (applyRetirePermit s p) := by
  have hfreed : Path A s (freePermitSlot (dropRec (dropRec s p.holder (.permit p.num)) p.holder (.answer p.num))
      p.holder p.num) := ((dropRec_path s _ _).trans (dropRec_path _ _ _)).trans (freePermitSlot_path _ _ _)
  have hanswer : recOf (freePermitSlot (dropRec (dropRec s p.holder (.permit p.num)) p.holder (.answer p.num))
      p.holder p.num) p.holder (.answer p.num) = none :=
    (recOf_freePermitSlot _ _ _ _ _).trans (recOf_dropRec_answer _ _ _)
  have hgone := hfreed.trans (retirePermitMove_path _ p hA hp hanswer)
  unfold applyRetirePermit
  dsimp only
  split
  · exact hgone.trans (modOrder_path _ _ (fun o => { o with linked := none }) (fun _ _ => .ofLists rfl rfl rfl)
      fun _ h => h)
  · exact hgone

theorem retirePermit_walks (permit : Nat) (hA : A .retire) : Walks A (retirePermit permit) := fun s => by
  unfold retirePermit
  split
  · exact .refl s
  · rename_i p hp
    obtain rfl := (findBy_some hp).1
    split_ifs
    · exact .refl s
    · exact applyRetirePermit_path s hA hp

/-! ## Steps and points (R99, R110) -/

theorem approvalChecks_console {s : State} {p : Permit} {i : StepId} {x : StepRec} (h : approvalChecks s p i x = none) :
    checkConsole s x = true := by
  unfold approvalChecks at h
  split_ifs at h
  exact laterChecks_console h

theorem approveStep_path (s : State) {p : Permit} {i : StepId} {x : StepRec} (hp : permitOf s p.num = some p)
    (hx : p.step i = some x) : Path A s (approveStep s p i x).1 := by
  unfold approveStep
  split
  · exact refusePending_path s _ _
  · exact (placeGrant_path s hp hx (approvalChecks_console ‹_›)).trans (removeAsk_path _ _)

theorem decideStep_walks (permit : Nat) (step : StepId) (decision : Nat) : Walks A (decideStep permit step decision) :=
  fun s => by
  unfold decideStep
  split
  · exact .refl s
  · split
    · exact .refl s
    · rename_i p hp
      obtain rfl := (findBy_some hp).1
      split
      · rename_i hx
        split_ifs
        · exact .refl s
        · exact .refl s
        · exact approveStep_path s hp hx
        · exact refusePending_path s _ _
      · exact .refl s

theorem setPoint_walks (point position : Nat) (hA : A (.movePoint point)) : Walks A (setPoint point position) := fun s => by
  unfold setPoint
  split
  · exact .refl s
  · split
    · exact .refl s
    · exact (setPosition_path s point _ hA).trans (weigh_path _ _ _)

/-! ## The Delivery Unit, the Scheduler, the Relay Router and the Load Meter (R129, R133, R151 to R168) -/

theorem sendText_walks (truck : Nat) (text : Text) : Walks A (sendText truck text) := fun s => by
  unfold sendText
  split
  · exact .refl s
  · split_ifs
    · exact .refl s
    · exact .refl s
    · exact give_path_of_not_grant s _ rfl

theorem setAir_walks (rate window slots budget : Nat) : Walks A (setAir rate window slots budget) := fun s => by
  unfold setAir
  split
  · exact .refl s
  · exact air_path s _ (.inr (.inr ⟨rfl, rfl, rfl⟩))

theorem setSite_walks (site parent lo hi hop timeout : Nat) (hT : A .turn) : Walks A (setSite site parent lo hi hop timeout) := fun s => by
  unfold setSite
  split
  · exact .refl s
  · rename_i x hx
    dsimp only
    split_ifs with horder
    · exact .refl s
    · split
      · exact .refl s
      · rename_i hchecks
        have hlo := clamp_bounds (lo := 1) (hi := 250) (by decide) lo
        have hhi := clamp_bounds (lo := 1) (hi := 250) (by decide) hi
        exact applySite_path s (g := ⟨site, parent, _, _, _, _⟩) hx hlo.1 (by simpa using horder) hhi.2 hchecks hT

theorem clearSite_walks (site : Nat) (hT : A .turn) : Walks A (clearSite site) := fun s => by
  unfold clearSite
  split
  · exact .refl s
  · split_ifs with hunused hchildren
    · exact .refl s
    · exact .refl s
    · exact applyClear_path s site ‹_› (by simpa using hchildren) hT

theorem setSitePolicy_walks (policy : Nat) : Walks A (setSitePolicy policy) := fun s => by
  unfold setSitePolicy
  split
  · exact .refl s
  · exact ite_path (.refl s) ((policy_keeps s _).path.trans (evalAllSites_path _))

theorem setZoneGrace_walks (first last grace : Nat) : Walks A (setZoneGrace first last grace) := fun s => by
  unfold setZoneGrace
  dsimp only
  split_ifs
  · exact .refl s
  · exact (graces_keeps s _).path

theorem ordered_iff (x : Thresholds) : x.ordered = true ↔ thresholdsFit x := by
  simp [Thresholds.ordered, thresholdsFit, and_assoc]

theorem setLoadBands_walks (t1 t2 t3 h : Nat) : Walks A (setLoadBands t1 t2 t3 h) := fun s => by
  unfold setLoadBands
  dsimp only
  split_ifs with hfit
  · exact meter_path s _ ⟨rfl, rfl, rfl, fun x hx => .inr (Option.some.inj hx ▸ (ordered_iff _).mp hfit), .inl rfl⟩
  · exact .refl s

theorem setBandEntry_walks (band interval allowance : Nat) : Walks A (setBandEntry band interval allowance) := fun s => by
  unfold setBandEntry
  split_ifs
  · exact .refl s
  · exact meter_path s _ (.ofBusy rfl rfl rfl rfl rfl)

/-! ## The Console Supervisor and the Console Port (R173, R176, R181 to R184) -/

theorem setSupervision_walks (mode window : Nat) : Walks A (setSupervision mode window) := fun s => by
  unfold setSupervision
  split
  · exact .refl s
  · exact sup_path s _ rfl

theorem resumeConsole_walks (hA : A .attend) : Walks A resumeConsole := fun s =>
  ite_path ((Move.attend hA).path.trans (removeAssists_path _)) (.refl s)

theorem serveStatus_walks : Walks A serveStatus := fun s => portMove_path s _ id id

theorem setTime_walks (value : Nat) : Walks A (setTime value) := fun s => (clock_keeps s _).path

theorem setLink_walks (rate : Nat) : Walks A (setLink rate) := fun s => by
  unfold setLink
  split
  · exact .refl s
  · exact portMove_path s _ id id

theorem serveRestart_walks : Walks A serveRestart := fun s => portMove_path s _ id id

theorem setTimeouts_path (s : State) (x : Timeouts) : Path A s { s with timeouts := x } := (timeouts_keeps s x).path

end Sys2Proof.Machine

/-!
PROOFS. An owner of a request accepts it or refuses it whatever the port holds, so that it refuses alike before and behind
its reply (spec/11_the_console_link.md section 11.2).
-/
namespace Sys2Proof.Machine

theorem okOr_cases (b : Bool) : okOr b = .ok ∨ okOr b = .clamped := by
  cases b
  · exact .inl rfl
  · exact .inr rfl

/-! ## Owners that refuse whatever the port holds -/

/-- What an owner answers on `s` and on `s` with another port: it accepts, or it refuses both with one code. -/
def SteadyAt (s : State) (p : Port) (x y : Served) : Prop :=
  (x.2.code = .ok ∨ x.2.code = .clamped) ∨ ∃ c, x = refuse s c ∧ y = refuse { s with port := p } c

/-- An owner that refuses whatever the port holds. -/
def Steady (f : State → Served) : Prop := ∀ s p, SteadyAt s p (f s) (f { s with port := p })

section
variable {s : State} {p : Port} {x y x' y' : Served}

theorem SteadyAt.refused (c : Result) : SteadyAt s p (refuse s c) (refuse { s with port := p } c) := .inr ⟨c, rfl, rfl⟩

theorem SteadyAt.ok (h : x.2.code = .ok) : SteadyAt s p x y := .inl (.inl h)

theorem SteadyAt.okOr (b : Bool) (h : x.2.code = okOr b) : SteadyAt s p x y := .inl (h ▸ okOr_cases b)

/-- A check of what the port does not hold. -/
theorem SteadyAt.ite {P Q : Prop} [Decidable P] [Decidable Q] (h : P ↔ Q) (hx : SteadyAt s p x y)
    (hy : SteadyAt s p x' y') : SteadyAt s p (if P then x else x') (if Q then y else y') := by
  by_cases hP : P
  · rw [if_pos hP, if_pos (h.mp hP)]
    exact hx
  · rw [if_neg hP, if_neg (mt h.mpr hP)]
    exact hy

end

theorem steady_of_ok {f : State → Served} (h : ∀ s, (f s).2.code = .ok) : Steady f := fun s _ => .ok (h s)

theorem steady_of_okOr {f : State → Served} (b : Bool) (h : ∀ s, (f s).2.code = okOr b) : Steady f :=
  fun s _ => .okOr b (h s)

section
variable (s : State) (p : Port) (n m : Nat)

theorem truckOf_withPort : truckOf { s with port := p } n = truckOf s n := rfl
theorem orderOf_withPort : orderOf { s with port := p } n = orderOf s n := rfl
theorem permitOf_withPort : permitOf { s with port := p } n = permitOf s n := rfl
theorem pointOf_withPort : pointOf { s with port := p } n = pointOf s n := rfl
theorem siteOf_withPort : siteOf { s with port := p } n = siteOf s n := rfl
theorem watchOf_withPort : watchOf { s with port := p } n m = watchOf s n m := rfl
theorem askOf_withPort : askOf { s with port := p } n = askOf s n := rfl

end

/-! ## The crew and the orders -/

theorem enrollTruck_steady (n : Nat) : Steady (enrollTruck n) := fun s p =>
  .ite .rfl (.refused _) (.ite .rfl (.refused _) (.inl (by
    dsimp only
    split
    · exact .inl rfl
    · exact .inr rfl)))

theorem removeTruck_steady (n : Nat) : Steady (removeTruck n) := fun s p => by
  unfold removeTruck
  rw [truckOf_withPort s p]
  cases truckOf s n with
  | none => exact .refused _
  | some t => exact .ite .rfl (.refused _) (.ite .rfl (.refused _) (.ok rfl))

theorem lookup_steady {α : Type} (find : State → Nat → Option α) (report : State → α → ReplyBody) (n : Nat)
    (h : ∀ s p, find { s with port := p } n = find s n) : Steady (lookup find report n) := fun s p => by
  unfold lookup
  rw [h s p]
  cases find s n with
  | none => exact .refused _
  | some a => exact .ok rfl

theorem postOrder_steady (order prio : Nat) (loc desc : Text) (cands : List Nat) (profile : Option ProfileIn) :
    Steady (postOrder order prio loc desc cands profile) := fun s p => by
  unfold postOrder
  cases postedOrder order prio loc desc cands profile with
  | none => exact .refused _
  | some o => exact .ite .rfl (.refused _) (.ite .rfl (.refused _) (.okOr _ rfl))

theorem assignOrder_steady (n t : Nat) : Steady (assignOrder n t) := fun s p => by
  unfold assignOrder
  rw [orderOf_withPort s p, truckOf_withPort s p]
  cases orderOf s n with
  | none => exact .refused _
  | some o =>
    refine .ite .rfl (.refused _) ?_
    cases truckOf s t with
    | none => exact .refused _
    | some k => exact .ite .rfl (.refused _) (.ite .rfl (.refused _) (.ite .rfl (.refused _) (.ok rfl)))

theorem changeOrder_steady (n : Nat) (prio : Option Nat) (loc desc : Option Text) (cands : Option (List Nat))
    (profile : Option ProfileIn) (remove : Bool) : Steady (changeOrder n prio loc desc cands profile remove) :=
  fun s p => by
  unfold changeOrder
  rw [orderOf_withPort s p]
  cases changeOf prio loc desc cands profile remove with
  | none => exact .refused _
  | some c =>
    cases orderOf s n with
    | none => exact .refused _
    | some o => exact .ite .rfl (.refused _) (.okOr _ rfl)

theorem cancelOrder_steady (n : Nat) : Steady (cancelOrder n) := fun s p => by
  unfold cancelOrder
  rw [orderOf_withPort s p]
  cases orderOf s n with
  | none => exact .refused _
  | some o => exact .ite .rfl (.refused _) (.ite .rfl (.refused _) (.ok rfl))

theorem retireOrder_steady (n : Nat) : Steady (retireOrder n) := fun s p => by
  unfold retireOrder
  rw [orderOf_withPort s p]
  cases orderOf s n with
  | none => exact .refused _
  | some o => exact .ite .rfl (.refused _) (.ok rfl)

/-! ## The watch -/

theorem setWatch_steady (n seat : Nat) (set : SettingsIn) : Steady (setWatch n seat set) := fun s p => by
  unfold setWatch
  rw [watchOf_withPort s p]
  cases settingsOf set with
  | none => exact .refused _
  | some a =>
    cases watchOf s n (seatOf seat) with
    | none => exact .refused _
    | some w => exact .okOr _ rfl

theorem startWatch_steady (n seat : Nat) : Steady (startWatch n seat) := fun s p => by
  unfold startWatch
  rw [watchOf_withPort s p]
  cases watchOf s n (seatOf seat) with
  | none => exact .refused _
  | some w => exact .ite .rfl (.refused _) (.okOr _ rfl)

theorem stopWatch_steady (n seat : Nat) : Steady (stopWatch n seat) := fun s p => by
  unfold stopWatch
  rw [watchOf_withPort s p]
  cases watchOf s n (seatOf seat) with
  | none => exact .refused _
  | some w => exact .ite .rfl (.okOr _ rfl) (.refused _)

theorem closeAlarm_steady (n seat : Nat) : Steady (closeAlarm n seat) := fun s p => by
  unfold closeAlarm
  rw [watchOf_withPort s p]
  cases watchOf s n (seatOf seat) with
  | none => exact .refused _
  | some w => exact .ite .rfl (.okOr _ rfl) (.refused _)

theorem queryWatch_steady (n seat : Nat) : Steady (queryWatch n seat) := fun s p => by
  unfold queryWatch
  rw [watchOf_withPort s p]
  cases watchOf s n (seatOf seat) with
  | none => exact .refused _
  | some w => exact .okOr _ rfl

/-! ## The permits, their steps and points -/

theorem loadPermit_steady (n holder : Nat) (linked : Option Nat) (iso rest : List StepIn) :
    Steady (loadPermit n holder linked iso rest) := fun s p => by
  have hchecks (q : Permit) : loadChecks { s with port := p } q = loadChecks s q := rfl
  unfold loadPermit
  cases loadedPermit n holder linked iso rest with
  | none => exact .refused _
  | some q =>
    dsimp only
    rw [hchecks]
    cases loadChecks s q with
    | none => exact .okOr _ rfl
    | some c => exact .refused c

theorem issuePermit_steady (n : Nat) : Steady (issuePermit n) := fun s p => by
  have hchecks (q : Permit) : issueChecks { s with port := p } q = issueChecks s q := rfl
  unfold issuePermit
  rw [permitOf_withPort s p]
  cases permitOf s n with
  | none => exact .refused _
  | some q =>
    dsimp only
    rw [hchecks]
    cases issueChecks s q with
    | none => exact .ok rfl
    | some c => exact .refused c

theorem haltPermit_steady (n : Nat) : Steady (haltPermit n) := fun s p => by
  unfold haltPermit
  rw [permitOf_withPort s p]
  cases permitOf s n with
  | none => exact .refused _
  | some q => exact .ite .rfl (.refused _) (.ok rfl)

theorem resumePermit_steady (n : Nat) : Steady (resumePermit n) := fun s p => by
  unfold resumePermit
  rw [permitOf_withPort s p]
  cases permitOf s n with
  | none => exact .refused _
  | some q => exact .ite .rfl (.refused _) (.ite .rfl (.refused _) (.ite .rfl (.refused _) (.ok rfl)))

theorem cancelPermit_steady (n : Nat) : Steady (cancelPermit n) := fun s p => by
  unfold cancelPermit
  rw [permitOf_withPort s p]
  cases permitOf s n with
  | none => exact .refused _
  | some q => exact .ite .rfl (.refused _) (.ite .rfl (.refused _) (.ok rfl))

theorem retirePermit_steady (n : Nat) : Steady (retirePermit n) := fun s p => by
  unfold retirePermit
  rw [permitOf_withPort s p]
  cases permitOf s n with
  | none => exact .refused _
  | some q => exact .ite .rfl (.refused _) (.ok rfl)

theorem approveStep_code (s : State) (q : Permit) (i : StepId) (x : StepRec) : (approveStep s q i x).2.code = .ok := by
  unfold approveStep
  split <;> rfl

theorem decideStep_steady (n : Nat) (i : StepId) (d : Nat) : Steady (decideStep n i d) := fun s p => by
  unfold decideStep
  rw [permitOf_withPort s p, askOf_withPort s p]
  cases approvesOf d with
  | none => exact .refused _
  | some b =>
    cases permitOf s n with
    | none => exact .refused _
    | some q =>
      dsimp only
      cases askOf s n with
      | none => exact .refused _
      | some a =>
        cases q.step i with
        | none => exact .refused _
        | some x =>
          refine .ite .rfl (.refused _) (.ite .rfl (.refused _) (.ok ?_))
          cases b
          · rfl
          · exact approveStep_code s q i x

theorem setPoint_steady (n x : Nat) : Steady (setPoint n x) := fun s p => by
  unfold setPoint
  rw [pointOf_withPort s p]
  cases positionOf x with
  | none => exact .refused _
  | some y =>
    cases pointOf s n with
    | none => exact .refused _
    | some q => exact .ok rfl

/-! ## The settings -/

theorem sendText_steady (n : Nat) (x : Text) : Steady (sendText n x) := fun s p => by
  unfold sendText
  rw [truckOf_withPort s p]
  cases truckOf s n with
  | none => exact .refused _
  | some t => exact .ite .rfl (.refused _) (.ite .rfl (.refused _) (.okOr _ rfl))

theorem setAir_steady (rate window slots budget : Nat) : Steady (setAir rate window slots budget) := fun s p => by
  unfold setAir
  cases airRateOf rate with
  | none => exact .refused _
  | some r => exact .okOr _ rfl

theorem setSite_steady (n parent lo hi hop timeout : Nat) : Steady (setSite n parent lo hi hop timeout) := fun s p => by
  have hchecks (r : Nat × Nat) : siteChecks { s with port := p } n parent r = siteChecks s n parent r := rfl
  unfold setSite
  rw [siteOf_withPort s p]
  cases siteOf s n with
  | none => exact .refused _
  | some x =>
    refine .ite .rfl (.refused _) ?_
    rw [hchecks]
    cases siteChecks s n parent _ with
    | none => exact .okOr _ rfl
    | some c => exact .refused c

theorem clearSite_steady (n : Nat) : Steady (clearSite n) := fun s p => by
  unfold clearSite
  rw [siteOf_withPort s p]
  cases siteOf s n with
  | none => exact .refused _
  | some x => exact .ite .rfl (.refused _) (.ite .rfl (.refused _) (.ok rfl))

theorem setSitePolicy_steady (n : Nat) : Steady (setSitePolicy n) := fun s p => by
  unfold setSitePolicy
  cases policyOf n with
  | none => exact .refused _
  | some x => exact .ok rfl

theorem setZoneGrace_steady (first last grace : Nat) : Steady (setZoneGrace first last grace) := fun _ _ =>
  .ite .rfl (.refused _) (.okOr _ rfl)

theorem queryZone_steady (z : Nat) : Steady (queryZone z) := fun _ _ => .ite .rfl (.ok rfl) (.refused _)

theorem setLoadBands_steady (t1 t2 t3 h : Nat) : Steady (setLoadBands t1 t2 t3 h) := fun _ _ =>
  .ite .rfl (.okOr _ rfl) (.refused _)

theorem setBandEntry_steady (b interval allowance : Nat) : Steady (setBandEntry b interval allowance) := fun _ _ =>
  .ite .rfl (.refused _) (.okOr _ rfl)

theorem setSupervision_steady (mode window : Nat) : Steady (setSupervision mode window) := fun s p => by
  unfold setSupervision
  cases supModeOf mode with
  | none => exact .refused _
  | some m => exact .okOr _ rfl

theorem setLink_steady (rate : Nat) : Steady (setLink rate) := fun s p => by
  unfold setLink
  cases linkRateOf rate with
  | none => exact .refused _
  | some r => exact .ok rfl

end Sys2Proof.Machine

/-!
PROOFS. Every command is a path of moves under the rights of that command; so is what the part does while no command
waits.
-/
namespace Sys2Proof.Machine

/-- The command is a frame of a truck. -/
def FrameOf (c : Instr) (n : Nat) : Prop :=
  ∃ h : Header, h.truck = n ∧ ((∃ acks items, c = .reply h acks items) ∨ ∃ item, c = .burst h item)

/-- What a command may do of what only some may. -/
def mayUse (c : Instr) : Right → Prop
  | .watch _ => True
  | .recover n => FrameOf c n
  | .closeAlarm n seat => ∃ tag seat0, c = .closeAlarm tag n seat0 ∧ clamp 1 2 seat0 = seat
  | .movePoint m => (∃ tag x, c = .setPoint tag m x) ∨ ∃ n, FrameOf c n
  | .resume n => ∃ tag, c = .resumePermit tag n
  | .attend => ∃ tag, c = .resume tag
  | .leave => c = .lapse
  | .enroll => ∃ tag n, c = .enrollTruck tag n
  | .remove => ∃ tag n, c = .removeTruck tag n
  | .load => ∃ tag permit holder linked iso rest, c = .loadPermit tag permit holder linked iso rest
  | .retire => ∃ tag n, c = .retirePermit tag n
  | .turn => True
  | .schedule => (∃ h acks items, c = .reply h acks items) ∨ c = .cycleStart ∨ c = .openWindowEnd ∨ c = .windowClosing ∨
      c = .warmReset
  | .period => c = .periodEnd
  | .clear => c = .warmReset
  | .queue => False
  | .buffer => True

/-- What the owner of a request may do of it: its reply is attached to the buffer by the port, not by the owner. -/
def ownerUse (c : Instr) : Right → Prop
  | .buffer => False
  | r => mayUse c r

theorem mayUse_of_ownerUse {c : Instr} (r : Right) (h : ownerUse c r) : mayUse c r := by
  cases r with
  | buffer => exact h.elim
  | _ => exact h

variable {A : Right → Prop}

/-! ## Requests (R172, R178) -/

theorem serve_path (k tag : Nat) {f : State → Served} (hf : Walks A f) (hT : A .turn) (hB : A .buffer) (s : State) :
    Path A s (serve k tag f s) := by
  unfold serve
  dsimp only
  split_ifs with hrestart hfull
  · exact armWindow_path s
  · exact (armWindow_path s).trans (setLinkFault_path _)
  · exact (((armWindow_path s).trans (attach_path _ k tag _ (by omega) hB)).trans (hf _)).trans (settleEvent_path _ hT)

/-! ### The requests that report alone -/

theorem lookup_walks {α : Type} (find : State → Nat → Option α) (report : State → α → ReplyBody) (n : Nat) :
    Walks A (lookup find report n) := walks_of_unchanged (lookup_state find report n)

theorem queryTruck_walks (n : Nat) : Walks A (queryTruck n) := queryTruck_eq_lookup ▸ lookup_walks _ _ n

theorem queryOrder_walks (n : Nat) : Walks A (queryOrder n) := queryOrder_eq_lookup ▸ lookup_walks _ _ n

theorem queryPermit_walks (n : Nat) : Walks A (queryPermit n) := queryPermit_eq_lookup ▸ lookup_walks _ _ n

theorem queryPoint_walks (n : Nat) : Walks A (queryPoint n) := queryPoint_eq_lookup ▸ lookup_walks _ _ n

theorem queryQueue_walks (n : Nat) : Walks A (queryQueue n) := queryQueue_eq_lookup ▸ lookup_walks _ _ n

theorem queryZone_walks (z : Nat) : Walks A (queryZone z) := fun s => by
  unfold queryZone
  split
  · exact .refl s
  · exact .refl s

/-! ### Every request -/

/-- The request `c` of kind `k` is served by an owner that keeps to the rights of `c` and refuses
whatever the port holds. -/
def WalkedBy (c : Instr) (k tag : Nat) (f : State → Served) : Prop :=
  (∀ s, exec c s = request k tag f s) ∧ Walks (ownerUse c) f ∧ Steady f

theorem exists_walkedBy : ∀ {c : Instr} {k tag : Nat}, kindTag c = some (k, tag) → ∃ f, WalkedBy c k tag f
  | .enrollTruck _ truck, _, _, rfl =>
    ⟨_, fun _ => rfl, enrollTruck_walks truck ⟨_, _, rfl⟩, enrollTruck_steady truck⟩
  | .removeTruck _ truck, _, _, rfl =>
    ⟨_, fun _ => rfl, removeTruck_walks truck ⟨_, _, rfl⟩ trivial, removeTruck_steady truck⟩
  | .queryTruck _ truck, _, _, rfl =>
    ⟨_, fun _ => rfl, queryTruck_walks truck, queryTruck_eq_lookup ▸ lookup_steady _ _ truck fun _ _ => rfl⟩
  | .postOrder _ order prio loc desc cands profile, _, _, rfl =>
    ⟨_, fun _ => rfl, postOrder_walks order prio loc desc cands profile,
      postOrder_steady order prio loc desc cands profile⟩
  | .assignOrder _ order truck, _, _, rfl =>
    ⟨_, fun _ => rfl, assignOrder_walks order truck, assignOrder_steady order truck⟩
  | .changeOrder _ order prio loc desc cands profile remove, _, _, rfl =>
    ⟨_, fun _ => rfl, changeOrder_walks order prio loc desc cands profile remove,
      changeOrder_steady order prio loc desc cands profile remove⟩
  | .cancelOrder _ order, _, _, rfl =>
    ⟨_, fun _ => rfl, cancelOrder_walks order fun _ => trivial, cancelOrder_steady order⟩
  | .retireOrder _ order, _, _, rfl => ⟨_, fun _ => rfl, retireOrder_walks order, retireOrder_steady order⟩
  | .queryOrder _ order, _, _, rfl =>
    ⟨_, fun _ => rfl, queryOrder_walks order, queryOrder_eq_lookup ▸ lookup_steady _ _ order fun _ _ => rfl⟩
  | .setOfferTimeout .., _, _, rfl => ⟨_, fun _ => rfl, fun s => setTimeouts_path s _, steady_of_okOr _ fun _ => rfl⟩
  | .setWatch _ truck seat set, _, _, rfl =>
    ⟨_, fun _ => rfl, setWatch_walks truck seat set trivial, setWatch_steady truck seat set⟩
  | .startWatch _ truck seat, _, _, rfl =>
    ⟨_, fun _ => rfl, startWatch_walks truck seat trivial, startWatch_steady truck seat⟩
  | .stopWatch _ truck seat, _, _, rfl =>
    ⟨_, fun _ => rfl, stopWatch_walks truck seat trivial, stopWatch_steady truck seat⟩
  | .closeAlarm _ truck seat, _, _, rfl =>
    ⟨_, fun _ => rfl, closeAlarm_walks truck seat trivial ⟨_, _, rfl, rfl⟩, closeAlarm_steady truck seat⟩
  | .queryWatch _ truck seat, _, _, rfl =>
    ⟨_, fun _ => rfl, queryWatch_walks truck seat trivial, queryWatch_steady truck seat⟩
  | .loadPermit _ permit holder linked iso rest, _, _, rfl =>
    ⟨_, fun _ => rfl, loadPermit_walks permit holder linked iso rest ⟨_, _, _, _, _, _, rfl⟩,
      loadPermit_steady permit holder linked iso rest⟩
  | .issuePermit _ permit, _, _, rfl => ⟨_, fun _ => rfl, issuePermit_walks permit, issuePermit_steady permit⟩
  | .haltPermit _ permit, _, _, rfl => ⟨_, fun _ => rfl, haltPermit_walks permit, haltPermit_steady permit⟩
  | .resumePermit _ permit, _, _, rfl =>
    ⟨_, fun _ => rfl, resumePermit_walks permit ⟨_, rfl⟩, resumePermit_steady permit⟩
  | .cancelPermit _ permit, _, _, rfl => ⟨_, fun _ => rfl, cancelPermit_walks permit, cancelPermit_steady permit⟩
  | .retirePermit _ permit, _, _, rfl =>
    ⟨_, fun _ => rfl, retirePermit_walks permit ⟨_, _, rfl⟩, retirePermit_steady permit⟩
  | .queryPermit _ permit, _, _, rfl =>
    ⟨_, fun _ => rfl, queryPermit_walks permit, queryPermit_eq_lookup ▸ lookup_steady _ _ permit fun _ _ => rfl⟩
  | .decideStep _ permit step decision, _, _, rfl =>
    ⟨_, fun _ => rfl, decideStep_walks permit step decision, decideStep_steady permit step decision⟩
  | .queryPending _, _, _, rfl => ⟨_, fun _ => rfl, walks_of_unchanged fun _ => rfl, steady_of_ok fun _ => rfl⟩
  | .setDecisionTimeout .., _, _, rfl =>
    ⟨_, fun _ => rfl, fun s => setTimeouts_path s _, steady_of_okOr _ fun _ => rfl⟩
  | .setPoint _ point position, _, _, rfl =>
    ⟨_, fun _ => rfl, setPoint_walks point position (.inl ⟨_, _, rfl⟩), setPoint_steady point position⟩
  | .queryPoint _ point, _, _, rfl =>
    ⟨_, fun _ => rfl, queryPoint_walks point, queryPoint_eq_lookup ▸ lookup_steady _ _ point fun _ _ => rfl⟩
  | .sendText _ truck text, _, _, rfl => ⟨_, fun _ => rfl, sendText_walks truck text, sendText_steady truck text⟩
  | .setAnswerDiscard .., _, _, rfl => ⟨_, fun _ => rfl, fun s => setTimeouts_path s _, steady_of_okOr _ fun _ => rfl⟩
  | .queryQueue _ truck, _, _, rfl =>
    ⟨_, fun _ => rfl, queryQueue_walks truck, queryQueue_eq_lookup ▸ lookup_steady _ _ truck fun _ _ => rfl⟩
  | .setAir _ rate window slots budget, _, _, rfl =>
    ⟨_, fun _ => rfl, setAir_walks rate window slots budget, setAir_steady rate window slots budget⟩
  | .queryAir _, _, _, rfl => ⟨_, fun _ => rfl, walks_of_unchanged fun _ => rfl, steady_of_ok fun _ => rfl⟩
  | .setSite _ site parent lo hi hop timeout, _, _, rfl =>
    ⟨_, fun _ => rfl, setSite_walks site parent lo hi hop timeout trivial,
      setSite_steady site parent lo hi hop timeout⟩
  | .clearSite _ site, _, _, rfl => ⟨_, fun _ => rfl, clearSite_walks site trivial, clearSite_steady site⟩
  | .setSitePolicy _ policy, _, _, rfl => ⟨_, fun _ => rfl, setSitePolicy_walks policy, setSitePolicy_steady policy⟩
  | .setZoneGrace _ first last grace, _, _, rfl =>
    ⟨_, fun _ => rfl, setZoneGrace_walks first last grace, setZoneGrace_steady first last grace⟩
  | .querySites _, _, _, rfl => ⟨_, fun _ => rfl, walks_of_unchanged fun _ => rfl, steady_of_ok fun _ => rfl⟩
  | .queryZone _ zone, _, _, rfl => ⟨_, fun _ => rfl, queryZone_walks zone, queryZone_steady zone⟩
  | .setLoadBands _ t1 t2 t3 h, _, _, rfl =>
    ⟨_, fun _ => rfl, setLoadBands_walks t1 t2 t3 h, setLoadBands_steady t1 t2 t3 h⟩
  | .setBandEntry _ band interval allowance, _, _, rfl =>
    ⟨_, fun _ => rfl, setBandEntry_walks band interval allowance, setBandEntry_steady band interval allowance⟩
  | .queryLoad _, _, _, rfl => ⟨_, fun _ => rfl, walks_of_unchanged fun _ => rfl, steady_of_ok fun _ => rfl⟩
  | .setSupervision _ mode window, _, _, rfl =>
    ⟨_, fun _ => rfl, setSupervision_walks mode window, setSupervision_steady mode window⟩
  | .querySupervision _, _, _, rfl => ⟨_, fun _ => rfl, walks_of_unchanged fun _ => rfl, steady_of_ok fun _ => rfl⟩
  | .resume _, _, _, rfl => ⟨_, fun _ => rfl, resumeConsole_walks ⟨_, rfl⟩, steady_of_ok fun _ => rfl⟩
  | .status _, _, _, rfl => ⟨_, fun _ => rfl, serveStatus_walks, steady_of_ok fun _ => rfl⟩
  | .identify _, _, _, rfl => ⟨_, fun _ => rfl, walks_of_unchanged fun _ => rfl, steady_of_ok fun _ => rfl⟩
  | .setTime _ value, _, _, rfl => ⟨_, fun _ => rfl, setTime_walks value, steady_of_okOr _ fun _ => rfl⟩
  | .setLink _ rate, _, _, rfl => ⟨_, fun _ => rfl, setLink_walks rate, setLink_steady rate⟩
  | .keepalive _, _, _, rfl => ⟨_, fun _ => rfl, walks_of_unchanged fun _ => rfl, steady_of_ok fun _ => rfl⟩
  | .restart _, _, _, rfl => ⟨_, fun _ => rfl, serveRestart_walks, steady_of_ok fun _ => rfl⟩
  | .unknownRequest .., _, _, rfl => ⟨_, fun _ => rfl, walks_of_unchanged fun _ => rfl, fun _ _ => .refused _⟩

/-! ## Events -/

/-- What a command answers, on a path under the rights `A`. -/
def Steps (A : Right → Prop) (o : Host.Outcome State Fault Refusal) (s : State) : Prop := ∃ t, o = .next t ∧ Path A s t

theorem unlessHeld_steps {f : State → State} {s : State} (h : Path A s (f s)) : Steps A (unlessHeld f s) s := by
  unfold unlessHeld
  split
  · exact ⟨s, rfl, .refl s⟩
  · exact ⟨f s, rfl, h⟩

theorem event_steps {f : State → State} {s : State} (hT : A .turn) (h : Path A s (f s)) : Steps A (event f s) s :=
  unlessHeld_steps (h.trans (settleEvent_path _ hT))

theorem frameRights_reply (h : Header) (acks : List Nat) (items : List Item) :
    FrameRights (mayUse (.reply h acks items)) h.truck :=
  ⟨trivial, ⟨h, rfl, .inl ⟨acks, items, rfl⟩⟩, fun _ => .inr ⟨_, h, rfl, .inl ⟨acks, items, rfl⟩⟩⟩

theorem frameRights_burst (h : Header) (item : Item) : FrameRights (mayUse (.burst h item)) h.truck :=
  ⟨trivial, ⟨h, rfl, .inr ⟨item, rfl⟩⟩, fun _ => .inr ⟨_, h, rfl, .inr ⟨item, rfl⟩⟩⟩

section
variable (s : State)

theorem reply_path (h : Header) (acks : List Nat) (items : List Item) : Path (mayUse (.reply h acks items)) s
    (takeReply (countUplink (expireFirst s h) (replyOctets h acks items)) h acks items) :=
  have hs : mayUse (.reply h acks items) .schedule := .inl ⟨h, acks, items, rfl⟩
  ((expireFirst_path s h hs trivial).trans (countUplink_path _ _)).trans
    (takeReply_path _ h acks items (frameRights_reply h acks items) hs)

theorem burst_path (h : Header) (item : Item) : Path (mayUse (.burst h item)) s
    (takeBurst (countUplink s (burstOctets h item)) h [item]) :=
  (countUplink_path s _).trans (takeBurst_path _ h [item] (frameRights_burst h item))

theorem offerTimeout_path (n : Nat) : Path A s
    (match orderOf s n with
     | some o => if o.offerReached s.now then offerExpires s n else s
     | none => s) := by
  split
  · exact ite_path (offerExpires_path s n) (.refl s)
  · exact .refl s

theorem warning_path (n seat : Nat) (hA : A (.watch n)) : Path A s
    (match watchOf s n seat with
     | some w => if w.warnReached s.now then enterWarn s n seat else s
     | none => s) := by
  split
  · rename_i w hw
    split
    · rename_i hreached
      refine enterWarn_path s n seat hA fun v hv => ?_
      rw [← Option.some.inj (hw.symm.trans hv)]
      exact warnReached_state hreached
    · exact .refl s
  · exact .refl s

theorem deadline_path (n seat : Nat) (hA : A (.watch n)) : Path A s
    (match watchOf s n seat with
     | some w => if w.deadlineReached s.now then deadlineAlarm s n seat else s
     | none => s) := by
  split
  · exact ite_path (deadlineAlarm_path s n seat hA) (.refl s)
  · exact .refl s

theorem decisionTimeout_path (n : Nat) : Path A s
    (match askOf s n with
     | some a => if a.expiry ≤ s.now then expireAsk s a else s
     | none => s) := by
  split
  · exact ite_path (expireAsk_path s _) (.refl s)
  · exact .refl s

theorem discardTime_path (n p : Nat) : Path A s
    (match recOf s n (.answer p) with
     | some r => if r.discardReached s.now then loseRec s n r .discarded r.attempts else s
     | none => s) := by
  split
  · exact ite_path (loseRec_path s n _ _ _) (.refl s)
  · exact .refl s

theorem beaconTimeout_path (n : Nat) : Path A s
    (match siteOf s n with
     | some x => if x.timedOut s.now then siteGoesDown s n else s
     | none => s) := by
  split
  · split
    · exact timedOut_path s n ‹_› ‹_›
    · exact .refl s
  · exact .refl s

theorem windowClosing_path (hA : A .schedule) : Path A s
    (match s.air.turn with
     | some t => if t.winClose ≤ s.nowMs then closeWindow s t else s
     | none => s) := by
  split
  · exact ite_path (closeWindow_path s _ hA) (.refl s)
  · exact .refl s

end

/-- Every command but the cold reset is a path of moves under its own rights. -/
theorem exec_steps (c : Instr) (s : State) (hc : c ≠ .coldReset) : Steps (mayUse c) (exec c s) s := by
  cases hk : kindTag c with
  | some kt =>
    obtain ⟨k, tag⟩ := kt
    obtain ⟨f, hexec, hwalks, -⟩ := exists_walkedBy hk
    rw [hexec]
    exact unlessHeld_steps (serve_path k tag (fun u => (hwalks u).mono mayUse_of_ownerUse) trivial trivial s)
  | none =>
    cases c with
    | failedFrame why =>
      refine event_steps trivial ?_
      exact setLinkFault_path s
    | octetGap =>
      show Steps _ (execOctetGap s) s
      unfold execOctetGap
      refine event_steps trivial ?_
      exact (dropOverdue_path s).trans (setLinkFault_path _)
    | replySent receiving =>
      refine event_steps trivial ?_
      exact replyGone_path receiving s trivial
    | noticeSent =>
      refine event_steps trivial ?_
      exact noticeGone_path s
    | warmReset =>
      show Steps _ (execWarmReset s) s
      unfold execWarmReset
      refine event_steps trivial ?_
      exact ite_path (warm_path s rfl (.inr (.inr (.inr (.inr rfl)))) trivial) (.refl s)
    | coldReset => exact absurd rfl hc
    | carrierOn =>
      show Steps _ (execCarrierOn s) s
      unfold execCarrierOn
      refine event_steps trivial ?_
      exact meter_path s _ (.carrierOn _ _)
    | carrierOff =>
      show Steps _ (execCarrierOff s) s
      unfold execCarrierOff
      refine event_steps trivial ?_
      exact meter_path s _ (.carrierOff _ _)
    | reply h acks items =>
      show Steps _ (execReply h acks items s) s
      unfold execReply
      refine event_steps trivial ?_
      exact reply_path s h acks items
    | burst h item =>
      show Steps _ (execBurst h item s) s
      unfold execBurst
      refine event_steps trivial ?_
      exact burst_path s h item
    | beacon relay site =>
      show Steps _ (execBeacon relay site s) s
      unfold execBeacon
      refine event_steps trivial ?_
      exact ite_path ((countUplink_path s _).trans (takeBeacon_path _ site)) (rejectFrame_path s)
    | rejectedFrame =>
      refine event_steps trivial ?_
      exact rejectFrame_path s
    | offerTimeout order =>
      show Steps _ (execOfferTimeout order s) s
      unfold execOfferTimeout
      refine event_steps trivial ?_
      exact offerTimeout_path s order
    | warning truck seat =>
      show Steps _ (execWarning truck seat s) s
      unfold execWarning
      refine event_steps trivial ?_
      exact warning_path s truck seat trivial
    | deadline truck seat =>
      show Steps _ (execDeadline truck seat s) s
      unfold execDeadline
      refine event_steps trivial ?_
      exact deadline_path s truck seat trivial
    | decisionTimeout permit =>
      show Steps _ (execDecisionTimeout permit s) s
      unfold execDecisionTimeout
      refine event_steps trivial ?_
      exact decisionTimeout_path s permit
    | discardTime truck permit =>
      show Steps _ (execDiscardTime truck permit s) s
      unfold execDiscardTime
      refine event_steps trivial ?_
      exact discardTime_path s truck permit
    | lapse =>
      show Steps _ (execLapse s) s
      unfold execLapse
      refine event_steps trivial ?_
      exact ite_path (takeLapse_path s rfl) (.refl s)
    | beaconTimeout site =>
      show Steps _ (execBeaconTimeout site s) s
      unfold execBeaconTimeout
      refine event_steps trivial ?_
      exact beaconTimeout_path s site
    | cycleStart =>
      show Steps _ (execCycleStart s) s
      unfold execCycleStart
      refine event_steps trivial ?_
      exact ite_path (reachStart_path (.inr (.inl rfl)) s) (.refl s)
    | openWindowEnd =>
      show Steps _ (execOpenWindowEnd s) s
      unfold execOpenWindowEnd
      refine event_steps trivial ?_
      exact ite_path (pastWindow_path (.inr (.inr (.inl rfl))) s) (.refl s)
    | windowClosing =>
      show Steps _ (execWindowClosing s) s
      unfold execWindowClosing
      refine event_steps trivial ?_
      exact windowClosing_path s (.inr (.inr (.inr (.inl rfl))))
    | periodEnd =>
      show Steps _ (execPeriodEnd s) s
      unfold execPeriodEnd
      refine event_steps trivial ?_
      exact ite_path (endPeriod_path s rfl) (.refl s)
    | resetLineAssertion => exact ⟨_, rfl, holdReset_path s⟩
    | _ => exact absurd hk (by simp [kindTag])

theorem idle_path (s : State) : Path (fun r => r = .queue) s (idle s) := by
  unfold idle
  split
  · exact .refl s
  · split
    · exact (clock_keeps s _).path
    · exact (Move.queue (A := fun r => r = .queue) _ _ rfl).path

theorem idle_keeps (s : State) : Keeps [.clock, .pending, .choices] s (idle s) := by
  unfold idle
  split
  · exact .refl _ s
  · split
    · exact (clock_keeps s _).to
    · intro f hf
      cases f <;> first | rfl | simp at hf

/-- A step is the cold reset, a command on the queue's rest, or what the part does while none waits. -/
theorem step_cases {s t : State} (h : step s = .next t) :
    (∃ l, s.pending = .coldReset :: l ∧ t = cold { s with pending := l }) ∨
      (∃ c l, s.pending = c :: l ∧ c ≠ .coldReset ∧ exec c { s with pending := l } = .next t ∧
        Path (mayUse c) { s with pending := l } t) ∨
      (s.pending = [] ∧ t = idle s) := by
  unfold step at h
  split at h
  · rename_i c l hl
    by_cases hc : c = .coldReset
    · subst hc
      exact .inl ⟨l, hl, (Host.Outcome.next.inj h).symm⟩
    · obtain ⟨u, hu, hpath⟩ := exec_steps c { s with pending := l } hc
      obtain rfl := Host.Outcome.next.inj (hu.symm.trans h)
      exact .inr (.inl ⟨c, l, hl, hc, h, hpath⟩)
  · exact .inr (.inr ⟨‹_›, (Host.Outcome.next.inj h).symm⟩)

/-- What every move keeps, the cold-reset values have, and the queue and the clock do not touch, every step keeps. -/
theorem step_keeps {P : State → Prop} (hmove : ∀ {A s t}, Move A s t → P s → P t)
    (hreset : ∀ s, P (cold s)) {s t : State} (h : step s = .next t) (hs : P s) : P t := by
  obtain ⟨l, -, rfl⟩ | ⟨c, l, -, -, -, hpath⟩ | ⟨-, rfl⟩ := step_cases h
  · exact hreset _
  · exact Path.keeps hmove hpath (hmove (A := fun r => r = .queue) (Move.queue l s.choices rfl) hs)
  · exact Path.keeps hmove (idle_path s) hs

end Sys2Proof.Machine

/-!
PROOFS. The invariants of tables, truck records, orders and queues: each is kept by every move, so by every step.
-/
namespace Sys2Proof.Machine

variable {A : Right → Prop}

/-! ## The points a permit names (R68, R86) -/

theorem addRef_of_isSome {s : State} {n : Nat} (h : (pointOf s n).isSome = true) :
    addRef s n = modPoint s n fun q => { q with refCount := q.refCount + 1 } := by
  simp [addRef, h]

theorem addRef_of_none {s : State} {n : Nat} (h : pointOf s n = none) :
    addRef s n = modPoint { s with points := insertBy Point.num (Point.fresh n) s.points } n fun q =>
      { q with refCount := q.refCount + 1 } := by
  simp [addRef, h]

/-- What stands under each number once a reference has been added. -/
theorem pointOf_addRef (s : State) (n m : Nat) : pointOf (addRef s n) m =
    if m = n then some { (pointOf s n).getD (Point.fresh n) with refCount := ((pointOf s n).getD (Point.fresh n)).refCount + 1 }
    else pointOf s m := by
  cases h : pointOf s n with
  | some q =>
    rw [addRef_of_isSome (by simp [h]), pointOf_modPoint s n m (fun q => { q with refCount := q.refCount + 1 }) fun _ h => h]
    by_cases hm : m = n
    · simp [hm, h]
    · simp [hm]
  | none =>
    rw [addRef_of_none h, pointOf_modPoint _ n m (fun q => { q with refCount := q.refCount + 1 }) fun _ h => h]
    have hin : ∀ k, pointOf { s with points := insertBy Point.num (Point.fresh n) s.points } k =
        if k = n then some (Point.fresh n) else pointOf s k := fun k => findBy_insertBy (Point.fresh n) k s.points h
    rw [hin]
    by_cases hm : m = n
    · simp [hm]
    · simp [hm]

theorem modPoint_points_keys (s : State) (n : Nat) (f : Point → Point) (hf : ∀ q, q.num = n → (f q).num = n) :
    (modPoint s n f).points.map Point.num = s.points.map Point.num := changeBy_keys n s.points fun q _ => hf q

theorem addRef_ascending {s : State} (h : ascending Point.num s.points) (n : Nat) :
    ascending Point.num (addRef s n).points := by
  unfold ascending
  cases hn : pointOf s n with
  | some q =>
    rw [addRef_of_isSome (by simp [hn]), modPoint_points_keys s n (fun q => { q with refCount := q.refCount + 1 }) fun _ h => h]
    exact h
  | none =>
    rw [addRef_of_none hn, modPoint_points_keys _ n (fun q => { q with refCount := q.refCount + 1 }) fun _ h => h]
    exact insertBy_ascending (Point.fresh n) s.points h hn

theorem addRef_length (s : State) (n : Nat) :
    (addRef s n).points.length = s.points.length + if (pointOf s n).isNone then 1 else 0 := by
  cases hn : pointOf s n with
  | some q =>
    rw [addRef_of_isSome (by simp [hn])]
    simp [modPoint, changeBy]
  | none =>
    rw [addRef_of_none hn]
    simp [modPoint, changeBy, insertBy_length]

theorem eachOf_addRef_ascending (l : List Nat) {s : State} (h : ascending Point.num s.points) :
    ascending Point.num (eachOf addRef l s).points := by
  induction l generalizing s with
  | nil => exact h
  | cons n l ih => exact ih (addRef_ascending h n)

/-- The table grows by the points it did not have. -/
theorem eachOf_addRef_length {l : List Nat} (hl : l.Nodup) (s : State) :
    (eachOf addRef l s).points.length = s.points.length + (l.filter fun n => (pointOf s n).isNone).length := by
  induction l generalizing s with
  | nil => rfl
  | cons n l ih =>
    obtain ⟨hn, hl⟩ := List.nodup_cons.mp hl
    have hsame : (l.filter fun m => (pointOf (addRef s n) m).isNone) = l.filter fun m => (pointOf s m).isNone := by
      refine List.filter_congr fun m hm => ?_
      have hne : m ≠ n := fun e => hn (e ▸ hm)
      rw [pointOf_addRef, if_neg hne]
    have hstep : eachOf addRef (n :: l) s = eachOf addRef l (addRef s n) := rfl
    rw [hstep, ih hl, hsame, addRef_length, List.filter_cons]
    split
    · simp
      omega
    · simp

theorem dropRef_ascending {s : State} (h : ascending Point.num s.points) (n : Nat) :
    ascending Point.num (dropRef s n).points := by
  unfold dropRef
  split
  · split
    · exact eraseBy_ascending n s.points h
    · unfold ascending
      rw [modPoint_points_keys s n (fun q => { q with refCount := q.refCount - 1 }) fun _ h => h]
      exact h
  · exact h

theorem dropRef_length (s : State) (n : Nat) : (dropRef s n).points.length ≤ s.points.length := by
  unfold dropRef
  split
  · split
    · exact List.length_filter_le _ _
    · simp [modPoint, changeBy]
  · exact le_rfl

theorem eachOf_dropRef_points (l : List Nat) {s : State} (h : ascending Point.num s.points) :
    ascending Point.num (eachOf dropRef l s).points ∧ (eachOf dropRef l s).points.length ≤ s.points.length := by
  induction l generalizing s with
  | nil => exact ⟨h, le_rfl⟩
  | cons n l ih =>
    obtain ⟨h1, h2⟩ := ih (dropRef_ascending h n)
    exact ⟨h1, h2.trans (dropRef_length s n)⟩

theorem eachOf_addRef_keeps (l : List Nat) (s : State) : Keeps [.points] s (eachOf addRef l s) :=
  Keeps.foldl (fun u n => addRef_keeps u n) l s

theorem eachOf_dropRef_keeps (l : List Nat) (s : State) : Keeps [.points] s (eachOf dropRef l s) :=
  Keeps.foldl (fun u n => dropRef_keeps u n) l s

theorem Permit.points_nodup (p : Permit) : p.points.Nodup := dropRepeats_nodup _

/-- What loading a permit makes of the state (R68). -/
theorem withPermit_keeps (s : State) (p : Permit) : Keeps [.permits, .points] s (withPermit s p) :=
  (permits_keeps s _).to.trans (eachOf_addRef_keeps p.points _).to

theorem withPermit_permits (s : State) (p : Permit) : (withPermit s p).permits = insertBy Permit.num p s.permits :=
  eachOf_addRef_keeps p.points { s with permits := insertBy Permit.num p s.permits } .permits (by decide)

theorem withoutPermit_keeps (s : State) (p : Permit) : Keeps [.permits, .points] s (withoutPermit s p) :=
  (eachOf_dropRef_keeps p.points s).to.trans (permits_keeps _ _).to

theorem withoutPermit_permits (s : State) (p : Permit) : (withoutPermit s p).permits = eraseBy Permit.num p.num s.permits :=
  congrArg (eraseBy Permit.num p.num) (eachOf_dropRef_keeps p.points s .permits (by decide))

/-! ## Tables (R1, R17, R65, R88, R98, R178, R180) -/

theorem changeBy_ascending {α : Type} {key : α → Nat} {n : Nat} {f : α → α} {l : List α} (h : ascending key l)
    (hf : ∀ x, key x = n → key (f x) = n) : ascending key (changeBy key n f l) := by
  unfold ascending
  rw [changeBy_keys n l fun x _ => hf x]
  exact h

theorem changeBy_length {α : Type} (key : α → Nat) (n : Nat) (f : α → α) (l : List α) :
    (changeBy key n f l).length = l.length := List.length_map _

theorem map_ascending {α : Type} {key : α → Nat} {f : α → α} {l : List α} (h : ascending key l)
    (hf : ∀ x, key (f x) = key x) : ascending key (l.map f) := by
  unfold ascending
  have e : (l.map f).map key = l.map key := by
    rw [List.map_map]
    exact List.map_congr_left fun x _ => hf x
  exact e ▸ h

theorem ascending_nodup {α : Type} {key : α → Nat} {l : List α} (h : ascending key l) : (l.map key).Nodup :=
  h.imp fun hlt => Nat.ne_of_lt hlt

/-- The tables and lists TablesInv speaks of are as they were. -/
theorem TablesInv.congr {s t : State} (h : TablesInv s) (htrucks : t.trucks = s.trucks) (horders : t.orders = s.orders)
    (hpermits : t.permits = s.permits) (hpoints : t.points = s.points) (hasks : t.asks = s.asks)
    (hport : t.port = s.port) : TablesInv t := by
  obtain ⟨h1, h2, h3, h4, h5, h6, h7, h8, h9, h10, h11, h12⟩ := h
  rw [← htrucks] at h1 h5 h6
  rw [← horders] at h2 h7
  rw [← hpermits] at h3 h8
  rw [← hpoints] at h4 h9
  rw [← hasks] at h10
  rw [← hport] at h11 h12
  exact ⟨h1, h2, h3, h4, h5, h6, h7, h8, h9, h10, h11, h12⟩

theorem Move.tables {s t : State} (h : Move A s t) (hs : TablesInv s) : TablesInv t := by
  cases h with
  | frame h =>
    exact hs.congr (h .trucks (by decide)) (h .orders (by decide)) (h .permits (by decide)) (h .points (by decide))
      (h .asks (by decide)) (h .port (by decide))
  | port p hbuffer hnotices _ =>
    exact { hs with bufferRoom := hbuffer hs.bufferRoom, noticeRoom := hnotices hs.noticeRoom }
  | sup | attend | leave | air | sites | meter | period | queue => exact hs.congr rfl rfl rfl rfl rfl rfl
  | truck n f hnum _ =>
    refine { hs with trucks := changeBy_ascending hs.trucks hnum, truckRoom := ?_, truckRange := fun k hk => ?_ }
    · obtain ⟨x, hx, rfl⟩ := List.mem_map.mp hk
      have hrange := hs.truckRange x hx
      split
      · rename_i hn
        rw [hnum x hn, ← hn]
        exact hrange
      · exact hrange
    · exact (changeBy_length Truck.num n f s.trucks).trans_le hs.truckRoom
  | enroll n _ hlo hhi hnew hroom =>
    refine { hs with
      trucks := insertBy_ascending (Truck.fresh n) s.trucks hs.trucks hnew, truckRoom := ?_, truckRange := fun k hk => ?_ }
    · obtain rfl | hk := mem_insertBy.mp hk
      · exact ⟨hlo, hhi⟩
      · exact hs.truckRange k hk
    · exact (insertBy_length _ s.trucks).trans_le hroom
  | remove n _ =>
    exact { hs with
      trucks := eraseBy_ascending n s.trucks hs.trucks, truckRoom := (List.length_filter_le _ _).trans hs.truckRoom
      truckRange := fun k hk => hs.truckRange k (List.mem_of_mem_filter hk) }
  | order n f hnum _ =>
    exact { hs with
      orders := changeBy_ascending hs.orders hnum
      orderRoom := (changeBy_length Order.num n f s.orders).trans_le hs.orderRoom }
  | postOrder o hnew hroom _ =>
    exact { hs with
      orders := insertBy_ascending o s.orders hs.orders hnew, orderRoom := (insertBy_length o s.orders).trans_le hroom }
  | retireOrder n =>
    exact { hs with
      orders := eraseBy_ascending n s.orders hs.orders, orderRoom := (List.length_filter_le _ _).trans hs.orderRoom }
  | permit n f hnum _ =>
    exact { hs with
      permits := changeBy_ascending hs.permits hnum
      permitRoom := (changeBy_length Permit.num n f s.permits).trans_le hs.permitRoom }
  | loadPermit p _ hnew hroom hpoints _ =>
    have hinserted : TablesInv { s with permits := insertBy Permit.num p s.permits } := { hs with
      permits := insertBy_ascending p s.permits hs.permits hnew
      permitRoom := (insertBy_length p s.permits).trans_le hroom }
    have hkeeps := eachOf_addRef_keeps p.points { s with permits := insertBy Permit.num p s.permits }
    have hlength := eachOf_addRef_length p.points_nodup { s with permits := insertBy Permit.num p s.permits }
    have hpointed : TablesInv { s with
        permits := insertBy Permit.num p s.permits, points := (withPermit s p).points } := { hinserted with
      points := eachOf_addRef_ascending p.points hs.points
      pointRoom := hlength.trans_le hpoints }
    exact hpointed.congr (hkeeps .trucks (by decide)) (hkeeps .orders (by decide)) (hkeeps .permits (by decide)) rfl
      (hkeeps .asks (by decide)) (hkeeps .port (by decide))
  | retirePermit p _ _ _ =>
    obtain ⟨hasc, hlength⟩ := eachOf_dropRef_points p.points hs.points
    have hkeeps := withoutPermit_keeps s p
    have herased : TablesInv { s with
        permits := eraseBy Permit.num p.num s.permits, points := (eachOf dropRef p.points s).points } := { hs with
      permits := eraseBy_ascending p.num s.permits hs.permits
      permitRoom := (List.length_filter_le _ _).trans hs.permitRoom
      points := hasc
      pointRoom := hlength.trans hs.pointRoom }
    exact herased.congr (hkeeps .trucks (by decide)) (hkeeps .orders (by decide)) (withoutPermit_permits s p) rfl
      (hkeeps .asks (by decide)) (hkeeps .port (by decide))
  | point n f hnum _ =>
    exact { hs with
      points := changeBy_ascending hs.points hnum
      pointRoom := (changeBy_length Point.num n f s.points).trans_le hs.pointRoom }
  | points f h =>
    exact { hs with
      points := map_ascending hs.points fun q => (h q).num
      pointRoom := (List.length_map (as := s.points) f).trans_le hs.pointRoom }
  | asks l hroom _ => exact { hs with askRoom := hroom hs.askRoom }
  | clear =>
    exact { hs with
      trucks := List.Pairwise.nil, orders := List.Pairwise.nil, permits := List.Pairwise.nil, points := List.Pairwise.nil
      truckRange := by simp, truckRoom := by simp, orderRoom := by simp, permitRoom := by simp
      pointRoom := by simp, askRoom := by simp }

theorem tablesInv_cold (s : State) : TablesInv (cold s) where
  trucks := List.Pairwise.nil
  orders := List.Pairwise.nil
  permits := List.Pairwise.nil
  points := List.Pairwise.nil
  truckRange := fun _ h => absurd h List.not_mem_nil
  truckRoom := Nat.zero_le 64
  orderRoom := Nat.zero_le 128
  permitRoom := Nat.zero_le 32
  pointRoom := Nat.zero_le 256
  askRoom := Nat.zero_le 16
  bufferRoom := Nat.zero_le 4
  noticeRoom := Nat.zero_le 64

/-! ## One record at a time -/

/-- A predicate of single truck records that every move of a record keeps and a fresh record meets stays one of all. -/
theorem Move.forall_trucks {P : Truck → Prop} (hmove : ∀ {A s k k'}, TruckMove A s k k' → P k → P k')
    (hfresh : ∀ n, P (Truck.fresh n)) {s t : State} (h : Move A s t) (hasc : ascending Truck.num s.trucks)
    (hs : ∀ k ∈ s.trucks, P k) : ∀ k ∈ t.trucks, P k := by
  cases h with
  | frame h => exact (h .trucks (by decide)) ▸ hs
  | truck n f _ h =>
    intro k hk
    obtain ⟨x, hx, rfl⟩ := List.mem_map.mp hk
    split
    · rename_i hn
      exact hmove (h x (hn ▸ findBy_of_mem (ascending_nodup hasc) hx)) (hs x hx)
    · exact hs x hx
  | enroll n =>
    intro k hk
    obtain rfl | hk := mem_insertBy.mp hk
    · exact hfresh n
    · exact hs k hk
  | remove n => exact fun k hk => hs k (List.mem_of_mem_filter hk)
  | loadPermit p => exact (withPermit_keeps s p .trucks (by decide)) ▸ hs
  | retirePermit p => exact (withoutPermit_keeps s p .trucks (by decide)) ▸ hs
  | clear => simp
  | _ => exact hs

theorem slotsOk_fresh (n : Nat) : (Truck.fresh n).SlotsOk := by
  simp [Truck.SlotsOk, Truck.fresh, reachFits]

theorem queueOk_fresh (n : Nat) : (Truck.fresh n).QueueOk := by
  refine ⟨⟨?_, ?_, ?_, ?_, ?_⟩, ?_⟩ <;> simp [Truck.fresh]

theorem deadlineFits_fresh (n : Nat) : deadlineFits (Truck.fresh n).w1 ∧ deadlineFits (Truck.fresh n).w2 :=
  ⟨not_deadlineFits_of_idle (by simp [Truck.fresh, Watch.fresh]),
    not_deadlineFits_of_idle (by simp [Truck.fresh, Watch.fresh])⟩

/-- Where the tables are well formed, a step keeps what each move keeps besides them. -/
theorem step_keeps_with {Q P : State → Prop} (hQmove : ∀ {A s t}, Move A s t → Q s → Q t)
    (hmove : ∀ {A s t}, Move A s t → Q s → P s → P t)
    (hreset : ∀ s, Q (cold s) ∧ P (cold s)) {s t : State} (h : step s = .next t) (hQ : Q s) (hs : P s) : P t :=
  (step_keeps (P := fun u => Q u ∧ P u) (fun hm hu => ⟨hQmove hm hu.1, hmove hm hu.1 hu.2⟩) hreset h ⟨hQ, hs⟩).2

theorem queuesInv_iff (s : State) : QueuesInv s ↔ ∀ k ∈ s.trucks, k.QueueOk := Iff.rfl

theorem triedInv_iff (s : State) : TriedInv s ↔ ∀ o ∈ s.orders, o.TriedOk := Iff.rfl

theorem Move.tried {s t : State} (h : Move A s t) (hasc : ascending Order.num s.orders) (hs : TriedInv s) : TriedInv t := by
  rw [triedInv_iff] at hs ⊢
  cases h with
  | frame h => exact (h .orders (by decide)) ▸ hs
  | order n f _ h =>
    intro k hk
    obtain ⟨x, hx, rfl⟩ := List.mem_map.mp hk
    split
    · rename_i hn
      exact (h x (hn ▸ findBy_of_mem (ascending_nodup hasc) hx)).tried (hs x hx)
    · exact hs x hx
  | postOrder o _ _ ho =>
    intro k hk
    obtain rfl | hk := mem_insertBy.mp hk
    · exact ho
    · exact hs k hk
  | retireOrder n => exact fun k hk => hs k (List.mem_of_mem_filter hk)
  | loadPermit p => exact (withPermit_keeps s p .orders (by decide)) ▸ hs
  | retirePermit p => exact (withoutPermit_keeps s p .orders (by decide)) ▸ hs
  | clear => simp
  | _ => exact hs

theorem Move.deadline {s t : State} (h : Move A s t) (hs : DeadlineInv s) (htables : ascending Truck.num t.trucks) :
    DeadlineInv t :=
  ⟨htables, h.forall_trucks (P := fun k => deadlineFits k.w1 ∧ deadlineFits k.w2)
    (fun hm hk => ⟨hm.fits1 hk.1, hm.fits2 hk.2⟩) deadlineFits_fresh hs.trucks hs.fits⟩

theorem no_trucks_cold {P : Truck → Prop} (s : State) : ∀ k ∈ (cold s).trucks, P k :=
  fun _ h => absurd h List.not_mem_nil

/-- Settles O53: every move keeps the tables, and the cold reset empties them. -/
theorem stepKeepsTables : Obligations.StepKeepsTables := fun _ _ hs h =>
  step_keeps Move.tables tablesInv_cold h hs

/-- Settles O54: each rule is one of single records, kept by every move of such a record. -/
theorem stepKeepsTruckRecords : Obligations.StepKeepsTruckRecords := by
  intro s t htables h
  refine ⟨fun hs => ?_, fun hs => ?_, fun hs => ?_⟩
  · exact step_keeps_with (P := SlotsInv) Move.tables
      (fun hm htab => hm.forall_trucks (fun hk => hk.slots) slotsOk_fresh htab.trucks)
      (fun u => ⟨tablesInv_cold u, no_trucks_cold u⟩) h htables hs
  · exact step_keeps_with (P := TriedInv) Move.tables (fun hm htab => hm.tried htab.orders)
      (fun u => ⟨tablesInv_cold u, fun _ ho => absurd ho List.not_mem_nil⟩) h htables hs
  · exact step_keeps_with (P := DeadlineInv) Move.tables (fun hm htab hu => hm.deadline hu (hm.tables htab).trucks)
      (fun u => ⟨tablesInv_cold u, List.Pairwise.nil, no_trucks_cold u⟩) h htables hs

/-- Settles O55: every move of a truck's record keeps its queue well formed. -/
theorem stepKeepsQueues : Obligations.StepKeepsQueues := fun _ _ htables hs h =>
  step_keeps_with (P := QueuesInv) Move.tables
    (fun hm htab => hm.forall_trucks (fun hk => hk.queue) queueOk_fresh htab.trucks)
    (fun u => ⟨tablesInv_cold u, no_trucks_cold u⟩) h htables hs

end Sys2Proof.Machine

/-!
PROOFS. What a step may do to a record that stands before and after it: permits, trucks, points and the console (R4, R39,
R56 to R58, R69, R78, R83, R84, R88, R171, R175, R176).
-/
namespace Sys2Proof.Machine

variable {A : Right → Prop}

/-! ## One record before and after -/

/-- What became of the record under one number: it stands before and after and is in relation `R`, is new, is gone, or
never stood. -/
def Onward {α : Type} (R : α → α → Prop) (new gone : Prop) : Option α → Option α → Prop
  | some a, some b => R a b
  | some _, none => gone
  | none, some _ => new
  | none, none => True

section
variable {α : Type} {R : α → α → Prop} {new gone : Prop}

theorem Onward.refl (hR : ∀ a, R a a) (x : Option α) : Onward R new gone x x := by
  cases x with
  | none => trivial
  | some a => exact hR a

theorem Onward.trans (hR : ∀ a b c, R a b → R b c → R a c) (hexcl : new → gone → False) {x y z : Option α}
    (h1 : Onward R new gone x y) (h2 : Onward R new gone y z) : Onward R new gone x z := by
  cases x <;> cases y <;> cases z
  case some.some.some => exact hR _ _ _ h1 h2
  case some.none.some => exact (hexcl h2 h1).elim
  case none.some.none => trivial
  all_goals first | exact h1 | exact h2

theorem Onward.map {x : Option α} {f : α → α} (h : ∀ a, x = some a → R a (f a)) : Onward R new gone x (x.map f) := by
  cases x with
  | none => trivial
  | some a => exact h a rfl

theorem Onward.of_eq (hR : ∀ a, R a a) {x y : Option α} (h : y = x) : Onward R new gone x y :=
  h.symm ▸ .refl hR x

theorem Onward.none_right (h : gone) (x : Option α) : Onward R new gone x none := by
  cases x with
  | none => trivial
  | some _ => exact h

end

theorem findBy_map {α : Type} {key : α → Nat} (f : α → α) (hf : ∀ x, key (f x) = key x) (n : Nat) (l : List α) :
    findBy key n (l.map f) = (findBy key n l).map f := by
  unfold findBy
  rw [List.find?_map]
  congr 2
  funext x
  simp [hf]

/-! ## Permits (R69, R78, R84) -/

/-- A permit later: no less far, final where it was ended, its latched causes kept while it is open. -/
structure PermitOnward (A : Right → Prop) (p q : Permit) : Prop where
  num : q.num = p.num
  rank : p.state.rank ≤ q.state.rank
  final : p.state.isOpen = false → q.state = p.state
  latched : A (.resume p.num) ∨ (q.state.isOpen = true → LatchedKept p.causes q.causes)

theorem PermitOnward.refl (p : Permit) : PermitOnward A p p := ⟨rfl, le_rfl, fun _ => rfl, .inr fun _ => .refl _⟩

theorem LatchedKept.trans {a b c : Causes} (h1 : LatchedKept a b) (h2 : LatchedKept b c) : LatchedKept a c := by
  obtain ⟨w1, w2, w3, w4⟩ := h1
  obtain ⟨v1, v2, v3, v4⟩ := h2
  exact ⟨v1 ∘ w1, v2 ∘ w2, v3 ∘ w3, v4 ∘ w4⟩

theorem PermitOnward.trans {p q r : Permit} (h1 : PermitOnward A p q) (h2 : PermitOnward A q r) : PermitOnward A p r := by
  refine ⟨h2.num.trans h1.num, h1.rank.trans h2.rank, fun hp => ?_, ?_⟩
  · have hq := h1.final hp
    exact (h2.final (hq ▸ hp)).trans hq
  · obtain h | hkept := h1.latched
    · exact .inl h
    · obtain h | hkept' := h2.latched
      · exact .inl (h1.num ▸ h)
      · refine .inr fun hr => ?_
        have hq : q.state.isOpen = true := by
          by_contra hclosed
          rw [h2.final (by simpa using hclosed)] at hr
          exact hclosed hr
        exact (hkept hq).trans (hkept' hr)

theorem PermitMove.onward {p q : Permit} (h : PermitMove A p q) : PermitOnward A p q := ⟨h.num, h.rank, h.final, h.latched⟩

theorem permitOf_withPermit (s : State) {p : Permit} (h : permitOf s p.num = none) (n : Nat) :
    permitOf (withPermit s p) n = if n = p.num then some p else permitOf s n := by
  unfold permitOf
  rw [withPermit_permits]
  exact findBy_insertBy p n s.permits h

theorem permitOf_withoutPermit (s : State) (p : Permit) (n : Nat) :
    permitOf (withoutPermit s p) n = if n = p.num then none else permitOf s n := by
  unfold permitOf
  rw [withoutPermit_permits]
  exact findBy_eraseBy p.num n s.permits

theorem Move.permit_onward {s t : State} (h : Move A s t) (n : Nat) :
    Onward (PermitOnward A) (A .load) (A .retire ∨ A .clear) (permitOf s n) (permitOf t n) := by
  cases h with
  | frame h => exact .of_eq PermitOnward.refl (congrFun (permitOf_of_keeps h) n)
  | permit m f hnum h =>
    rw [permitOf_modPermit s m n f hnum]
    refine .map fun p hp => ?_
    split
    · rename_i hn
      exact (h p (hn ▸ hp)).onward
    · exact .refl p
  | loadPermit p hload hnew =>
    rw [permitOf_withPermit s hnew]
    split
    · rename_i hn
      rw [hn, hnew]
      exact hload
    · exact .refl PermitOnward.refl _
  | retirePermit p hretire =>
    rw [permitOf_withoutPermit]
    split
    · exact .none_right (.inl hretire) _
    · exact .refl PermitOnward.refl _
  | clear hclear => exact .none_right (.inr hclear) _
  | _ => exact .of_eq PermitOnward.refl rfl

theorem Path.permit_onward {s t : State} (h : Path A s t) (hexcl : A .load → A .retire ∨ A .clear → False) (n : Nat) :
    Onward (PermitOnward A) (A .load) (A .retire ∨ A .clear) (permitOf s n) (permitOf t n) :=
  Path.relates (R := fun u v => Onward _ _ _ (permitOf u n) (permitOf v n)) (fun _ => .refl PermitOnward.refl _)
    (fun h1 h2 => h1.trans (R := PermitOnward A) (fun _ _ _ => .trans) hexcl h2) (fun hm => hm.permit_onward n) h

theorem load_excludes (c : Instr) : mayUse c .load → mayUse c .retire ∨ mayUse c .clear → False := by
  rintro ⟨_, _, _, _, _, _, rfl⟩ (⟨_, _, h⟩ | h)
  · exact Instr.noConfusion h
  · exact Instr.noConfusion h

theorem mem_of_permitOf {s : State} {n : Nat} {p : Permit} (h : permitOf s n = some p) : p ∈ s.permits ∧ p.num = n :=
  ⟨(findBy_some h).2, (findBy_some h).1⟩

/-- The record of a step's outcome is onward from that before it. -/
theorem step_permit_onward {s t : State} (h : step s = .next t) {n : Nat} {p q : Permit} (hp : permitOf s n = some p)
    (hq : permitOf t n = some q) : ∃ A, PermitOnward A p q ∧ (A (.resume n) → ∃ tag, s.pending.head? = some (.resumePermit tag n)) := by
  obtain ⟨l, -, rfl⟩ | ⟨c, l, hl, -, -, hpath⟩ | ⟨-, rfl⟩ := step_cases h
  · exact absurd hq (by rw [show permitOf (cold { s with pending := l }) n = none from rfl]; simp)
  · have honward := hpath.permit_onward (load_excludes c) n
    rw [hq, show permitOf { s with pending := l } n = some p from hp] at honward
    refine ⟨mayUse c, honward, fun ⟨tag, hc⟩ => ⟨tag, ?_⟩⟩
    rw [hl, hc]
    rfl
  · rw [permitOf_of_keeps (idle_keeps s), hp] at hq
    obtain rfl := Option.some.inj hq
    exact ⟨fun _ => False, .refl p, False.elim⟩

/-! ### Causes (R78, R83) -/

theorem causesInv_iff (s : State) : CausesInv s ↔ ascending Permit.num s.permits ∧ ∀ p ∈ s.permits, p.CausesOk :=
  ⟨fun h => ⟨h.permits, fun p hp => ⟨h.ended p hp, h.early p hp⟩⟩,
    fun h => ⟨h.1, fun p hp => (h.2 p hp).1, fun p hp => (h.2 p hp).2⟩⟩

theorem Move.permits_ascending {s t : State} (h : Move A s t) (hs : ascending Permit.num s.permits) :
    ascending Permit.num t.permits := by
  cases h with
  | frame h => exact (h .permits (by decide)) ▸ hs
  | permit n f hnum _ => exact changeBy_ascending hs hnum
  | loadPermit p _ hnew => exact (withPermit_permits s p) ▸ insertBy_ascending p s.permits hs hnew
  | retirePermit p => exact (withoutPermit_permits s p) ▸ eraseBy_ascending p.num s.permits hs
  | clear => exact List.Pairwise.nil
  | _ => exact hs

/-- A predicate of single permits that every move of one keeps and a loaded permit meets stays one of all. -/
theorem Move.forall_permits {P : Permit → Prop} (hmove : ∀ {A p q}, PermitMove A p q → P p → P q)
    (hload : ∀ p : Permit, p.CausesOk → P p) {s t : State} (h : Move A s t) (hasc : ascending Permit.num s.permits)
    (hs : ∀ p ∈ s.permits, P p) : ∀ p ∈ t.permits, P p := by
  cases h with
  | frame h => exact (h .permits (by decide)) ▸ hs
  | permit n f _ h =>
    intro p hp
    obtain ⟨x, hx, rfl⟩ := List.mem_map.mp hp
    split
    · rename_i hn
      exact hmove (h x (hn ▸ findBy_of_mem (ascending_nodup hasc) hx)) (hs x hx)
    · exact hs x hx
  | loadPermit p _ _ _ _ hp =>
    intro q hq
    rw [withPermit_permits] at hq
    obtain rfl | hq := mem_insertBy.mp hq
    · exact hload q hp
    · exact hs q hq
  | retirePermit p =>
    intro q hq
    rw [withoutPermit_permits] at hq
    exact hs q (List.mem_of_mem_filter hq)
  | clear => simp
  | _ => exact hs

theorem Move.causes {s t : State} (h : Move A s t) (hs : CausesInv s) : CausesInv t := by
  rw [causesInv_iff] at hs ⊢
  exact ⟨h.permits_ascending hs.1, h.forall_permits (fun hm hp => hm.causes hp) (fun _ hp => hp) hs.1 hs.2⟩

theorem causesInv_cold (s : State) : CausesInv (cold s) :=
  ⟨List.Pairwise.nil, fun _ h => absurd h List.not_mem_nil, fun _ h => absurd h List.not_mem_nil⟩

/-- Settles O59: every move keeps the rule of causes, and moves a permit onward. -/
theorem permitsOnlyMoveForward : Obligations.PermitsOnlyMoveForward := by
  refine ⟨fun s t hs h => step_keeps Move.causes causesInv_cold h hs, fun s t n p q h hp hq => ?_⟩
  obtain ⟨A, honward, hresume⟩ := step_permit_onward h hp hq
  have hnum := (mem_of_permitOf hp).2
  refine ⟨honward.rank, fun hended => honward.final ?_, fun hnone hopen => ?_⟩
  · obtain e | e := hended <;> rw [e] <;> rfl
  · refine honward.latched.resolve_left (fun hr => ?_) hopen
    obtain ⟨tag, htag⟩ := hresume (hnum ▸ hr)
    exact hnone tag htag

/-! ## Trucks (R4, R39, R56 to R58) -/

/-- A truck later: its open alarms stand but for what ends one, and once heard it stays so. -/
structure TruckOnward (A : Right → Prop) (k k' : Truck) : Prop where
  num : k'.num = k.num
  alarm1 : AlarmMove A k.num 1 k.w1 k'.w1
  alarm2 : AlarmMove A k.num 2 k.w2 k'.w2
  heard : k.reach ≠ .absent → k'.reach ≠ .absent

theorem TruckOnward.refl (k : Truck) : TruckOnward A k k := ⟨rfl, .refl _ _ _, .refl _ _ _, id⟩

theorem AlarmMove.trans {n seat : Nat} {w w' w'' : Watch} (h1 : AlarmMove A n seat w w') (h2 : AlarmMove A n seat w' w'') :
    AlarmMove A n seat w w'' := fun h => by
  obtain ⟨halarm, hset⟩ | hclose | hrecover := h1 h
  · obtain ⟨halarm', hset'⟩ | hclose | ⟨hlatch, hrecover⟩ := h2 halarm
    · exact .inl ⟨halarm', hset'.trans hset⟩
    · exact .inr (.inl hclose)
    · exact .inr (.inr ⟨hset ▸ hlatch, hrecover⟩)
  · exact .inr (.inl hclose)
  · exact .inr (.inr hrecover)

theorem TruckOnward.trans {k k' k'' : Truck} (h1 : TruckOnward A k k') (h2 : TruckOnward A k' k'') : TruckOnward A k k'' :=
  ⟨h2.num.trans h1.num, h1.alarm1.trans (h1.num ▸ h2.alarm1), h1.alarm2.trans (h1.num ▸ h2.alarm2), h2.heard ∘ h1.heard⟩

theorem truckOf_enrolled {s : State} {m : Nat} (h : truckOf s m = none) (n : Nat) :
    truckOf { s with trucks := insertBy Truck.num (Truck.fresh m) s.trucks } n =
      if n = m then some (Truck.fresh m) else truckOf s n := findBy_insertBy (Truck.fresh m) n s.trucks h

theorem truckOf_removed (s : State) (m n : Nat) :
    truckOf { s with trucks := eraseBy Truck.num m s.trucks } n = if n = m then none else truckOf s n :=
  findBy_eraseBy m n s.trucks

theorem pointOf_erased (s : State) (m n : Nat) :
    pointOf { s with points := eraseBy Point.num m s.points } n = if n = m then none else pointOf s n :=
  findBy_eraseBy m n s.points

theorem Move.truck_onward {s t : State} (h : Move A s t) (n : Nat) :
    Onward (TruckOnward A) (A .enroll) (A .remove ∨ A .clear) (truckOf s n) (truckOf t n) := by
  cases h with
  | frame h => exact .of_eq TruckOnward.refl (truckOf_of_keeps h n)
  | truck m f hnum h =>
    rw [truckOf_modTruck s m n f hnum]
    refine .map fun k hk => ?_
    split
    · rename_i hn
      have hm := h k (hn ▸ hk)
      exact ⟨hm.num, hm.alarm1, hm.alarm2, hm.heard⟩
    · exact .refl k
  | enroll m hA _ _ hnew =>
    rw [truckOf_enrolled hnew]
    split
    · rename_i hn
      rw [hn, show truckOf s m = none from hnew]
      exact hA
    · exact .refl TruckOnward.refl _
  | remove m hA =>
    rw [truckOf_removed]
    split
    · exact .none_right (.inl hA) _
    · exact .refl TruckOnward.refl _
  | loadPermit p => exact .of_eq TruckOnward.refl (truckOf_of_keeps (withPermit_keeps s p) n)
  | retirePermit p => exact .of_eq TruckOnward.refl (truckOf_of_keeps (withoutPermit_keeps s p) n)
  | clear hclear => exact .none_right (.inr hclear) _
  | _ => exact .of_eq TruckOnward.refl rfl

theorem Path.truck_onward {s t : State} (h : Path A s t) (hexcl : A .enroll → A .remove ∨ A .clear → False) (n : Nat) :
    Onward (TruckOnward A) (A .enroll) (A .remove ∨ A .clear) (truckOf s n) (truckOf t n) :=
  Path.relates (R := fun u v => Onward _ _ _ (truckOf u n) (truckOf v n)) (fun _ => .refl TruckOnward.refl _)
    (fun h1 h2 => h1.trans (R := TruckOnward A) (fun _ _ _ => .trans) hexcl h2) (fun hm => hm.truck_onward n) h

theorem enroll_excludes (c : Instr) : mayUse c .enroll → mayUse c .remove ∨ mayUse c .clear → False := by
  rintro ⟨_, _, rfl⟩ (⟨_, _, h⟩ | h)
  · exact Instr.noConfusion h
  · exact Instr.noConfusion h

/-! ## Points (R88) -/

/-- A point later: its position moves under the right alone. -/
structure PointOnward (A : Right → Prop) (q q' : Point) : Prop where
  num : q'.num = q.num
  position : q'.position = q.position ∨ A (.movePoint q.num)

theorem PointOnward.refl (q : Point) : PointOnward A q q := ⟨rfl, .inl rfl⟩

theorem PointOnward.trans {q q' q'' : Point} (h1 : PointOnward A q q') (h2 : PointOnward A q' q'') : PointOnward A q q'' := by
  refine ⟨h2.num.trans h1.num, ?_⟩
  obtain e | hA := h1.position
  · obtain e' | hA := h2.position
    · exact .inl (e'.trans e)
    · exact .inr (h1.num ▸ hA)
  · exact .inr hA

/-- References may add a point; they leave the positions of those that stand. -/
theorem addRef_onward (s : State) (n m : Nat) : Onward (PointOnward A) True False (pointOf s m) (pointOf (addRef s n) m) := by
  rw [pointOf_addRef]
  split
  · rename_i hm
    rw [hm]
    cases hn : pointOf s n with
    | none => trivial
    | some q => exact PointOnward.mk rfl (.inl rfl)
  · exact .refl PointOnward.refl _

theorem eachOf_addRef_onward (l : List Nat) (s : State) (m : Nat) :
    Onward (PointOnward A) True False (pointOf s m) (pointOf (eachOf addRef l s) m) := by
  induction l generalizing s with
  | nil => exact .refl PointOnward.refl _
  | cons n l ih => exact (addRef_onward s n m).trans (R := PointOnward A) (fun _ _ _ => .trans) (fun _ h => h) (ih (addRef s n))

theorem dropRef_onward (s : State) (n m : Nat) :
    Onward (PointOnward A) False True (pointOf s m) (pointOf (dropRef s n) m) := by
  unfold dropRef
  split
  · split
    · rw [pointOf_erased]
      split
      · exact .none_right trivial _
      · exact .refl PointOnward.refl _
    · rw [pointOf_modPoint s n m (fun q => { q with refCount := q.refCount - 1 }) fun _ h => h]
      refine .map fun q _ => ?_
      split
      · exact ⟨rfl, .inl rfl⟩
      · exact .refl q
  · exact .refl PointOnward.refl _

theorem eachOf_dropRef_onward (l : List Nat) (s : State) (m : Nat) :
    Onward (PointOnward A) False True (pointOf s m) (pointOf (eachOf dropRef l s) m) := by
  induction l generalizing s with
  | nil => exact .refl PointOnward.refl _
  | cons n l ih => exact (dropRef_onward s n m).trans (R := PointOnward A) (fun _ _ _ => .trans) (fun h _ => h) (ih (dropRef s n))

theorem Onward.imp {α : Type} {R : α → α → Prop} {new gone new' gone' : Prop} (hnew : new → new') (hgone : gone → gone')
    {x y : Option α} (h : Onward R new gone x y) : Onward R new' gone' x y := by
  cases x <;> cases y
  case some.none => exact hgone h
  case none.some => exact hnew h
  all_goals exact h

theorem Move.point_onward {s t : State} (h : Move A s t) (n : Nat) :
    Onward (PointOnward A) (A .load) (A .retire ∨ A .clear) (pointOf s n) (pointOf t n) := by
  cases h with
  | frame h => exact .of_eq PointOnward.refl (pointOf_of_keeps h n)
  | point m f hnum h =>
    rw [pointOf_modPoint s m n f hnum]
    refine .map fun q hq => ?_
    split
    · rename_i hn
      have hm := h q (hn ▸ hq)
      exact ⟨hm.num, hm.position⟩
    · exact .refl q
  | points f h =>
    rw [show pointOf { s with points := s.points.map f } n = (pointOf s n).map f from
      findBy_map f (fun q => (h q).num) n s.points]
    exact .map fun q _ => ⟨(h q).num, (h q).position⟩
  | loadPermit p hA =>
    have hadded := eachOf_addRef_onward (A := A) p.points { s with permits := insertBy Permit.num p s.permits } n
    exact hadded.imp (fun _ => hA) False.elim
  | retirePermit p hA => exact (eachOf_dropRef_onward p.points s n).imp False.elim fun _ => .inl hA
  | clear hclear => exact .none_right (.inr hclear) _
  | _ => exact .of_eq PointOnward.refl rfl

theorem Path.point_onward {s t : State} (h : Path A s t) (hexcl : A .load → A .retire ∨ A .clear → False) (n : Nat) :
    Onward (PointOnward A) (A .load) (A .retire ∨ A .clear) (pointOf s n) (pointOf t n) :=
  Path.relates (R := fun u v => Onward _ _ _ (pointOf u n) (pointOf v n)) (fun _ => .refl PointOnward.refl _)
    (fun h1 h2 => h1.trans (R := PointOnward A) (fun _ _ _ => .trans) hexcl h2) (fun hm => hm.point_onward n) h

/-! ## The console (R171, R175, R176) -/

/-- The console later: ATTENDED and UNATTENDED by right alone. -/
def ConsoleOnward (A : Right → Prop) (x y : ConsoleState) : Prop :=
  (x = .unattended → y = .attended → A .attend) ∧ (x = .attended → y = .unattended → A .leave ∨ A .clear)

theorem ConsoleOnward.refl (x : ConsoleState) : ConsoleOnward A x x := by
  cases x <;> exact ⟨by simp, by simp⟩

theorem ConsoleOnward.trans {x y z : ConsoleState} (h1 : ConsoleOnward A x y) (h2 : ConsoleOnward A y z) : ConsoleOnward A x z := by
  cases y with
  | attended => exact ⟨fun hx _ => h1.1 hx rfl, fun _ hz => h2.2 rfl hz⟩
  | unattended => exact ⟨fun _ hz => h2.1 rfl hz, fun hx _ => h1.2 hx rfl⟩

theorem Move.console_onward {s t : State} (h : Move A s t) : ConsoleOnward A s.sup.console t.sup.console := by
  cases h with
  | frame h => exact (h .sup (by decide)) ▸ .refl _
  | sup x hx => exact hx.symm ▸ .refl _
  | attend hA => exact ⟨fun _ _ => hA, fun _ h => by simp at h⟩
  | leave hA => exact ⟨fun _ h => by simp at h, fun _ _ => .inl hA⟩
  | clear hA => exact ⟨fun _ h => by simp at h, fun _ _ => .inr hA⟩
  | loadPermit p => exact (withPermit_keeps s p .sup (by decide)) ▸ .refl _
  | retirePermit p => exact (withoutPermit_keeps s p .sup (by decide)) ▸ .refl _
  | _ => exact .refl _

theorem Path.console_onward {s t : State} (h : Path A s t) : ConsoleOnward A s.sup.console t.sup.console :=
  Path.relates (R := fun u v => ConsoleOnward A u.sup.console v.sup.console) (fun _ => .refl _)
    (fun h1 h2 => h1.trans h2) (fun hm => hm.console_onward) h

/-! ## What only some commands do -/

/-- What a step makes of trucks, points and console, with the command at the front of the queue. -/
theorem step_onward {s t : State} (h : step s = .next t) : s.pending.head? = some .coldReset ∧ t.trucks = [] ∧ t.points = [] ∧
      t.sup.console = .unattended ∨
    ∃ A, (∀ x, A x → ∃ c, s.pending.head? = some c ∧ mayUse c x) ∧
      (∀ n, Onward (TruckOnward A) (A .enroll) (A .remove ∨ A .clear) (truckOf s n) (truckOf t n)) ∧
      (∀ n, Onward (PointOnward A) (A .load) (A .retire ∨ A .clear) (pointOf s n) (pointOf t n)) ∧
      ConsoleOnward A s.sup.console t.sup.console := by
  obtain ⟨l, hl, rfl⟩ | ⟨c, l, hl, -, -, hpath⟩ | ⟨-, rfl⟩ := step_cases h
  · exact .inl ⟨by rw [hl]; rfl, rfl, rfl, rfl⟩
  · exact .inr ⟨mayUse c, fun x hx => ⟨c, by rw [hl]; rfl, hx⟩, hpath.truck_onward (enroll_excludes c),
      hpath.point_onward (load_excludes c), hpath.console_onward⟩
  · have hkeeps := idle_keeps s
    refine .inr ⟨fun _ => False, fun _ h => h.elim, fun n => .of_eq TruckOnward.refl (truckOf_of_keeps hkeeps n),
      fun n => .of_eq PointOnward.refl (pointOf_of_keeps hkeeps n), ?_⟩
    rw [hkeeps .sup (by decide)]
    exact .refl _

theorem seat_alarm {k k' : Truck} (h : TruckOnward A k k') {seat : Nat} (hseat : seat = 1 ∨ seat = 2) :
    AlarmMove A k.num seat (k.watch seat) (k'.watch seat) := by
  obtain rfl | rfl := hseat
  · exact h.alarm1
  · exact h.alarm2

/-- Settles O60: what each of these changes needs a right for, and which command at the front of the queue has it. -/
theorem onlyTheseCommandsMayChange : Obligations.OnlyTheseCommandsMayChange := by
  intro s t h
  obtain ⟨hcold, htrucks, hpoints, hconsole⟩ | ⟨A, hright, htruck, hpoint, hconsole⟩ := step_onward h
  · have hnotruck : ∀ n, truckOf t n = none := fun n => by simp [truckOf, htrucks]
    have hnopoint : ∀ n, pointOf t n = none := fun n => by simp [pointOf, hpoints]
    refine ⟨fun n k k' seat _ _ hk' => ?_, fun n q q' _ hq' => ?_, fun _ hatt => ?_, fun _ _ => .inr (.inl hcold),
      fun n k k' _ hk' => ?_⟩
    · simp [hnotruck] at hk'
    · simp [hnopoint] at hq'
    · simp [hconsole] at hatt
    · simp [hnotruck] at hk'
  · refine ⟨fun n k k' seat hseat hk hk' halarm hended => ?_, fun n q q' hq hq' hmoved => ?_, fun hun hatt => ?_,
      fun hatt hun => ?_, fun n k k' hk hk' hheard => ?_⟩
    · have honward := htruck n
      rw [hk, hk'] at honward
      have hnum : k.num = n := (findBy_some hk).1
      obtain ⟨hstill, -⟩ | hclose | ⟨hlatch, hrecover⟩ := seat_alarm honward hseat halarm
      · exact absurd hstill hended
      · obtain ⟨c, hc, tag, seat0, rfl, hclamp⟩ := hright _ hclose
        exact .inl ⟨tag, seat0, hnum ▸ hc, hclamp⟩
      · obtain ⟨c, hc, hdr, hn, hframe⟩ := hright _ hrecover
        refine .inr ⟨hlatch, hdr, hn.trans hnum, ?_⟩
        obtain ⟨acks, items, rfl⟩ | ⟨item, rfl⟩ := hframe
        · exact .inl ⟨acks, items, hc⟩
        · exact .inr ⟨item, hc⟩
    · have honward := hpoint n
      rw [hq, hq'] at honward
      have hnum : q.num = n := (findBy_some hq).1
      obtain ⟨c, hc, ⟨tag, x, rfl⟩ | ⟨m, hdr, -, ⟨acks, items, rfl⟩ | ⟨item, rfl⟩⟩⟩ :=
        hright _ (honward.position.resolve_left hmoved)
      · exact .inl ⟨tag, x, hnum ▸ hc⟩
      · exact .inr (.inl ⟨hdr, acks, items, hc⟩)
      · exact .inr (.inr ⟨hdr, item, hc⟩)
    · obtain ⟨c, hc, tag, rfl⟩ := hright _ (hconsole.1 hun hatt)
      exact ⟨tag, hc⟩
    · obtain hleave | hclear := hconsole.2 hatt hun
      · obtain ⟨c, hc, rfl⟩ := hright _ hleave
        exact .inl hc
      · obtain ⟨c, hc, rfl⟩ := hright _ hclear
        exact .inr (.inr hc)
    · have honward := htruck n
      rw [hk, hk'] at honward
      exact honward.heard hheard

end Sys2Proof.Machine

/-!
PROOFS. The points: their reference counts and their holds are kept by every move, so by every step (R68, R86, R88, R89).
-/
namespace Sys2Proof.Machine

variable {A : Right → Prop}

/-! ## Tables as lists -/

theorem insertBy_perm {α : Type} (key : α → Nat) (r : α) (l : List α) : (insertBy key r l).Perm (r :: l) := by
  induction l with
  | nil => exact .refl _
  | cons x l ih =>
    unfold insertBy
    split
    · exact .refl _
    · exact (ih.cons x).trans (.swap r x l)

/-- A table of distinct keys is the record with a key and what is left without it. -/
theorem cons_eraseBy_perm {α : Type} {key : α → Nat} {l : List α} {r : α} (hl : (l.map key).Nodup) (hr : r ∈ l) :
    l.Perm (r :: eraseBy key (key r) l) := by
  induction l with
  | nil => exact absurd hr List.not_mem_nil
  | cons x l ih =>
    simp only [List.map_cons, List.nodup_cons, List.mem_map, not_exists, not_and] at hl
    obtain rfl | hr := List.mem_cons.mp hr
    · have hrest : eraseBy key (key r) l = l := List.filter_eq_self.mpr fun y hy => by simpa using hl.1 y hy
      have hdrop : eraseBy key (key r) (r :: l) = eraseBy key (key r) l := by simp [eraseBy]
      rw [hdrop, hrest]
    · have hne : key x ≠ key r := fun e => hl.1 r hr e.symm
      have hkeep : eraseBy key (key r) (x :: l) = x :: eraseBy key (key r) l := by simp [eraseBy, hne]
      rw [hkeep]
      exact ((ih hl.2 hr).cons x).trans (.swap r x _)

theorem mem_points_iff {s : State} (h : ascending Point.num s.points) (q : Point) :
    q ∈ s.points ↔ pointOf s q.num = some q :=
  ⟨fun hq => findBy_of_mem (ascending_nodup h) hq, fun hq => (findBy_some hq).2⟩

/-- What holds of every point of a table in order holds of every point found, and the other way round. -/
theorem forall_points_iff {s : State} (h : ascending Point.num s.points) {P : Point → Prop} :
    (∀ q ∈ s.points, P q) ↔ ∀ n q, pointOf s n = some q → P q :=
  ⟨fun hP _ _ hq => hP _ (findBy_some hq).2, fun hP q hq => hP q.num q ((mem_points_iff h q).mp hq)⟩

/-! ## The references of one permit -/

/-- A point with one reference more; a new one where the table has none (R68). -/
def withRef (n : Nat) (x : Option Point) : Point :=
  { x.getD (Point.fresh n) with refCount := (x.getD (Point.fresh n)).refCount + 1 }

/-- A point with one reference less; none at none (R86). -/
def withoutRef (x : Option Point) : Option Point :=
  x.bind fun q => if q.refCount ≤ 1 then none else some { q with refCount := q.refCount - 1 }

theorem pointOf_eachOf_addRef {l : List Nat} (hl : l.Nodup) (s : State) (m : Nat) :
    pointOf (eachOf addRef l s) m = if m ∈ l then some (withRef m (pointOf s m)) else pointOf s m := by
  induction l generalizing s with
  | nil => simp [eachOf]
  | cons n l ih =>
    obtain ⟨hn, hl⟩ := List.nodup_cons.mp hl
    have hstep : eachOf addRef (n :: l) s = eachOf addRef l (addRef s n) := rfl
    rw [hstep, ih hl, pointOf_addRef]
    by_cases hm : m = n
    · subst hm
      simp [hn, withRef]
    · simp [hm]

theorem pointOf_dropRef (s : State) (n m : Nat) :
    pointOf (dropRef s n) m = if m = n then withoutRef (pointOf s n) else pointOf s m := by
  unfold dropRef withoutRef
  split
  · rename_i q hq
    rw [hq]
    simp only [Option.bind_some]
    split
    · rw [pointOf_erased]
    · rw [pointOf_modPoint s n m (fun q => { q with refCount := q.refCount - 1 }) fun _ h => h]
      by_cases hm : m = n
      · simp [hm, hq]
      · simp [hm]
  · rename_i hq
    rw [hq]
    by_cases hm : m = n
    · simp [hm, hq]
    · simp [hm]

theorem pointOf_eachOf_dropRef {l : List Nat} (hl : l.Nodup) (s : State) (m : Nat) :
    pointOf (eachOf dropRef l s) m = if m ∈ l then withoutRef (pointOf s m) else pointOf s m := by
  induction l generalizing s with
  | nil => simp [eachOf]
  | cons n l ih =>
    obtain ⟨hn, hl⟩ := List.nodup_cons.mp hl
    have hstep : eachOf dropRef (n :: l) s = eachOf dropRef l (dropRef s n) := rfl
    rw [hstep, ih hl, pointOf_dropRef]
    by_cases hm : m = n
    · subst hm
      simp [hn]
    · simp [hm]

theorem pointOf_withPermit (s : State) (p : Permit) (m : Nat) :
    pointOf (withPermit s p) m = if m ∈ p.points then some (withRef m (pointOf s m)) else pointOf s m :=
  pointOf_eachOf_addRef p.points_nodup { s with permits := insertBy Permit.num p s.permits } m

theorem pointOf_withoutPermit (s : State) (p : Permit) (m : Nat) :
    pointOf (withoutPermit s p) m = if m ∈ p.points then withoutRef (pointOf s m) else pointOf s m :=
  pointOf_eachOf_dropRef p.points_nodup s m

theorem Move.points_ascending {s t : State} (h : Move A s t) (hs : ascending Point.num s.points) :
    ascending Point.num t.points := by
  cases h with
  | frame h => exact (h .points (by decide)) ▸ hs
  | point n f hnum _ => exact changeBy_ascending hs hnum
  | points f h => exact map_ascending hs fun q => (h q).num
  | loadPermit p => exact eachOf_addRef_ascending p.points hs
  | retirePermit p => exact (eachOf_dropRef_points p.points hs).1
  | clear => exact List.Pairwise.nil
  | _ => exact hs

/-! ## Reference counts (R88) -/

/-- How many permits of a list name a point. -/
def naming (n : Nat) (l : List Permit) : Nat := l.countP fun p => p.points.contains n

theorem namers_length (s : State) (n : Nat) : (namers s n).length = naming n s.permits :=
  List.countP_eq_length_filter.symm

theorem naming_insertBy (n : Nat) (p : Permit) (l : List Permit) :
    naming n (insertBy Permit.num p l) = naming n l + if n ∈ p.points then 1 else 0 := by
  unfold naming
  rw [(insertBy_perm Permit.num p l).countP_eq, List.countP_cons]
  simp

theorem naming_eraseBy (n : Nat) {p : Permit} {l : List Permit} (hl : (l.map Permit.num).Nodup) (hp : p ∈ l) :
    naming n l = naming n (eraseBy Permit.num p.num l) + if n ∈ p.points then 1 else 0 := by
  unfold naming
  rw [(cons_eraseBy_perm hl hp).countP_eq, List.countP_cons]
  simp

theorem naming_pos {n : Nat} {l : List Permit} {p : Permit} (hp : p ∈ l) (hn : n ∈ p.points) : 1 ≤ naming n l :=
  List.countP_pos_iff.mpr ⟨p, hp, by simpa using hn⟩

/-- A change of permits that leaves the points they name. -/
theorem naming_map (n : Nat) {f : Permit → Permit} {l : List Permit} (h : ∀ p ∈ l, (f p).points = p.points) :
    naming n (l.map f) = naming n l := by
  unfold naming
  rw [List.countP_map]
  exact List.countP_congr fun p hp => by simp [h p hp]

/-- RefCountInv by number. -/
theorem refCountInv_iff (s : State) : RefCountInv s ↔
    ascending Permit.num s.permits ∧ ascending Point.num s.points ∧
      (∀ n q, pointOf s n = some q → q.refCount = naming n s.permits ∧ 1 ≤ q.refCount) ∧
      ∀ n, 1 ≤ naming n s.permits → (pointOf s n).isSome = true := by
  constructor
  · intro h
    refine ⟨h.permits, h.points, fun n q hq => ?_, fun n hn => ?_⟩
    · have hcount := h.count q (findBy_some hq).2
      rw [namers_length, (findBy_some hq).1] at hcount
      exact hcount
    · obtain ⟨p, hp, hnames⟩ := List.countP_pos_iff.mp hn
      exact h.present p hp n (by simpa using hnames)
  · rintro ⟨hpermits, hpoints, hcount, hpresent⟩
    refine ⟨hpermits, hpoints, fun q hq => ?_, fun p hp n hn => hpresent n (naming_pos hp hn)⟩
    rw [namers_length]
    exact hcount q.num q ((mem_points_iff hpoints q).mp hq)

theorem RefCountInv.congr {s t : State} (h : RefCountInv s) (hpermits : t.permits = s.permits) (hpoints : t.points = s.points) :
    RefCountInv t := by
  rw [refCountInv_iff] at h ⊢
  unfold pointOf at h ⊢
  rw [hpermits, hpoints]
  exact h

/-- A change of points that keeps their numbers and counts. -/
theorem RefCountInv.of_points {s t : State} (h : RefCountInv s) (hpermits : t.permits = s.permits)
    (hpoints : ascending Point.num t.points)
    (hfound : ∀ n, (pointOf t n).map Point.refCount = (pointOf s n).map Point.refCount) : RefCountInv t := by
  rw [refCountInv_iff] at h ⊢
  obtain ⟨hperm, -, hcount, hpresent⟩ := h
  rw [hpermits]
  refine ⟨hperm, hpoints, fun n q hq => ?_, fun n hn => ?_⟩
  · have hmap := hfound n
    rw [hq] at hmap
    obtain ⟨r, hr, he⟩ := Option.map_eq_some_iff.mp hmap.symm
    exact he ▸ hcount n r hr
  · have hmap := congrArg Option.isSome (hfound n)
    rw [Option.isSome_map, Option.isSome_map] at hmap
    exact hmap.trans (hpresent n hn)

theorem RefCountInv.load {s : State} {p : Permit} (h : RefCountInv s) (hnew : permitOf s p.num = none) :
    RefCountInv (withPermit s p) := by
  have hasc := eachOf_addRef_ascending p.points (s := { s with permits := insertBy Permit.num p s.permits }) h.points
  rw [refCountInv_iff] at h ⊢
  obtain ⟨hpermits, hpoints, hcount, hpresent⟩ := h
  rw [withPermit_permits]
  refine ⟨insertBy_ascending p s.permits hpermits hnew, hasc, fun n q hq => ?_, fun n hn => ?_⟩
  · rw [pointOf_withPermit] at hq
    rw [naming_insertBy]
    split at hq
    · obtain rfl := Option.some.inj hq
      rw [if_pos ‹_›]
      refine ⟨?_, Nat.le_add_left 1 _⟩
      cases hold : pointOf s n with
      | some r => exact congrArg (· + 1) (hcount n r hold).1
      | none =>
        have hzero : naming n s.permits = 0 := by
          by_contra hne
          simpa [hold] using hpresent n (by omega)
        simp [hzero, withRef, Point.fresh]
    · rw [if_neg ‹_›]
      exact hcount n q hq
  · rw [pointOf_withPermit]
    split
    · rfl
    · rw [naming_insertBy, if_neg ‹_›] at hn
      exact hpresent n hn

theorem RefCountInv.retire {s : State} {p : Permit} (h : RefCountInv s) (hp : permitOf s p.num = some p) :
    RefCountInv (withoutPermit s p) := by
  have hasc := (eachOf_dropRef_points p.points h.points).1
  rw [refCountInv_iff] at h ⊢
  obtain ⟨hpermits, hpoints, hcount, hpresent⟩ := h
  have hsum := fun n => naming_eraseBy n (ascending_nodup hpermits) (findBy_some hp).2
  rw [withoutPermit_permits]
  refine ⟨eraseBy_ascending p.num s.permits hpermits, hasc, fun n q hq => ?_, fun n hn => ?_⟩
  · have hn := hsum n
    rw [pointOf_withoutPermit] at hq
    split at hq
    · obtain ⟨r, hr, hq⟩ := Option.bind_eq_some_iff.mp hq
      obtain ⟨h1, h2⟩ := hcount n r hr
      split at hq
      · exact absurd hq (by simp)
      · obtain rfl := Option.some.inj hq
        rw [if_pos ‹_›] at hn
        dsimp only
        omega
    · rw [if_neg ‹_›, Nat.add_zero] at hn
      exact hn ▸ hcount n q hq
  · have hn' := hsum n
    rw [pointOf_withoutPermit]
    obtain ⟨r, hr⟩ := Option.isSome_iff_exists.mp (hpresent n (by omega))
    rw [hr]
    split
    · rw [if_pos ‹_›] at hn'
      have hr' := (hcount n r hr).1
      have hmany : ¬r.refCount ≤ 1 := by omega
      simp [withoutRef, hmany]
    · rfl

theorem Move.refCount {s t : State} (h : Move A s t) (hs : RefCountInv s) : RefCountInv t := by
  cases h with
  | frame h => exact hs.congr (h .permits (by decide)) (h .points (by decide))
  | permit n f hnum h =>
    have hasc := hs.permits
    rw [refCountInv_iff] at hs ⊢
    obtain ⟨hpermits, hpoints, hcount, hpresent⟩ := hs
    have hnaming : ∀ m, naming m (modPermit s n f).permits = naming m s.permits := fun m =>
      naming_map m fun p hp => by
        split
        · rename_i hn
          exact (h p (hn ▸ findBy_of_mem (ascending_nodup hasc) hp)).points
        · rfl
    refine ⟨changeBy_ascending hpermits hnum, hpoints, fun m q hq => ?_, fun m hm => ?_⟩
    · rw [hnaming]
      exact hcount m q hq
    · rw [hnaming] at hm
      exact hpresent m hm
  | loadPermit p _ hnew => exact hs.load hnew
  | retirePermit p _ hp => exact hs.retire hp
  | point n f hnum h =>
    refine hs.of_points rfl (changeBy_ascending hs.points hnum) fun m => ?_
    rw [pointOf_modPoint s n m f hnum]
    cases hq : pointOf s m with
    | none => rfl
    | some q =>
      simp only [Option.map_some]
      split
      · rename_i hn
        rw [(h q (hn ▸ hq)).refs]
      · rfl
  | points f h =>
    refine hs.of_points rfl (map_ascending hs.points fun q => (h q).num) fun m => ?_
    have hmap : pointOf { s with points := s.points.map f } m = (pointOf s m).map f :=
      findBy_map f (fun q => (h q).num) m s.points
    rw [hmap, Option.map_map]
    congr 1
    exact funext fun q => (h q).refs
  | clear => exact ⟨List.Pairwise.nil, List.Pairwise.nil, by simp, by simp⟩
  | _ => exact hs.congr rfl rfl

theorem refCountInv_cold (s : State) : RefCountInv (cold s) :=
  ⟨List.Pairwise.nil, List.Pairwise.nil, fun _ h => absurd h List.not_mem_nil, fun _ h => absurd h List.not_mem_nil⟩

/-! ## Holds (R89) -/

/-- HoldsInv by number. -/
theorem holdsInv_iff (s : State) : HoldsInv s ↔
    ascending Point.num s.points ∧ ∀ n q, pointOf s n = some q → q.HoldsOk :=
  ⟨fun h => ⟨h.points, (forall_points_iff h.points).mp h.holds⟩,
    fun h => ⟨h.1, (forall_points_iff h.1).mpr h.2⟩⟩

theorem holdsOk_fresh (n : Nat) : (Point.fresh n).HoldsOk :=
  ⟨Nat.zero_le 4, List.nodup_nil, .unknown, fun _ h => absurd h List.not_mem_nil⟩

theorem Move.holds {s t : State} (h : Move A s t) (hs : HoldsInv s) : HoldsInv t := by
  have hasc := h.points_ascending hs.points
  rw [holdsInv_iff] at hs ⊢
  refine ⟨hasc, ?_⟩
  cases h with
  | frame h =>
    intro n q hq
    exact hs.2 n q (pointOf_of_keeps h n ▸ hq)
  | point n f hnum h =>
    intro m q hq
    rw [pointOf_modPoint s n m f hnum] at hq
    obtain ⟨r, hr, rfl⟩ := Option.map_eq_some_iff.mp hq
    split
    · rename_i hn
      exact (h r (hn ▸ hr)).holds (hs.2 m r hr)
    · exact hs.2 m r hr
  | points f h =>
    intro m q hq
    rw [show pointOf { s with points := s.points.map f } m = (pointOf s m).map f from
      findBy_map f (fun q => (h q).num) m s.points] at hq
    obtain ⟨r, hr, rfl⟩ := Option.map_eq_some_iff.mp hq
    exact (h r).holds (hs.2 m r hr)
  | loadPermit p =>
    intro m q hq
    rw [pointOf_withPermit] at hq
    split at hq
    · obtain rfl := Option.some.inj hq
      cases hold : pointOf s m with
      | none => exact holdsOk_fresh m
      | some r => exact hs.2 m r hold
    · exact hs.2 m q hq
  | retirePermit p =>
    intro m q hq
    rw [pointOf_withoutPermit] at hq
    split at hq
    · obtain ⟨r, hr, hq⟩ := Option.bind_eq_some_iff.mp hq
      split at hq
      · exact absurd hq (by simp)
      · exact Option.some.inj hq ▸ hs.2 m r hr
    · exact hs.2 m q hq
  | clear => exact fun m q hq => absurd hq (by rw [show pointOf _ m = none from rfl]; simp)
  | _ => exact hs.2

theorem holdsInv_cold (s : State) : HoldsInv (cold s) :=
  ⟨List.Pairwise.nil, fun _ h => absurd h List.not_mem_nil⟩

/-- Settles O57: every move keeps the reference counts and the holds. -/
theorem stepKeepsPoints : Obligations.StepKeepsPoints := fun _ _ h =>
  ⟨step_keeps Move.refCount refCountInv_cold h, step_keeps Move.holds holdsInv_cold h⟩

end Sys2Proof.Machine

/-!
PROOFS. The band, the site table and the pairing of phase and turn are kept by every step (R134, R136, R142, R143, R149,
R151, R165 to R167).
-/
namespace Sys2Proof.Machine

variable {A : Right → Prop}

/-! ## The load figure and the band (R165, R166) -/

theorem highest_some {p : Nat → Bool} {lo k : Nat} (h : highest p lo = some k) :
    lo ≤ k ∧ k ≤ 3 ∧ p k = true ∧ ∀ j, k < j → j ≤ 3 → p j = false := by
  unfold highest at h
  obtain ⟨hk, l1, l2, hl, hbefore⟩ := List.find?_eq_some_iff_append.mp h
  simp only [Bool.and_eq_true, decide_eq_true_eq] at hk
  have hmem : k ∈ [3, 2, 1, 0] := hl ▸ List.mem_append_right l1 List.mem_cons_self
  refine ⟨hk.1, ?_, hk.2, fun j hkj hj => ?_⟩
  · simp only [List.mem_cons, List.not_mem_nil, or_false] at hmem
    omega
  · have hin : j ∈ [3, 2, 1, 0] := by
      simp only [List.mem_cons, List.not_mem_nil, or_false]
      omega
    have hpair : ([3, 2, 1, 0] : List Nat).Pairwise (· > ·) := by decide
    rw [hl] at hin hpair
    have hjl : j ∈ l1 := by
      obtain h1 | h2 := List.mem_append.mp hin
      · exact h1
      · obtain rfl | h2 := List.mem_cons.mp h2
        · omega
        · have := (List.pairwise_cons.mp (List.pairwise_append.mp hpair).2.1).1 j h2
          omega
    have := hbefore j hjl
    simp only [Bool.not_eq_true', Bool.and_eq_false_iff, decide_eq_false_iff_not] at this
    exact this.resolve_left (by omega)

theorem highest_none {p : Nat → Bool} {lo : Nat} (h : highest p lo = none) : ∀ j, lo ≤ j → j ≤ 3 → p j = false := by
  intro j hlo hj
  unfold highest at h
  have hin : j ∈ [3, 2, 1, 0] := by
    simp only [List.mem_cons, List.not_mem_nil, or_false]
    omega
  simpa [hlo] using List.find?_eq_none.mp h j hin

/-- The band held fits the load figure (R166). -/
def bandFits (x : Thresholds) (level band : Nat) : Prop :=
  band ≤ 3 ∧ x.at band ≤ level ∧ (band < 3 → level < x.at (band + 1) + x.h)

/-- The band selected fits, whichever was held (R166 step 2). -/
theorem selectBand_fits (x : Thresholds) (level : Nat) {held : Nat} (hheld : held ≤ 3) :
    bandFits x level (selectBand x level held) := by
  unfold selectBand
  split
  · rename_i k hk
    obtain ⟨-, h3, hp, habove⟩ := highest_some hk
    refine ⟨h3, ?_, fun hlt => ?_⟩
    · have : x.at k + x.h ≤ level := by simpa using hp
      omega
    · simpa using habove (k + 1) (by omega) (by omega)
  · rename_i hnone
    have habove := highest_none hnone
    split
    · cases hk : highest (fun k => decide (x.at k ≤ level)) 0 with
      | none =>
        have h0 := highest_none hk 0 le_rfl (by decide)
        simp [Thresholds.at] at h0
      | some k =>
        obtain ⟨-, h3, hp, hlower⟩ := highest_some hk
        rw [Option.getD_some]
        refine ⟨h3, by simpa using hp, fun hlt => ?_⟩
        have : level < x.at (k + 1) := by simpa using hlower (k + 1) (by omega) (by omega)
        omega
    · rename_i hkeep
      refine ⟨hheld, ?_, fun hlt => ?_⟩
      · rcases Nat.eq_zero_or_pos held with rfl | hpos
        · exact Nat.zero_le level
        · by_contra hlow
          exact hkeep ⟨hpos, by omega⟩
      · simpa using habove (held + 1) le_rfl (by omega)

theorem periodBusy_le (m : Load) : m.periodBusy ≤ 10000 := Nat.min_le_right _ _

theorem afterPeriod_level_le {m : Load} (h : m.level ≤ 1000) : m.afterPeriod.level ≤ 1000 := by
  have hbetween := (nextLevel_between m.level (m.periodBusy / 10)).2
  have hbusy := periodBusy_le m
  show nextLevel m.level (m.periodBusy / 10) ≤ 1000
  omega

theorem BandInv.congr {s t : State} (h : BandInv s) (hl : t.load.level = s.load.level) (hb : t.load.band = s.load.band)
    (ht : t.load.thr = s.load.thr) (hst : ∀ x, t.load.thrStaged = some x → thresholdsFit x) : BandInv t := by
  obtain ⟨h1, h2, -, h4, h5, h6⟩ := h
  rw [← hl] at h1 h5 h6
  rw [← ht] at h2 h5 h6
  rw [← hb] at h4 h5 h6
  exact ⟨h1, h2, hst, h4, h5, h6⟩

theorem BandInv.afterPeriod {s : State} (h : BandInv s) : BandInv { s with load := s.load.afterPeriod } := by
  have hthr : thresholdsFit (s.load.thrStaged.getD s.load.thr) := by
    cases hst : s.load.thrStaged with
    | none => exact h.inForce
    | some x => exact h.staged x hst
  obtain ⟨h3, hlower, hupper⟩ := selectBand_fits (s.load.thrStaged.getD s.load.thr)
    (nextLevel s.load.level (s.load.periodBusy / 10)) h.band
  exact ⟨afterPeriod_level_le h.level, hthr, fun x hx => by simp [Load.afterPeriod] at hx, h3, hlower, hupper⟩

theorem Move.band {s t : State} (h : Move A s t) (hs : BandInv s) : BandInv t := by
  have hsame : ∀ {u : State}, u.load = s.load → BandInv u := fun he =>
    hs.congr (congrArg _ he) (congrArg _ he) (congrArg _ he) (he ▸ hs.staged)
  cases h with
  | frame h => exact hsame (h .load (by decide))
  | meter m h => exact hs.congr h.level h.band h.thr fun x hx => (h.staged x hx).elim (hs.staged x) id
  | period => exact hs.afterPeriod
  | loadPermit p => exact hsame (withPermit_keeps s p .load (by decide))
  | retirePermit p => exact hsame (withoutPermit_keeps s p .load (by decide))
  | _ => exact hsame rfl

theorem bandInv_reset : BandInv State.reset where
  level := by decide
  inForce := ⟨by decide, by decide, by decide⟩
  staged := fun _ h => nomatch h
  band := by decide
  lower := by decide
  upper := by decide

theorem bandInv_cold (s : State) : BandInv (cold s) := bandInv_reset.congr rfl rfl rfl fun _ h => nomatch h

/-! ## The site table (R149 to R151) -/

theorem SitesInv.congr {s t : State} (h : SitesInv s) (hsites : t.sites = s.sites) : SitesInv t := by
  obtain ⟨h1, h2, h3, h4⟩ := h
  rw [← hsites] at h1 h2 h3 h4
  exact ⟨h1, h2, h3, h4⟩

theorem Move.sitesWf {s t : State} (h : Move A s t) (hs : SitesInv s) : SitesInv t := by
  cases h with
  | frame h => exact hs.congr (h .sites (by decide))
  | sites l h => exact h hs
  | loadPermit p => exact hs.congr (withPermit_keeps s p .sites (by decide))
  | retirePermit p => exact hs.congr (withoutPermit_keeps s p .sites (by decide))
  | _ => exact hs.congr rfl

theorem sitesInv_cold (s : State) : SitesInv (cold s) := by
  have hunused : ∀ x ∈ (cold s).sites, x.used = false := by
    show ∀ x ∈ State.reset.sites, x.used = false
    decide
  have hno : ∀ x ∈ (cold s).sites, x.used = true → False := fun x hx hu => by simp [hunused x hx] at hu
  exact ⟨by show State.reset.sites.map Site.num = _; decide, fun x hx hu => (hno x hx hu).elim,
    fun x hx hu => (hno x hx hu).elim, fun x hx _ _ hu => (hno x hx hu).elim⟩

/-! ## Phase and turn (R134, R136, R142, R143) -/

theorem schedulerInv_iff (s : State) : SchedulerInv s ↔ s.air.PhaseOk :=
  ⟨fun h => ⟨h.list, h.window, h.gap⟩, fun h => ⟨h.1, h.2.1, h.2.2⟩⟩

theorem Move.phase {s t : State} (h : Move A s t) (hA : ¬A .schedule) (hs : s.air.PhaseOk) : t.air.PhaseOk := by
  cases h with
  | frame h => exact (h .air (by decide)) ▸ hs
  | air a h =>
    obtain ⟨-, hkept⟩ | hsame := h.resolve_left hA
    · exact hkept hs
    · exact hsame.phaseKept hs
  | loadPermit p => exact (withPermit_keeps s p .air (by decide)) ▸ hs
  | retirePermit p => exact (withoutPermit_keeps s p .air (by decide)) ▸ hs
  | _ => exact hs

theorem Path.phase {s t : State} (h : Path A s t) (hA : ¬A .schedule) : s.air.PhaseOk → t.air.PhaseOk :=
  Path.keeps (fun hm => hm.phase hA) h

theorem Air.SamePhase.refl (a : Air) : a.SamePhase a := ⟨rfl, rfl, rfl⟩

theorem Air.SamePhase.trans {a b c : Air} (h1 : a.SamePhase b) (h2 : b.SamePhase c) : a.SamePhase c :=
  ⟨h2.1.trans h1.1, h2.2.1.trans h1.2.1, h2.2.2.trans h1.2.2⟩

theorem Move.samePhase {s t : State} (h : Move A s t) (hA : ¬A .schedule) (hT : ¬A .turn) : s.air.SamePhase t.air := by
  cases h with
  | frame h => exact (h .air (by decide)) ▸ .refl _
  | air a h => exact (h.resolve_left hA).resolve_left fun h => hT h.1
  | loadPermit p => exact (withPermit_keeps s p .air (by decide)) ▸ .refl _
  | retirePermit p => exact (withoutPermit_keeps s p .air (by decide)) ▸ .refl _
  | _ => exact .refl _

/-- What moves neither turn nor phase. -/
def offAir : Right → Prop
  | .schedule => False
  | .turn => False
  | _ => True

theorem Path.samePhase {s t : State} (h : Path offAir s t) : s.air.SamePhase t.air :=
  Path.relates (R := fun u v => u.air.SamePhase v.air) (fun _ => .refl _) (fun h1 h2 => h1.trans h2)
    (fun hm => hm.samePhase id id) h

/-! ### Turns and phases begun -/

theorem beginTurn_phase {s : State} {n : Nat} (h : (truckOf s n).isSome = true) (k : TurnKind) :
    (beginTurn s n k).air.phase = s.air.phase ∧ (beginTurn s n k).air.startReached = s.air.startReached ∧
      (beginTurn s n k).air.turn.isSome = true := by
  obtain ⟨t, ht⟩ := Option.isSome_iff_exists.mp h
  unfold beginTurn
  rw [ht]
  have hair : ∀ (u : State) (l : List (Nat × Content)), (reportSent u l).air = u.air := fun u l =>
    reportSent_keeps u l .air (by decide)
  refine ⟨?_, ?_, rfl⟩
  · show (reportSent _ _).air.phase = _
    rw [hair]
    rfl
  · show (reportSent _ _).air.startReached = _
    rw [hair]
    rfl

theorem firstClaim_mem {s : State} {l : List Truck} {e n : Nat} (h : firstClaim s l = some (e, n)) :
    ∃ t ∈ l, t.num = n := by
  induction l generalizing e n with
  | nil => simp [firstClaim] at h
  | cons t l ih =>
    unfold firstClaim at h
    split at h
    · rename_i e1 e2 n2 _ hrest
      split at h
      · obtain ⟨-, rfl⟩ := Prod.mk.inj (Option.some.inj h)
        exact ⟨t, List.mem_cons_self, rfl⟩
      · obtain ⟨rfl, rfl⟩ := Prod.mk.inj (Option.some.inj h)
        obtain ⟨x, hx, he⟩ := ih hrest
        exact ⟨x, List.mem_cons_of_mem _ hx, he⟩
    · obtain ⟨-, rfl⟩ := Prod.mk.inj (Option.some.inj h)
      exact ⟨t, List.mem_cons_self, rfl⟩
    · obtain ⟨x, hx, he⟩ := ih h
      exact ⟨x, List.mem_cons_of_mem _ hx, he⟩

/-- The arbiter picks a truck of the table. -/
theorem arbiterPick_isSome {s : State} {n : Nat} (h : arbiterPick s = some n) : (truckOf s n).isSome = true := by
  obtain ⟨⟨e, m⟩, hclaim, rfl⟩ := Option.map_eq_some_iff.mp h
  obtain ⟨t, ht, hn⟩ := firstClaim_mem hclaim
  rw [Option.isSome_iff_ne_none]
  exact fun hnone => findBy_none.mp hnone t ht hn

theorem phaseOk_of_turn {a : Air} (hturn : a.turn.isSome = true) (hwindow : a.phase ≠ .window) : a.PhaseOk :=
  ⟨fun _ => hturn, fun h => absurd h hwindow, fun _ _ => hturn⟩

theorem askInGap_phaseOk {s : State} (hphase : s.air.phase = .gap) (hstart : s.air.startReached = false) :
    (askInGap s).air.PhaseOk := by
  unfold askInGap
  split
  · obtain ⟨hp, -, ht⟩ := beginTurn_phase (arbiterPick_isSome ‹_›) .urgent
    exact phaseOk_of_turn ht (by rw [hp, hphase]; decide)
  · exact ⟨fun h => by simp [hphase] at h, fun h => by simp [hphase] at h, fun _ h => by simp [hstart] at h⟩

theorem enterGap_phaseOk {s : State} (h : s.air.startReached = false) : (enterGap s).air.PhaseOk := askInGap_phaseOk rfl h

theorem enterWindow_phaseOk {past : State → State} {s : State} (hturn : s.air.turn = none)
    (hpast : (past s).air.PhaseOk) : (enterWindow past s).air.PhaseOk := by
  unfold enterWindow
  split
  · exact hpast
  · exact ⟨fun h => by simp at h, fun _ => hturn, fun h => by simp at h⟩

theorem not_passOver {s : State} {e : ListEntry} (h : ¬passOver s e = true) : (truckOf s e.truck).isSome = true := by
  unfold passOver at h
  cases hk : truckOf s e.truck with
  | none => simp [hk] at h
  | some _ => rfl

theorem takeEntries_phaseOk {past : State → State} (l : List ListEntry) {s : State} (hphase : s.air.phase = .list)
    (hturn : s.air.turn = none) (hpast : (past { s with air := { s.air with list := [] } }).air.PhaseOk) :
    (takeEntries past l s).air.PhaseOk := by
  induction l with
  | nil => exact enterWindow_phaseOk hturn hpast
  | cons e l ih =>
    unfold takeEntries
    split
    · exact ih
    · obtain ⟨hp, -, ht⟩ := beginTurn_phase (s := { s with air := { s.air with list := l, urgentRun := 0 } })
        (not_passOver ‹_›) .rollCall
      exact phaseOk_of_turn ht (by rw [hp]; simp [hphase])

theorem startCycle_phaseOk (first : Bool) {s : State} (hturn : s.air.turn = none) : (startCycle first s).air.PhaseOk :=
  takeEntries_phaseOk _ rfl hturn (enterGap_phaseOk rfl)

theorem pastWindow_phaseOk {s : State} (hturn : s.air.turn = none) : (pastWindow s).air.PhaseOk := by
  unfold pastWindow
  split
  · exact startCycle_phaseOk false hturn
  · exact enterGap_phaseOk (by simpa using ‹¬s.air.startReached = true›)

theorem goOn_phaseOk {s : State} (hturn : s.air.turn = none) : (goOn s).air.PhaseOk := by
  have hentries : ∀ hphase : s.air.phase = .list, (takeEntries pastWindow s.air.list s).air.PhaseOk := fun hphase =>
    takeEntries_phaseOk _ hphase hturn (pastWindow_phaseOk hturn)
  unfold goOn
  split
  · rename_i hphase
    unfold goOnInList
    split
    · split
      · rename_i n hpick
        obtain ⟨hp, -, ht⟩ := beginTurn_phase
          (s := { s with air := { s.air with urgentRun := s.air.urgentRun + 1 } }) (arbiterPick_isSome (s := s) hpick) .urgent
        exact phaseOk_of_turn ht (by rw [hp]; simp [hphase])
      · exact hentries hphase
    · exact hentries hphase
  · rename_i hphase
    exact ⟨fun h => by simp [hphase] at h, fun _ => hturn, fun h => by simp [hphase] at h⟩
  · rename_i hphase
    split
    · exact startCycle_phaseOk false hturn
    · exact askInGap_phaseOk hphase (by simpa using ‹¬s.air.startReached = true›)

/-! ### The Scheduler's own commands -/

theorem settleEvent_phaseOk {s : State} (h : s.air.PhaseOk) : (settleEvent s).air.PhaseOk :=
  Path.phase (A := fun x => x = .turn) (settleEvent_path s rfl) (by simp) h

theorem closeWindow_phaseOk (s : State) (t : Turn) : (closeWindow s t).air.PhaseOk := by
  unfold closeWindow
  split
  · exact goOn_phaseOk rfl
  · refine goOn_phaseOk ?_
    exact congrArg Air.turn (missedTurn_keeps (clearTurn (endTurnQueue s t.truck)) t.truck .air (by decide))

theorem expireFirst_phaseOk {s : State} (h : s.air.PhaseOk) (hdr : Header) : (expireFirst s hdr).air.PhaseOk := by
  unfold expireFirst
  split
  · split
    · exact settleEvent_phaseOk (closeWindow_phaseOk s _)
    · exact h
  · exact h

theorem frameRights_offAir (n : Nat) : FrameRights offAir n := ⟨trivial, trivial, fun _ => trivial⟩

theorem takeReply_phaseOk {s : State} (h : s.air.PhaseOk) (hdr : Header) (acks : List Nat) (items : List Item) :
    (takeReply s hdr acks items).air.PhaseOk := by
  unfold takeReply
  split
  · refine goOn_phaseOk ?_
    split
    · rfl
    · have hitems : Path offAir (clearTurn (endTurnQueue (takeAcks (takeHeader s hdr.truck hdr.zone) hdr.truck acks) hdr.truck))
          (replyStages s hdr acks items) :=
        (joinUplink_path _ _ _).trans (dispatchAll_path (frameRights_offAir hdr.truck) _ items)
      exact hitems.samePhase.2.1
  · exact (takeBurst_path s hdr items (frameRights_offAir hdr.truck)).phase id h

theorem reachStart_phaseOk {s : State} (h : s.air.PhaseOk) : (reachStart s).air.PhaseOk := by
  unfold reachStart
  split
  · rename_i hphase
    split
    · exact startCycle_phaseOk false (by simpa using ‹s.air.turn.isNone = true›)
    · rename_i hturn
      refine phaseOk_of_turn (a := { s.air with startReached := true }) ?_ (by simp [hphase])
      simpa [Option.isSome_iff_ne_none] using hturn
  · rename_i hphase
    exact ⟨h.1, h.2.1, fun hg => absurd hg hphase⟩

theorem warm_phaseOk (s : State) : (warm s).air.PhaseOk := startCycle_phaseOk true rfl

/-- The Scheduler's own commands keep the pairing too. -/
theorem exec_schedule_phaseOk {c : Instr} (hc : mayUse c .schedule) {s t : State} (h : exec c s = .next t)
    (hs : s.air.PhaseOk) : t.air.PhaseOk := by
  have hevent : ∀ {f : State → State}, (f s).air.PhaseOk → event f s = .next t → t.air.PhaseOk := by
    intro f hf hnext
    unfold event unlessHeld at hnext
    split at hnext
    · exact Host.Outcome.next.inj hnext ▸ hs
    · exact Host.Outcome.next.inj hnext ▸ settleEvent_phaseOk hf
  obtain ⟨hdr, acks, items, rfl⟩ | rfl | rfl | rfl | rfl := hc
  · have hexec : execReply hdr acks items s = .next t := h
    unfold execReply at hexec
    refine hevent ?_ hexec
    have hcounted : (countUplink (expireFirst s hdr) (replyOctets hdr acks items)).air.PhaseOk := expireFirst_phaseOk hs hdr
    exact takeReply_phaseOk hcounted hdr acks items
  · have hexec : execCycleStart s = .next t := h
    unfold execCycleStart at hexec
    refine hevent ?_ hexec
    split
    · exact reachStart_phaseOk hs
    · exact hs
  · have hexec : execOpenWindowEnd s = .next t := h
    unfold execOpenWindowEnd at hexec
    refine hevent ?_ hexec
    split
    · rename_i hdue
      simp only [windowEndDue, Bool.and_eq_true, beq_iff_eq] at hdue
      exact pastWindow_phaseOk (hs.2.1 hdue.1)
    · exact hs
  · have hexec : execWindowClosing s = .next t := h
    unfold execWindowClosing at hexec
    refine hevent ?_ hexec
    split
    · split
      · exact closeWindow_phaseOk s _
      · exact hs
    · exact hs
  · have hexec : execWarmReset s = .next t := h
    unfold execWarmReset at hexec
    refine hevent ?_ hexec
    split
    · exact warm_phaseOk s
    · exact hs

theorem schedulerInv_cold (s : State) : (cold s).air.PhaseOk := by
  show State.reset.air.PhaseOk
  exact ⟨by decide, by decide, by decide⟩

theorem step_phaseOk {s t : State} (h : step s = .next t) (hs : s.air.PhaseOk) : t.air.PhaseOk := by
  obtain ⟨l, -, rfl⟩ | ⟨c, l, -, -, hexec, hpath⟩ | ⟨-, rfl⟩ := step_cases h
  · exact schedulerInv_cold _
  · by_cases hA : mayUse c .schedule
    · exact exec_schedule_phaseOk hA hexec hs
    · exact hpath.phase hA hs
  · exact (idle_keeps s .air (by decide)) ▸ hs

/-- Settles O58: each rule is kept by every move; the pairing of phase and turn, by the Scheduler's own commands too. -/
theorem stepKeepsAirRules : Obligations.StepKeepsAirRules := fun s t h =>
  ⟨step_keeps Move.band bandInv_cold h, step_keeps Move.sitesWf sitesInv_cold h,
    fun hs => (schedulerInv_iff t).mpr (step_phaseOk h ((schedulerInv_iff s).mp hs))⟩

end Sys2Proof.Machine

/-!
PROOFS. While the console is UNATTENDED no GRANT stands for a step that needs a dispatcher: every move keeps it but the
lapse's own, and the lapse withdraws what stands (R104, R175).
-/
namespace Sys2Proof.Machine

variable {A : Right → Prop}

/-! ## GRANTs with and without the rule of the console -/

/-- The GRANT `c` of truck `n` names a step of a permit the truck holds; with `b`, one that needs no dispatcher while the
console is UNATTENDED. -/
def GrantOk (b : Prop) (s : State) (n : Nat) (c : AnswerContent) : Prop :=
  ∃ p x, permitOf s c.permit = some p ∧ p.holder = n ∧ p.step c.step = some x ∧
    (b → s.sup.console = .unattended → x.action.energizing = false ∧ x.confirm = false)

/-- UnattendedInv; without `b`, but for the rule of the console. -/
structure GrantsInv (b : Prop) (s : State) : Prop where
  trucks : ascending Truck.num s.trucks
  permits : ascending Permit.num s.permits
  subjects : ∀ t ∈ s.trucks, (t.queue.map Rec.subject).Nodup
  grants : ∀ t ∈ s.trucks, ∀ r ∈ t.queue, ∀ c, r.content = .answer c → c.kind = .grant → GrantOk b s t.num c
  asks : b → s.sup.console = .unattended → s.asks = []

theorem unattendedInv_iff (s : State) : UnattendedInv s ↔ GrantsInv True s :=
  ⟨fun h => ⟨h.trucks, h.permits, h.subjects, fun t ht r hr c hc hk => by
      obtain ⟨p, x, h1, h2, h3, h4⟩ := h.grants t ht r hr c hc hk
      exact ⟨p, x, h1, h2, h3, fun _ => h4⟩, fun _ => h.asks⟩,
    fun h => ⟨h.trucks, h.permits, h.subjects, fun t ht r hr c hc hk => by
      obtain ⟨p, x, h1, h2, h3, h4⟩ := h.grants t ht r hr c hc hk
      exact ⟨p, x, h1, h2, h3, h4 trivial⟩, h.asks trivial⟩⟩

theorem GrantsInv.weaken {b : Prop} {s : State} (h : GrantsInv b s) : GrantsInv False s :=
  ⟨h.trucks, h.permits, h.subjects, fun t ht r hr c hc hk => by
    obtain ⟨p, x, h1, h2, h3, -⟩ := h.grants t ht r hr c hc hk
    exact ⟨p, x, h1, h2, h3, False.elim⟩, False.elim⟩

theorem GrantStands.grantOk {b : Prop} {s : State} {n : Nat} {c : AnswerContent} (h : GrantStands s n c) : GrantOk b s n c := by
  obtain ⟨p, x, h1, h2, h3, h4⟩ := h
  exact ⟨p, x, h1, h2, h3, fun _ => h4⟩

/-- What keeps the permits and the console keeps what a GRANT names. -/
theorem GrantOk.congr {b : Prop} {s t : State} {n : Nat} {c : AnswerContent} (hpermits : t.permits = s.permits)
    (hconsole : t.sup.console = s.sup.console) (h : GrantOk b s n c) : GrantOk b t n c := by
  unfold GrantOk permitOf at h ⊢
  rwa [hpermits, hconsole]

theorem GrantsInv.congr {b : Prop} {s t : State} (h : GrantsInv b s) (htrucks : t.trucks = s.trucks)
    (hpermits : t.permits = s.permits) (hconsole : t.sup.console = s.sup.console)
    (hasks : b → t.sup.console = .unattended → t.asks = []) : GrantsInv b t :=
  ⟨htrucks ▸ h.trucks, hpermits ▸ h.permits, htrucks ▸ h.subjects,
    fun k hk r hr c hc hg => (h.grants k (htrucks ▸ hk) r hr c hc hg).congr hpermits hconsole, hasks⟩

theorem GrantsInv.truck {b : Prop} {s : State} {n : Nat} {f : Truck → Truck} (h : GrantsInv b s)
    (hnum : ∀ k, k.num = n → (f k).num = n) (hf : ∀ k, truckOf s n = some k → TruckMove A s k (f k)) :
    GrantsInv b (modTruck s n f) := by
  have hmove : ∀ k ∈ s.trucks, k.num = n → TruckMove A s k (f k) := fun k hk hn =>
    hf k (hn ▸ findBy_of_mem (ascending_nodup h.trucks) hk)
  refine ⟨changeBy_ascending h.trucks hnum, h.permits, fun k hk => ?_, fun k hk r hr c hc hg => ?_, h.asks⟩
  · obtain ⟨x, hx, rfl⟩ := List.mem_map.mp hk
    split
    · exact (hmove x hx ‹_›).subjects (h.subjects x hx)
    · exact h.subjects x hx
  · obtain ⟨x, hx, rfl⟩ := List.mem_map.mp hk
    have hok : GrantOk b s x.num c := by
      split at hr
      · obtain ⟨r', hr', hc'⟩ | hstands := (hmove x hx ‹_›).grants r hr c hc hg
        · exact h.grants x hx r' hr' c hc' hg
        · exact hstands.grantOk
      · exact h.grants x hx r hr c hc hg
    split
    · rw [(hmove x hx ‹_›).num]
      exact hok
    · exact hok

theorem GrantsInv.permit {b : Prop} {s : State} {n : Nat} {f : Permit → Permit} (h : GrantsInv b s)
    (hnum : ∀ p, p.num = n → (f p).num = n) (hf : ∀ p, permitOf s n = some p → PermitMove A p (f p)) :
    GrantsInv b (modPermit s n f) := by
  refine ⟨h.trucks, changeBy_ascending h.permits hnum, h.subjects, fun k hk r hr c hc hg => ?_, h.asks⟩
  obtain ⟨p, x, hp, hholder, hx, hquiet⟩ := h.grants k hk r hr c hc hg
  have hfound := permitOf_modPermit s n c.permit f hnum
  rw [hp, Option.map_some] at hfound
  by_cases hn : c.permit = n
  · have hm := hf p (hn ▸ hp)
    obtain ⟨y, hy, haction, hconfirm⟩ := hm.steps c.step x hx
    rw [if_pos hn] at hfound
    exact ⟨f p, y, hfound, hm.holder.trans hholder, hy, fun hb hu => haction ▸ hconfirm ▸ hquiet hb hu⟩
  · rw [if_neg hn] at hfound
    exact ⟨p, x, hfound, hholder, hx, hquiet⟩

theorem recFor_of_mem {q : List Rec} (hq : (q.map Rec.subject).Nodup) {r : Rec} (hr : r ∈ q) : recFor q r.subject = some r := by
  induction q with
  | nil => exact absurd hr List.not_mem_nil
  | cons x q ih =>
    simp only [List.map_cons, List.nodup_cons, List.mem_map, not_exists, not_and] at hq
    obtain rfl | hr := List.mem_cons.mp hr
    · simp [recFor]
    · have hne : x.subject ≠ r.subject := fun e => hq.1 r hr e.symm
      simpa [recFor, hne] using ih hq.2 hr

/-- A GRANT of a truck of the table is the ANSWER found for its permit. -/
theorem GrantsInv.answerIn {b : Prop} {s : State} (h : GrantsInv b s) {t : Truck} (ht : t ∈ s.trucks) {r : Rec}
    (hr : r ∈ t.queue) {c : AnswerContent} (hc : r.content = .answer c) : answerIn s t.num c.permit = some c := by
  have hsubject : r.subject = .answer c.permit := by
    unfold Rec.subject
    rw [hc]
    rfl
  have hrec : recOf s t.num (.answer c.permit) = some r := by
    unfold recOf
    rw [show truckOf s t.num = some t from findBy_of_mem (ascending_nodup h.trucks) ht]
    exact hsubject ▸ recFor_of_mem (h.subjects t ht) hr
  unfold Machine.answerIn
  rw [hrec]
  simp only [Option.bind_some, hc]

theorem GrantsInv.retire {b : Prop} {s : State} {p : Permit} (h : GrantsInv b s) (hp : permitOf s p.num = some p)
    (ha : recOf s p.holder (.answer p.num) = none) : GrantsInv b (withoutPermit s p) := by
  have hkeeps := withoutPermit_keeps s p
  have htrucks : (withoutPermit s p).trucks = s.trucks := hkeeps .trucks (by decide)
  have hsup : (withoutPermit s p).sup = s.sup := hkeeps .sup (by decide)
  refine ⟨htrucks ▸ h.trucks, (withoutPermit_permits s p) ▸ eraseBy_ascending p.num s.permits h.permits,
    htrucks ▸ h.subjects, fun k hk r hr c hc hg => ?_, fun hb hu => ?_⟩
  · rw [htrucks] at hk
    obtain ⟨q, x, hq, hholder, hx, hquiet⟩ := h.grants k hk r hr c hc hg
    have hne : c.permit ≠ p.num := fun he => by
      have hsame : q = p := Option.some.inj (hq.symm.trans (he ▸ hp))
      have hanswer := h.answerIn hk hr hc
      rw [he, ← hholder, hsame] at hanswer
      unfold Machine.answerIn at hanswer
      rw [ha] at hanswer
      simp at hanswer
    refine ⟨q, x, ?_, hholder, hx, hsup ▸ hquiet⟩
    rw [permitOf_withoutPermit, if_neg hne]
    exact hq
  · exact (hkeeps .asks (by decide)).trans (h.asks hb (hsup ▸ hu))

theorem GrantsInv.load {b : Prop} {s : State} {p : Permit} (h : GrantsInv b s) (hnew : permitOf s p.num = none) :
    GrantsInv b (withPermit s p) := by
  have hkeeps := withPermit_keeps s p
  have htrucks : (withPermit s p).trucks = s.trucks := hkeeps .trucks (by decide)
  have hsup : (withPermit s p).sup = s.sup := hkeeps .sup (by decide)
  refine ⟨htrucks ▸ h.trucks, (withPermit_permits s p) ▸ insertBy_ascending p s.permits h.permits hnew,
    htrucks ▸ h.subjects, fun k hk r hr c hc hg => ?_, fun hb hu => ?_⟩
  · rw [htrucks] at hk
    obtain ⟨q, x, hq, hrest⟩ := h.grants k hk r hr c hc hg
    have hne : c.permit ≠ p.num := fun he => by
      rw [he, hnew] at hq
      exact absurd hq (by simp)
    refine ⟨q, x, ?_, hsup ▸ hrest⟩
    rw [permitOf_withPermit s hnew, if_neg hne]
    exact hq
  · exact (hkeeps .asks (by decide)).trans (h.asks hb (hsup ▸ hu))

/-- Every move keeps it, but with the rule of the console the lapse's own. -/
theorem Move.grants {b : Prop} {s t : State} (h : Move A s t) (hA : b → ¬A .leave) (hs : GrantsInv b s) : GrantsInv b t := by
  cases h with
  | frame h =>
    have hsup : t.sup = s.sup := h .sup (by decide)
    exact hs.congr (h .trucks (by decide)) (h .permits (by decide)) (congrArg _ hsup) fun hb hu =>
      (h .asks (by decide)).trans (hs.asks hb (hsup ▸ hu))
  | sup x hx => exact hs.congr rfl rfl hx fun hb hu => hs.asks hb (hx ▸ hu)
  | attend =>
    refine ⟨hs.trucks, hs.permits, hs.subjects, fun k hk r hr c hc hg => ?_, fun _ hu => by simp at hu⟩
    obtain ⟨p, x, h1, h2, h3, -⟩ := hs.grants k hk r hr c hc hg
    exact ⟨p, x, h1, h2, h3, fun _ hu => by simp at hu⟩
  | leave hleave =>
    refine ⟨hs.trucks, hs.permits, hs.subjects, fun k hk r hr c hc hg => ?_, fun hb => (hA hb hleave).elim⟩
    obtain ⟨p, x, h1, h2, h3, -⟩ := hs.grants k hk r hr c hc hg
    exact ⟨p, x, h1, h2, h3, fun hb => (hA hb hleave).elim⟩
  | truck n f hnum h => exact hs.truck hnum h
  | enroll n _ _ _ hnew =>
    refine ⟨insertBy_ascending (Truck.fresh n) s.trucks hs.trucks hnew, hs.permits, fun k hk => ?_,
      fun k hk r hr c hc hg => ?_, hs.asks⟩
    · obtain rfl | hk := mem_insertBy.mp hk
      · exact List.nodup_nil
      · exact hs.subjects k hk
    · obtain rfl | hk := mem_insertBy.mp hk
      · exact absurd hr List.not_mem_nil
      · exact hs.grants k hk r hr c hc hg
  | remove n =>
    exact ⟨eraseBy_ascending n s.trucks hs.trucks, hs.permits, fun k hk => hs.subjects k (List.mem_of_mem_filter hk),
      fun k hk => hs.grants k (List.mem_of_mem_filter hk), hs.asks⟩
  | permit n f hnum h => exact hs.permit hnum h
  | loadPermit p _ hnew => exact hs.load hnew
  | retirePermit p _ hp ha => exact hs.retire hp ha
  | asks l _ h => exact hs.congr rfl rfl rfl fun hb hu => h hu (hs.asks hb hu)
  | clear => exact ⟨List.Pairwise.nil, List.Pairwise.nil, by simp, by simp, fun _ _ => rfl⟩
  | _ => exact hs.congr rfl rfl rfl hs.asks

theorem Path.grants {b : Prop} {s t : State} (h : Path A s t) (hA : b → ¬A .leave) : GrantsInv b s → GrantsInv b t :=
  Path.keeps (fun hm => hm.grants hA) h

/-! ## The lapse (R104, R175) -/

/-- What a request answered leaves of the pending list: every other permit's. -/
theorem refusePending_asks (s : State) (n : Nat) (r : Reason) :
    (refusePending s n r).asks = s.asks.filter fun a => a.permit != n := by
  unfold refusePending
  split
  · exact congrArg (List.filter _) (give_keeps s _ _ .asks (by decide))
  · rename_i hnone
    exact (List.filter_eq_self.mpr fun a ha => by simpa using List.find?_eq_none.mp hnone a ha).symm

theorem asks_refused (l : List Nat) (s : State) :
    (eachOf (fun s n => refusePending s n .unattended) l s).asks = s.asks.filter fun a => !l.contains a.permit := by
  induction l generalizing s with
  | nil => simp [eachOf]
  | cons n l ih =>
    have hstep : eachOf (fun s n => refusePending s n .unattended) (n :: l) s =
        eachOf (fun s n => refusePending s n .unattended) l (refusePending s n .unattended) := rfl
    rw [hstep, ih, refusePending_asks, List.filter_filter]
    refine List.filter_congr fun a _ => ?_
    by_cases ha : a.permit = n <;> simp [ha]

theorem answerAll_asks (s : State) : (answerAll s).asks = [] := by
  unfold answerAll
  rw [asks_refused, List.filter_eq_nil_iff]
  intro a ha
  simpa using ⟨a, ha, rfl⟩

/-- A record that can be placed: what stands for each truck and subject then. -/
theorem recOf_give {s : State} {n : Nat} {c : Content} (h : canGive s n c.subject = true) (m : Nat) (x : Subject) :
    ∃ r : Rec, r.content = c ∧ recOf (give s n c) m x = if m = n ∧ x = c.subject then some r else recOf s m x := by
  unfold canGive at h
  split at h
  · rename_i t ht
    obtain ⟨u, r, hu, hother, hcontent, -, -, -, -, hrec, -⟩ := give_taken ht h
    refine ⟨r, hcontent, ?_⟩
    unfold recOf
    by_cases hm : m = n
    · subst hm
      rw [hu, ht]
      simpa using hrec x
    · rw [hother m hm]
      simp [hm]
  · exact absurd h (by simp)

theorem canGive_of_answerIn {s : State} {n m : Nat} {c : AnswerContent} (h : answerIn s n m = some c) :
    canGive s n (.answer m) = true := by
  obtain ⟨r, hr, -⟩ := Option.bind_eq_some_iff.mp h
  obtain ⟨t, ht, hrec⟩ := Option.bind_eq_some_iff.mp hr
  unfold canGive
  rw [ht]
  simp [Truck.canTake, hrec]

theorem answerIn_of_trucks {s t : State} (h : t.trucks = s.trucks) (n m : Nat) : answerIn t n m = answerIn s n m := by
  unfold answerIn recOf truckOf
  rw [h]

/-- A GRANT that stands after one is superseded stood before, and was not the one. -/
theorem answerIn_supersede {s : State} {m : Nat} {why : Reason} {n i : Nat} {c : AnswerContent} (hg : c.kind = .grant)
    (h : answerIn (supersede s m why) n i = some c) :
    answerIn s n i = some c ∧ (i = m → n ≠ holderOf s m) := by
  unfold supersede at h
  split at h
  · rename_i c' hc'
    split at h
    · have htrucks : (clearStepBusy (stepPending (give s (holderOf s m) (.answer (refuseContent m c'.step why))) m c'.step
          (some why)) m c'.step).trucks = (give s (holderOf s m) (.answer (refuseContent m c'.step why))).trucks :=
        ((stepPending_keeps _ _ _ _).to (l := [.permits, .points]) |>.trans (clearStepBusy_keeps _ _ _).to) .trucks
          (by decide)
      rw [answerIn_of_trucks htrucks] at h
      obtain ⟨r, hr, hrec⟩ := recOf_give (c := .answer (refuseContent m c'.step why)) (canGive_of_answerIn hc') n (.answer i)
      unfold answerIn at h
      rw [hrec] at h
      split at h
      · simp only [Option.bind_some, hr, Option.some.injEq] at h
        rw [← h] at hg
        exact absurd hg (by simp [refuseContent])
      · rename_i hne
        exact ⟨h, fun hi hn => hne ⟨hn, by rw [hi]; rfl⟩⟩
    · rename_i hkind
      refine ⟨h, fun hi hn => hkind ?_⟩
      rw [hi, hn, hc'] at h
      exact (Option.some.inj h) ▸ hg
  · rename_i hnone
    refine ⟨h, fun hi hn => ?_⟩
    rw [hi, hn, hnone] at h
    exact absurd h (by simp)

theorem holderOf_modStep (s : State) (m : Nat) (j : StepId) (f : StepRec → StepRec) (n : Nat) :
    holderOf (modStep s m j f) n = holderOf s n := by
  unfold holderOf
  rw [permitOf_modStep]
  cases permitOf s n with
  | none => rfl
  | some p =>
    simp only [Option.map_some]
    split
    · exact Permit.withStep_holder p j f
    · rfl

theorem holderOf_of_permits {s t : State} (h : t.permits = s.permits) (n : Nat) : holderOf t n = holderOf s n := by
  unfold holderOf permitOf
  rw [h]

theorem holderOf_supersede (s : State) (m : Nat) (why : Reason) (n : Nat) : holderOf (supersede s m why) n = holderOf s n := by
  unfold supersede
  split
  · split
    · rw [holderOf_of_permits (clearStepBusy_keeps _ _ _ .permits (by decide))]
      exact (holderOf_modStep _ _ _ _ n).trans (holderOf_of_permits (give_keeps s _ _ .permits (by decide)) n)
    · rfl
  · rfl

theorem answerIn_superseded {why : Reason} {n i : Nat} {c : AnswerContent} (hg : c.kind = .grant) (l : List Nat)
    {s : State} (h : answerIn (eachOf (fun s m => supersede s m why) l s) n i = some c) :
    answerIn s n i = some c ∧ (i ∈ l → n ≠ holderOf s i) := by
  induction l generalizing s with
  | nil => exact ⟨h, fun hi => absurd hi List.not_mem_nil⟩
  | cons m l ih =>
    obtain ⟨hlater, hrest⟩ := ih (s := supersede s m why) h
    obtain ⟨hfirst, hm⟩ := answerIn_supersede hg hlater
    refine ⟨hfirst, fun hi => ?_⟩
    obtain rfl | hi := List.mem_cons.mp hi
    · exact hm rfl
    · exact holderOf_supersede s m why i ▸ hrest hi

theorem stepIn_supersede {s : State} {m : Nat} {why : Reason} {n : Nat} {i : StepId} {y : StepRec}
    (h : stepIn (supersede s m why) n i = some y) :
    ∃ x, stepIn s n i = some x ∧ y.action = x.action ∧ y.confirm = x.confirm := by
  have hmod : ∀ {u : State} {j : StepId} {f : StepRec → StepRec}, (∀ x, (f x).action = x.action) →
      (∀ x, (f x).confirm = x.confirm) → stepIn (modStep u m j f) n i = some y →
      ∃ x, stepIn u n i = some x ∧ y.action = x.action ∧ y.confirm = x.confirm := by
    intro u j f haction hconfirm hy
    unfold stepIn at hy ⊢
    rw [permitOf_modStep] at hy
    cases hp : permitOf u n with
    | none => simp [hp] at hy
    | some p =>
      simp only [hp, Option.map_some, Option.bind_some] at hy ⊢
      split at hy
      · rw [Permit.step_withStep] at hy
        obtain ⟨x, hx, rfl⟩ := Option.map_eq_some_iff.mp hy
        refine ⟨x, hx, ?_⟩
        split
        · exact ⟨haction x, hconfirm x⟩
        · exact ⟨rfl, rfl⟩
      · exact ⟨y, hy, rfl, rfl⟩
  have hsame : ∀ {u v : State}, v.permits = u.permits → stepIn v n i = stepIn u n i := fun he => by
    unfold stepIn permitOf
    rw [he]
  unfold supersede at h
  split at h
  · split at h
    · rw [hsame (clearStepBusy_keeps _ _ _ .permits (by decide))] at h
      obtain ⟨x, hx, hrest⟩ := hmod (f := fun x => { x with state := .pending, reason := some why }) (fun _ => rfl) (fun _ => rfl) h
      exact ⟨x, (hsame (give_keeps s _ _ .permits (by decide))) ▸ hx, hrest⟩
    · exact ⟨y, h, rfl, rfl⟩
  · exact ⟨y, h, rfl, rfl⟩

theorem stepIn_superseded {why : Reason} {n : Nat} {i : StepId} {y : StepRec} (l : List Nat) {s : State}
    (h : stepIn (eachOf (fun s m => supersede s m why) l s) n i = some y) :
    ∃ x, stepIn s n i = some x ∧ y.action = x.action ∧ y.confirm = x.confirm := by
  induction l generalizing s with
  | nil => exact ⟨y, h, rfl, rfl⟩
  | cons m l ih =>
    obtain ⟨x, hx, ha, hc⟩ := ih (s := supersede s m why) h
    obtain ⟨w, hw, ha', hc'⟩ := stepIn_supersede hx
    exact ⟨w, hw, ha.trans ha', hc.trans hc'⟩

theorem mem_permitNums {s : State} {n : Nat} {p : Permit} (h : permitOf s n = some p) : n ∈ permitNums s :=
  List.mem_map.mpr ⟨p, (findBy_some h).2, (findBy_some h).1⟩

/-- Once every GRANT that lapses has been superseded, none that stands is for a step that needs a dispatcher. -/
theorem superseded_quiet {s : State} (h : GrantsInv False s) (hasks : s.asks = []) :
    GrantsInv True (eachOf (fun s n => supersede s n .unattended) (lapsingGrants s) s) := by
  have hpath : Path (fun _ => False) s (eachOf (fun s n => supersede s n .unattended) (lapsingGrants s) s) :=
    Path.foldl (fun u n => supersede_path u n _) _ s
  have hend := hpath.grants (b := False) False.elim h
  refine ⟨hend.trucks, hend.permits, hend.subjects, fun t ht r hr c hc hg => ?_, fun _ _ => ?_⟩
  · obtain ⟨p, x, hp, hholder, hx, -⟩ := hend.grants t ht r hr c hc hg
    obtain ⟨hstood, hnot⟩ := answerIn_superseded hg _ (hend.answerIn ht hr hc)
    obtain ⟨w, hw, haction, hconfirm⟩ := stepIn_superseded (i := c.step) (y := x) (lapsingGrants s)
      (by unfold stepIn; rw [hp]; exact hx)
    obtain ⟨p0, hp0, hw0⟩ := Option.bind_eq_some_iff.mp hw
    have hholder0 : holderOf s c.permit = t.num := by
      have hfold : ∀ (l : List Nat) (u : State),
          holderOf (eachOf (fun s n => supersede s n .unattended) l u) c.permit = holderOf u c.permit := by
        intro l
        induction l with
        | nil => exact fun _ => rfl
        | cons m l ih => exact fun u => (ih _).trans (holderOf_supersede u m _ _)
      rw [← hfold (lapsingGrants s) s]
      unfold holderOf
      rw [hp]
      exact hholder
    refine ⟨p, x, hp, hholder, hx, fun _ _ => ?_⟩
    by_contra hneeds
    refine hnot ?_ hholder0.symm
    refine List.mem_filter.mpr ⟨mem_permitNums hp0, ?_⟩
    unfold grantLapses
    rw [hholder0, hstood]
    simp only [hw, hg, beq_self_eq_true, Bool.true_and, Bool.or_eq_true]
    rw [← haction, ← hconfirm]
    by_contra hno
    simp only [not_or, Bool.not_eq_true] at hno
    exact hneeds hno
  · have hkeeps : Keeps [.trucks, .permits, .points, .askArb] s
        (eachOf (fun s n => supersede s n .unattended) (lapsingGrants s) s) :=
      Keeps.foldl (fun u n => supersede_keeps u n _) _ s
    exact (hkeeps .asks (by decide)).trans hasks

theorem becomeUnattended_grants {s : State} (h : GrantsInv False s) : GrantsInv True (becomeUnattended s) := by
  have hleft : Path (fun _ => True) s (answerAll { s with sup := { s.sup with console := .unattended } }) :=
    (leave_path s trivial).trans (answerAll_path _)
  have hanswered := hleft.grants (b := False) False.elim h
  have hquiet := superseded_quiet hanswered (answerAll_asks _)
  exact Path.grants (A := fun _ => False) ((assistAll_path _).trans (post_path _ _)) (fun _ => id) hquiet

theorem takeLapse_grants {s : State} (h : GrantsInv True s) : GrantsInv True (takeLapse s) := by
  have hgone : GrantsInv True { s with sup := { s.sup with lapse := none } } :=
    Path.grants (A := fun _ => False) (sup_path s _ rfl) (fun _ => id) h
  have hlapsed : GrantsInv True (setLapsed { s with sup := { s.sup with lapse := none } }) :=
    Path.grants (A := fun _ => False) (setLapsed_path _) (fun _ => id) hgone
  unfold takeLapse
  dsimp only
  split
  · exact hgone
  · exact hlapsed
  · split
    · exact becomeUnattended_grants hlapsed.weaken
    · exact hlapsed

theorem exec_lapse_grants {s t : State} (h : exec .lapse s = .next t) (hs : GrantsInv True s) : GrantsInv True t := by
  have hexec : execLapse s = .next t := h
  unfold execLapse event unlessHeld at hexec
  split at hexec
  · exact Host.Outcome.next.inj hexec ▸ hs
  · refine Host.Outcome.next.inj hexec ▸ ?_
    refine Path.grants (A := fun x => x = .turn) (settleEvent_path _ rfl) (fun _ => by simp) ?_
    dsimp only
    split
    · exact takeLapse_grants hs
    · exact hs

theorem grantsInv_cold (s : State) : GrantsInv True (cold s) :=
  ⟨List.Pairwise.nil, List.Pairwise.nil, fun _ h => absurd h List.not_mem_nil, fun _ h => absurd h List.not_mem_nil,
    fun _ _ => rfl⟩

/-- Settles O56: the lapse withdraws what needs a dispatcher, and no other command leaves the console or grants against
the rule. -/
theorem stepKeepsUnattendedRule : Obligations.StepKeepsUnattendedRule := by
  intro s t hs h
  rw [unattendedInv_iff] at hs ⊢
  obtain ⟨l, -, rfl⟩ | ⟨c, l, -, -, hexec, hpath⟩ | ⟨-, rfl⟩ := step_cases h
  · exact grantsInv_cold _
  · have hrest : GrantsInv True { s with pending := l } := hs.congr rfl rfl rfl hs.asks
    by_cases hA : mayUse c .leave
    · obtain rfl : c = .lapse := hA
      exact exec_lapse_grants hexec hrest
    · exact hpath.grants (fun _ => hA) hrest
  · exact (idle_path s).grants (fun _ => by simp) hs

end Sys2Proof.Machine

/-!
PROOFS. One step of the part: the command at the front, what every command keeps of the queue, what the part does while
none waits and which timers are reached then; and the values and invariants right after a cold reset.
-/
namespace Sys2Proof.Machine

variable {A : Right → Prop}

/-! ## The queue of commands -/

/-- Settles O1, by the definition of a step on a queue that is not empty. -/
theorem stepRunsFrontCommand : Obligations.StepRunsFrontCommand := by
  unfold Obligations.StepRunsFrontCommand
  intro c l s h
  simp only [step, h]

/-- The queue of commands and the count of choices of `t` are those of `s`. -/
def SameQueue (s t : State) : Prop := t.pending = s.pending ∧ t.choices = s.choices

theorem Keeps.sameQueue {l : List Field} {s t : State} (h : Keeps l s t) (hl : .pending ∉ l ∧ .choices ∉ l := by decide) :
    SameQueue s t := ⟨h .pending hl.1, h .choices hl.2⟩

theorem Move.sameQueue {s t : State} (h : Move A s t) (hA : ¬A .queue) : SameQueue s t := by
  cases h with
  | frame h => exact h.sameQueue
  | loadPermit p => exact (withPermit_keeps s p).sameQueue
  | retirePermit p => exact (withoutPermit_keeps s p).sameQueue
  | queue _ _ hqueue => exact (hA hqueue).elim
  | _ => exact ⟨rfl, rfl⟩

theorem Path.sameQueue {s t : State} (h : Path A s t) (hA : ¬A .queue) : SameQueue s t :=
  Path.relates (fun _ => ⟨rfl, rfl⟩) (fun h h' => ⟨h'.1.trans h.1, h'.2.trans h.2⟩) (fun hm => hm.sameQueue hA) h

/-- Settles O3: the cold reset by its definition, every other command as a path of moves none of which is the queue's. -/
theorem everyCommandCompletes : Obligations.EveryCommandCompletes := by
  unfold Obligations.EveryCommandCompletes
  intro c s
  by_cases hc : c = .coldReset
  · subst hc
    exact ⟨cold s, rfl, rfl, rfl⟩
  · obtain ⟨t, ht, hpath⟩ := exec_steps c s hc
    exact ⟨t, ht, hpath.sameQueue id⟩

/-! ## The cold reset -/

/-- Settles O52: the lemmas of the invariants about the cold-reset values. -/
theorem resetMeetsInvariants : Obligations.ResetMeetsInvariants := by
  unfold Obligations.ResetMeetsInvariants
  refine ⟨tablesInv_cold .reset, no_trucks_cold .reset, fun _ h => absurd h List.not_mem_nil,
    ⟨List.Pairwise.nil, no_trucks_cold .reset⟩, no_trucks_cold .reset, (unattendedInv_iff _).mpr (grantsInv_cold .reset),
    refCountInv_cold .reset, holdsInv_cold .reset, causesInv_cold .reset, bandInv_cold .reset, sitesInv_cold .reset,
    (schedulerInv_iff _).mpr (schedulerInv_cold .reset)⟩

/-- A part held in reset takes no command but the two of the reset line (R184). -/
theorem exec_held {c : Instr} {s : State} (h : s.held = true) (hcold : c ≠ .coldReset) (hline : c ≠ .resetLineAssertion) :
    exec c s = .next s := by
  cases hk : kindTag c with
  | some kt =>
    obtain ⟨f, hexec, -⟩ := exists_walkedBy (k := kt.1) (tag := kt.2) hk
    rw [hexec, request_held _ _ f h]
  | none =>
    cases c with
    | coldReset => exact absurd rfl hcold
    | resetLineAssertion => exact absurd rfl hline
    | failedFrame | octetGap | replySent | noticeSent | warmReset | carrierOn | carrierOff | reply | burst | rejectedFrame
    | beacon | offerTimeout | warning | deadline | decisionTimeout | discardTime | lapse | beaconTimeout | cycleStart
    | openWindowEnd | windowClosing | periodEnd =>
      simp only [exec, execFailedFrame, execOctetGap, execReplySent, execNoticeSent, execWarmReset, execCarrierOn,
        execCarrierOff, execReply, execBurst, execRejectedFrame, execBeacon, execOfferTimeout, execWarning, execDeadline,
        execDecisionTimeout, execDiscardTime, execLapse, execBeaconTimeout, execCycleStart, execOpenWindowEnd,
        execWindowClosing, execPeriodEnd, event_held _ h]
    | _ => exact absurd hk (Option.some_ne_none _)

/-- Settles O4: each value by evaluation, a site and a grace by its place in the list. -/
theorem coldResetValues : Obligations.ColdResetValues := by
  unfold Obligations.ColdResetValues
  have hsites : ∀ n, 1 ≤ n → n ≤ 7 → siteOf State.reset n =
      some { num := n, state := .unused, parent := 0, range := none, hop := 300, timeout := 90, lastBeacon := none } := by
    intro n hlo hhi
    interval_cases n <;> rfl
  have hgraces : ∀ z, 1 ≤ z → z ≤ 250 → graceOf State.reset z = 0 := by
    intro z hlo hhi
    have hlist : State.reset.graces = List.replicate 250 0 := rfl
    unfold graceOf
    rw [hlist, List.getD_replicate _ (by omega)]
  refine ⟨rfl, rfl, rfl, rfl, rfl, rfl, rfl, rfl, rfl, rfl, rfl, rfl, rfl, rfl, rfl, rfl, rfl, rfl, rfl, rfl, rfl, rfl, rfl,
    rfl, rfl, rfl, rfl, hsites, rfl, hgraces, rfl, rfl, rfl, rfl, rfl, rfl, rfl, rfl, rfl, rfl, fun s => rfl, fun s => rfl,
    fun c s hheld hcold hline => exec_held hheld hcold hline⟩

end Sys2Proof.Machine

/-!
PROOFS. What the part does while no command waits: which timers are reached, and the clock.
-/
namespace Sys2Proof.Machine

/-! ## Timers reached -/

theorem Order.offerReached_iff (o : Order) (now : Nat) :
    o.offerReached now = true ↔ o.state = .offered ∧ ∃ e, o.offerExpiry = some e ∧ e ≤ now := by
  unfold Order.offerReached
  cases o.offerExpiry <;> simp

theorem Watch.warnReached_iff (w : Watch) (now : Nat) :
    w.warnReached now = true ↔ w.state = .watch ∧ ∃ d, w.warnTime = some d ∧ d ≤ (now : Int) := by
  unfold Watch.warnReached
  cases w.warnTime <;> simp

theorem Watch.deadlineReached_iff (w : Watch) (now : Nat) :
    w.deadlineReached now = true ↔ (w.state = .watch ∨ w.state = .warn) ∧ ∃ d, w.deadline = some d ∧ d ≤ now := by
  unfold Watch.deadlineReached
  cases w.deadline <;> simp

theorem Rec.discardReached_iff (r : Rec) (now : Nat) : r.discardReached now = true ↔ ∃ d, r.discard = some d ∧ d ≤ now := by
  unfold Rec.discardReached
  cases r.discard <;> simp

theorem Site.timedOut_iff (x : Site) (now : Nat) :
    x.timedOut now = true ↔ x.state = .up ∧ ∃ b, x.lastBeacon = some b ∧ b + x.timeout ≤ now := by
  unfold Site.timedOut
  cases x.lastBeacon <;> simp

theorem lapseReached_iff (s : State) : lapseReached s = true ↔ ∃ e, s.sup.lapse = some e ∧ e ≤ s.now := by
  unfold lapseReached
  cases s.sup.lapse <;> simp

theorem startDue_iff (s : State) : startDue s = true ↔ s.air.nextStart ≤ s.nowMs ∧ s.air.startReached = false := by
  simp [startDue]

theorem windowEndDue_iff (s : State) : windowEndDue s = true ↔ s.air.phase = .window ∧ s.air.winEnd ≤ s.nowMs := by
  simp [windowEndDue]

theorem closingDue_iff (s : State) : closingDue s = true ↔ ∃ t, s.air.turn = some t ∧ t.winClose ≤ s.nowMs := by
  unfold closingDue
  cases s.air.turn <;> simp

theorem periodEndDue_iff (s : State) : periodEndDue s = true ↔ s.load.periodStart + 10000 ≤ s.nowMs := by
  unfold periodEndDue Load.periodEnd
  exact decide_eq_true_iff

theorem Rx.overdue_iff (x : Rx) (t : Nat) : x.overdue t = true ↔ ∃ got last, x = .within got last ∧ last + 50 < t := by
  cases x <;> simp [Rx.overdue]

/-! ## The commands of the timers reached -/

theorem mem_dueIf {b : Bool} {c d : Instr} : d ∈ dueIf b c ↔ b = true ∧ c = d := by
  cases b <;> simp [dueIf, eq_comm]

theorem mem_dueOffers {s : State} {c : Instr} :
    c ∈ dueOffers s ↔ ∃ o ∈ s.orders, o.offerReached s.now = true ∧ .offerTimeout o.num = c := by
  simp [dueOffers, and_assoc]

theorem mem_dueSeat {s : State} {t : Truck} {seat : Nat} {c : Instr} :
    c ∈ dueSeat s t seat ↔ ((t.watch seat).warnReached s.now = true ∧ .warning t.num seat = c) ∨
      ((t.watch seat).deadlineReached s.now = true ∧ .deadline t.num seat = c) := by
  unfold dueSeat
  cases (t.watch seat).warnReached s.now <;> cases (t.watch seat).deadlineReached s.now <;> simp [eq_comm]

theorem mem_dueWatches {s : State} {c : Instr} :
    c ∈ dueWatches s ↔ ∃ t ∈ s.trucks, ∃ seat, (seat = 1 ∨ seat = 2) ∧
      (((t.watch seat).warnReached s.now = true ∧ .warning t.num seat = c) ∨
        ((t.watch seat).deadlineReached s.now = true ∧ .deadline t.num seat = c)) := by
  simp only [dueWatches, List.mem_flatMap, List.mem_append, mem_dueSeat, or_and_right, exists_or, exists_eq_left]

theorem mem_dueAsks {s : State} {c : Instr} :
    c ∈ dueAsks s ↔ ∃ a ∈ s.asks, a.expiry ≤ s.now ∧ .decisionTimeout a.permit = c := by
  simp [dueAsks, and_assoc]

theorem mem_dueDiscards {s : State} {t : Truck} {c : Instr} :
    c ∈ dueDiscards s t ↔ ∃ r ∈ t.queue, r.discardReached s.now = true ∧ ∃ p, r.subject = .answer p ∧
      .discardTime t.num p = c := by
  have hcommand : ∀ r : Rec, (match r.subject with
      | .answer p => some (Instr.discardTime t.num p)
      | _ => none) = some c ↔ ∃ p, r.subject = .answer p ∧ .discardTime t.num p = c := by
    intro r
    cases r.subject <;> simp
  simp only [dueDiscards, List.mem_filterMap, List.mem_filter, and_assoc]
  exact exists_congr fun r => and_congr_right fun _ => and_congr_right fun _ => hcommand r

theorem mem_dueSites {s : State} {c : Instr} :
    c ∈ dueSites s ↔ ∃ x ∈ s.sites, x.timedOut s.now = true ∧ .beaconTimeout x.num = c := by
  simp [dueSites, and_assoc]

theorem mem_dueEvents {s : State} {c : Instr} :
    c ∈ dueEvents s ↔ c ∈ dueOffers s ∨ c ∈ dueWatches s ∨ c ∈ dueAsks s ∨ (∃ t ∈ s.trucks, c ∈ dueDiscards s t) ∨
      c ∈ dueSites s ∨ (lapseReached s = true ∧ .lapse = c) ∨ (startDue s = true ∧ .cycleStart = c) ∨
      (windowEndDue s = true ∧ .openWindowEnd = c) ∨ (closingDue s = true ∧ .windowClosing = c) ∨
      (periodEndDue s = true ∧ .periodEnd = c) ∨ (s.port.restart = .replied ∧ .warmReset = c) ∨
      (s.port.rx.overdue s.nowMs = true ∧ .octetGap = c) := by
  simp only [dueEvents, List.mem_append, mem_dueIf, List.mem_flatMap, beq_iff_eq, or_assoc]

/-- A record of a table of distinct keys with a property is the one found. -/
theorem exists_mem_iff_findBy {α : Type} {key : α → Nat} {l : List α} (h : ascending key l) {P : α → Prop} {n : Nat} :
    (∃ r ∈ l, P r ∧ key r = n) ↔ ∃ r, findBy key n l = some r ∧ P r := by
  constructor
  · rintro ⟨r, hr, hP, rfl⟩
    exact ⟨r, findBy_of_mem (ascending_nodup h) hr, hP⟩
  · rintro ⟨r, hr, hP⟩
    exact ⟨r, (findBy_some hr).2, hP, (findBy_some hr).1⟩

/-! ### One kind of command among them -/

section
variable {s : State}

theorem offerTimeout_due (n : Nat) :
    .offerTimeout n ∈ dueEvents s ↔ ∃ o ∈ s.orders, o.offerReached s.now = true ∧ o.num = n := by
  simp [mem_dueEvents, mem_dueOffers, mem_dueWatches, mem_dueAsks, mem_dueDiscards, mem_dueSites]

theorem warning_due (n seat : Nat) : .warning n seat ∈ dueEvents s ↔
    (seat = 1 ∨ seat = 2) ∧ ∃ t ∈ s.trucks, (t.watch seat).warnReached s.now = true ∧ t.num = n := by
  simp only [mem_dueEvents, mem_dueOffers, mem_dueWatches, mem_dueAsks, mem_dueDiscards, mem_dueSites, Instr.warning.injEq,
    reduceCtorEq, and_false, exists_false, or_false, false_or]
  constructor
  · rintro ⟨t, ht, x, hx, hr, hn, rfl⟩
    exact ⟨hx, t, ht, hr, hn⟩
  · rintro ⟨hx, t, ht, hr, hn⟩
    exact ⟨t, ht, seat, hx, hr, hn, rfl⟩

theorem deadline_due (n seat : Nat) : .deadline n seat ∈ dueEvents s ↔
    (seat = 1 ∨ seat = 2) ∧ ∃ t ∈ s.trucks, (t.watch seat).deadlineReached s.now = true ∧ t.num = n := by
  simp only [mem_dueEvents, mem_dueOffers, mem_dueWatches, mem_dueAsks, mem_dueDiscards, mem_dueSites, Instr.deadline.injEq,
    reduceCtorEq, and_false, exists_false, or_false, false_or]
  constructor
  · rintro ⟨t, ht, x, hx, hr, hn, rfl⟩
    exact ⟨hx, t, ht, hr, hn⟩
  · rintro ⟨hx, t, ht, hr, hn⟩
    exact ⟨t, ht, seat, hx, hr, hn, rfl⟩

theorem decisionTimeout_due (n : Nat) :
    .decisionTimeout n ∈ dueEvents s ↔ ∃ a ∈ s.asks, a.expiry ≤ s.now ∧ a.permit = n := by
  simp [mem_dueEvents, mem_dueOffers, mem_dueWatches, mem_dueAsks, mem_dueDiscards, mem_dueSites]

theorem discardTime_due (n p : Nat) : .discardTime n p ∈ dueEvents s ↔
    ∃ t ∈ s.trucks, (∃ r ∈ t.queue, r.discardReached s.now = true ∧ r.subject = .answer p) ∧ t.num = n := by
  simp only [mem_dueEvents, mem_dueOffers, mem_dueWatches, mem_dueAsks, mem_dueDiscards, mem_dueSites,
    Instr.discardTime.injEq, reduceCtorEq, and_false, exists_false, or_false, false_or]
  constructor
  · rintro ⟨t, ht, r, hr, hd, x, hx, hn, rfl⟩
    exact ⟨t, ht, ⟨r, hr, hd, hx⟩, hn⟩
  · rintro ⟨t, ht, ⟨r, hr, hd, hx⟩, hn⟩
    exact ⟨t, ht, r, hr, hd, p, hx, hn, rfl⟩

theorem beaconTimeout_due (n : Nat) :
    .beaconTimeout n ∈ dueEvents s ↔ ∃ x ∈ s.sites, x.timedOut s.now = true ∧ x.num = n := by
  simp [mem_dueEvents, mem_dueOffers, mem_dueWatches, mem_dueAsks, mem_dueDiscards, mem_dueSites]

/-- Which of the commands without a number are due. -/
theorem single_due : (.lapse ∈ dueEvents s ↔ lapseReached s = true) ∧ (.cycleStart ∈ dueEvents s ↔ startDue s = true) ∧
    (.openWindowEnd ∈ dueEvents s ↔ windowEndDue s = true) ∧ (.windowClosing ∈ dueEvents s ↔ closingDue s = true) ∧
    (.periodEnd ∈ dueEvents s ↔ periodEndDue s = true) ∧ (.warmReset ∈ dueEvents s ↔ s.port.restart = .replied) ∧
    (.octetGap ∈ dueEvents s ↔ s.port.rx.overdue s.nowMs = true) := by
  simp [mem_dueEvents, mem_dueOffers, mem_dueWatches, mem_dueAsks, mem_dueDiscards, mem_dueSites]

end

/-! ## Idle steps (R182) -/

theorem step_idle {s : State} (h : s.pending = []) : step s = .next (idle s) := by
  simp only [step, h]

section
variable {s : State} (hheld : s.held = false)
include hheld

theorem idle_of_none_due (h : dueEvents s = []) : idle s = { s with clock := s.clock.tick } := by
  simp [idle, hheld, h]

/-- One of the commands due is queued; which one is a free choice. -/
theorem idle_of_due (h : dueEvents s ≠ []) :
    ∃ c ∈ dueEvents s, idle s = { s with pending := [c], choices := s.choices + 1 } := by
  obtain ⟨c, l, hl⟩ := List.exists_cons_of_ne_nil h
  have hplace : Config.dueChoice s.choices % (l.length + 1) < (c :: l).length := Nat.mod_lt _ (Nat.succ_pos _)
  refine ⟨(c :: l).getD (Config.dueChoice s.choices % (l.length + 1)) c, ?_, by simp [idle, hheld, hl]⟩
  rw [hl, List.getD_eq_getElem _ _ hplace]
  exact List.getElem_mem _

end

/-- Settles O2: the idle step by whether the part is held and a timer reached, and each kind of timer command by its place
among those that are due. -/
theorem idleStepTicksOrTakesDueTimer : Obligations.IdleStepTicksOrTakesDueTimer := by
  unfold Obligations.IdleStepTicksOrTakesDueTimer
  refine ⟨fun s hs => ?idle, fun s hs => ?due⟩
  case idle =>
    rw [step_idle hs]
    split_ifs with hheld hnone hms hsec
    · simp [idle, hheld]
    · simp [idle_of_none_due (by simpa using hheld) hnone, Clock.tick, hms]
    · simp [idle_of_none_due (by simpa using hheld) hnone, Clock.tick, hms, hsec]
    · refine ⟨Config.secondsAfterLast % 4294967295, Nat.le_of_lt_succ (Nat.mod_lt _ (by decide)), ?_⟩
      simp [idle_of_none_due (by simpa using hheld) hnone, Clock.tick, hms, hsec]
    · obtain ⟨c, hc, hidle⟩ := idle_of_due (by simpa using hheld) hnone
      exact ⟨c, hc, congrArg _ hidle⟩
  case due =>
    obtain ⟨hlapse, hstart, hwindow, hclosing, hperiod, hreset, hgap⟩ := single_due (s := s)
    refine ⟨fun n => ?_, fun n seat => ?_, fun n seat => ?_, fun n => ?_, fun n p => ?_, fun n => ?_,
      hlapse.trans (lapseReached_iff s), hstart.trans (startDue_iff s), hwindow.trans (windowEndDue_iff s),
      hclosing.trans (closingDue_iff s), hperiod.trans (periodEndDue_iff s), hreset, hgap.trans (Rx.overdue_iff _ _)⟩
    · rw [offerTimeout_due, exists_mem_iff_findBy hs.orders]
      simp only [Order.offerReached_iff, orderOf]
      exact ⟨fun ⟨o, ho, hstate, e, he⟩ => ⟨o, e, ho, hstate, he⟩, fun ⟨o, e, ho, hstate, he⟩ => ⟨o, ho, hstate, e, he⟩⟩
    · rw [warning_due, exists_mem_iff_findBy hs.trucks]
      simp only [Watch.warnReached_iff, watchOf, truckOf, Option.map_eq_some_iff]
      refine and_congr_right fun _ => ⟨?_, ?_⟩
      · rintro ⟨t, ht, hw, d, hd⟩
        exact ⟨_, d, ⟨t, ht, rfl⟩, hw, hd⟩
      · rintro ⟨_, d, ⟨t, ht, rfl⟩, hw, hd⟩
        exact ⟨t, ht, hw, d, hd⟩
    · rw [deadline_due, exists_mem_iff_findBy hs.trucks]
      simp only [Watch.deadlineReached_iff, watchOf, truckOf, Option.map_eq_some_iff]
      refine and_congr_right fun _ => ⟨?_, ?_⟩
      · rintro ⟨t, ht, hw, d, hd⟩
        exact ⟨_, d, ⟨t, ht, rfl⟩, hw, hd⟩
      · rintro ⟨_, d, ⟨t, ht, rfl⟩, hw, hd⟩
        exact ⟨t, ht, hw, d, hd⟩
    · rw [decisionTimeout_due]
      simp only [and_comm]
    · rw [discardTime_due, exists_mem_iff_findBy hs.trucks]
      simp only [Rec.discardReached_iff, truckOf, and_comm]
    · rw [beaconTimeout_due]
      simp only [Site.timedOut_iff]
      exact exists_congr fun x => and_congr_right fun _ => and_comm

end Sys2Proof.Machine

/-!
PROOFS. The warm reset: the state its first cycle starts from, and that cycle's start with no truck in the register.
-/
namespace Sys2Proof.Machine

/-- The state a warm reset starts its first cycle from (R184). -/
def warmStart (s : State) : State :=
  { s with
    port := s.port.afterWarm
    sup := s.sup.afterWarm s.now
    trucks := [], orders := [], permits := [], points := [], asks := []
    air := s.air.afterWarm
    sites := s.sites.map (Site.afterWarm s.now)
    load := s.load.afterWarm s.nowMs }

/-- The state of a cycle start before its list is taken up (R135, R168). -/
def cycleBegun (first : Bool) (s : State) : State :=
  { s with
    air := { s.air with
      cycle := if first then 0 else (s.air.cycle + 1) % 256, startTime := s.nowMs, rate := s.air.rateWaiting.getD s.air.rate
      rateWaiting := none, nextStart := s.nowMs + (bandEntryInForce s).interval * 1000, startReached := false
      phase := .list, urgentRun := 0 }
    load := s.load.applyStaged }

theorem startCycle_eq (first : Bool) (s : State) : startCycle first s = takeEntries enterGap (formList (cycleBegun first s))
    { cycleBegun first s with air := { (cycleBegun first s).air with list := formList (cycleBegun first s) } } := rfl

/-- With no truck in the register the arbiter picks none (R141). -/
theorem askInGap_of_no_trucks {s : State} (h : s.trucks = []) : askInGap s = s := by
  have hpick : arbiterPick s = none := by simp [arbiterPick, h, firstClaim]
  simp only [askInGap, hpick]

/-- With no truck in the register a cycle's list is empty, and its window follows at once (R135, R142). -/
theorem startCycle_of_no_trucks {s : State} (first : Bool) (h : s.trucks = []) : startCycle first s =
    enterWindow enterGap { cycleBegun first s with air := { (cycleBegun first s).air with list := [] } } := by
  have hlist : formList (cycleBegun first s) = [] := by
    have htrucks : (cycleBegun first s).trucks = [] := h
    simp [formList, htrucks]
  rw [startCycle_eq, hlist]
  rfl

theorem enterWindow_none {s : State} (past : State → State) (h : s.air.slots = 0) : enterWindow past s = past s :=
  if_pos h

theorem enterWindow_some {s : State} (past : State → State) (h : s.air.slots ≠ 0) : enterWindow past s =
    { handOver s (.open s.air.slots) 8 with air := { (handOver s (.open s.air.slots) 8).air with
        phase := .window, winSlots := s.air.slots
        winEnd := s.nowMs + airtime 8 s.air.rate + s.air.slots * 300 } } := if_neg h

/-- The state of a warm reset whose first cycle has begun with an empty list. -/
def warmBegun (s : State) : State :=
  { cycleBegun true (warmStart s) with air := { (cycleBegun true (warmStart s)).air with list := [] } }

/-- What the first cycle of a warm reset comes to: an empty list, and the window or, with 0 slots, the GAP (R134, R142). -/
theorem warm_frame (s : State) : ∃ p w e x l, p = (if s.air.slots = 0 then Phase.gap else .window) ∧
    warm s = { warmBegun s with
      air := { (warmBegun s).air with phase := p, winSlots := w, winEnd := e, ttx := x }
      load := { (warmBegun s).load with sent := l } } := by
  have hbegun : warm s = enterWindow enterGap (warmBegun s) := startCycle_of_no_trucks true rfl
  rw [hbegun]
  by_cases h : s.air.slots = 0
  · rw [enterWindow_none _ (show (warmBegun s).air.slots = 0 from h), enterGap, askInGap_of_no_trucks rfl]
    exact ⟨_, _, _, _, _, (if_pos h).symm, rfl⟩
  · rw [enterWindow_some _ (show (warmBegun s).air.slots ≠ 0 from h)]
    exact ⟨_, _, _, _, _, (if_neg h).symm, rfl⟩

/-- What a warm reset leaves of the Load Meter, whatever frames have ended by then (R161). -/
theorem load_afterWarm (m : Load) (t : Nat) : m.afterWarm t = { m with
    periodStart := t, busy := 0, carrier := m.carrier.map fun _ => t, sample := none, covers := []
    sent := m.sent.filter fun x => !endedBy t x } := by
  unfold Load.afterWarm
  rw [settle_eq]

/-- The warm reset takes effect once RESTART's reply has gone, and leaves nothing to settle (R184). -/
theorem exec_warmReset {s : State} (h : Live s) :
    exec .warmReset s = .next (if s.port.restart = .replied then warm s else s) := by
  obtain ⟨hheld, hquiet⟩ := h
  refine (event_live _ hheld).trans (congrArg _ (settleEvent_of_quiet ?_))
  split
  · exact (startCycle_keeps true (warmStart s) .askArb (by decide)).trans hquiet
  · exact hquiet

/-- Settles O5: the fields of the state the first cycle starts from, and what its start adds to them. -/
theorem warmResetKeepsConfiguration : Obligations.WarmResetKeepsConfiguration := by
  unfold Obligations.WarmResetKeepsConfiguration
  intro s h
  by_cases hdue : s.port.restart = .replied
  · rw [if_pos hdue]
    refine ⟨warm s, by rw [exec_warmReset h, if_pos hdue], ?_⟩
    obtain ⟨p, w, e, x, l, hp, hwarm⟩ := warm_frame s
    have hload : (warmBegun s).load = (_ : Load).applyStaged :=
      congrArg Load.applyStaged (load_afterWarm s.load s.nowMs)
    have hentry : bandEntryInForce (warmStart s) = bandEntryInForce s := by
      unfold bandEntryInForce
      rw [show (warmStart s).load = _ from load_afterWarm s.load s.nowMs]
    have hstart : s.nowMs + (bandEntryInForce (warmStart s)).interval * 1000 =
        s.nowMs + (bandEntryInForce s).interval * 1000 := by rw [hentry]
    rw [hwarm, hload]
    exact ⟨rfl, rfl, rfl, rfl, rfl, rfl, rfl, rfl, rfl, rfl, rfl, rfl, rfl, rfl, rfl, rfl, hstart, rfl, rfl, rfl, rfl, rfl,
      rfl, rfl, rfl, rfl, hp, rfl, rfl, rfl, rfl, rfl, rfl, rfl, rfl, rfl, rfl⟩
  · rw [if_neg hdue, exec_warmReset h, if_neg hdue]

end Sys2Proof.Machine

/-!
PROOFS. The console port of spec/11_the_console_link.md: the notice queue, the choice of the next frame on CTX, the end of
a frame, the octets on CRX and the command a console frame makes.
-/
namespace Sys2Proof.Machine

/-! ## The notice queue (R180) -/

theorem dropOldestRoutine_none {l : List Notice} (h : ∀ m ∈ l, m.body.isAlarmClass = true) : dropOldestRoutine l = none := by
  induction l with
  | nil => rfl
  | cons n l ih =>
    have hn := h n List.mem_cons_self
    simp [dropOldestRoutine, hn, ih fun m hm => h m (List.mem_cons_of_mem _ hm)]

theorem dropOldestRoutine_some {a b : List Notice} {r : Notice} (ha : ∀ m ∈ a, m.body.isAlarmClass = true)
    (hr : r.body.isAlarmClass = false) : dropOldestRoutine (a ++ r :: b) = some (a ++ b) := by
  induction a with
  | nil => simp [dropOldestRoutine, hr]
  | cons n a ih =>
    have hn := ha n List.mem_cons_self
    simp [dropOldestRoutine, hn, ih fun m hm => ha m (List.mem_cons_of_mem _ hm)]

section
variable (p : Port) (n : Notice)

theorem enqueue_room (h : p.notices.length < 64) : p.enqueue n = { p with notices := p.notices ++ [n] } := if_pos h

theorem enqueue_discarded (hfull : 64 ≤ p.notices.length) (h : ∀ m ∈ p.notices, m.body.isAlarmClass = true) :
    p.enqueue n = { p with sticky := { p.sticky with noticesLost := true } } := by
  unfold Port.enqueue
  rw [if_neg (by omega), dropOldestRoutine_none h]

theorem enqueue_displacing {a b : List Notice} {r : Notice} (hfull : 64 ≤ p.notices.length) (h : p.notices = a ++ r :: b)
    (ha : ∀ m ∈ a, m.body.isAlarmClass = true) (hr : r.body.isAlarmClass = false) :
    p.enqueue n = { p with notices := a ++ b ++ [n], sticky := { p.sticky with noticesLost := true } } := by
  unfold Port.enqueue
  rw [if_neg (by omega), h, dropOldestRoutine_some ha hr]

end

theorem isAlarmClass_iff (b : NoticeBody) : b.isAlarmClass = true ↔
    ((∃ t u c m z l d, b = .alarm t u c m z l d) ∨ (∃ t u i l, b = .contact t u i l) ∨
     (∃ q x y l c, b = .holdConflict q x y l c) ∨ (∃ l w a x n, b = .consoleLapsed l w a x n)) := by
  cases b <;> simp [NoticeBody.isAlarmClass]

/-- Settles O8: a queue with room, a full one by whether it holds a ROUTINE notice, and the two resets. -/
theorem noticeOverflowByClass : Obligations.NoticeOverflowByClass := by
  unfold Obligations.NoticeOverflowByClass
  refine ⟨fun _ _ => rfl, fun p n => ⟨enqueue_room p n, enqueue_discarded p n, fun a r b hfull h ha hr =>
    enqueue_displacing p n hfull h ha hr⟩, isAlarmClass_iff, fun s t h => ?cold, fun s t hs hdue h => ?warm⟩
  case cold =>
    obtain rfl := Host.Outcome.next.inj h
    rfl
  case warm =>
    rw [exec_warmReset hs, if_pos hdue] at h
    obtain rfl := Host.Outcome.next.inj h
    obtain ⟨p, w, e, x, l, -, hwarm⟩ := warm_frame s
    rw [hwarm]
    exact ⟨rfl, rfl⟩

/-! ## The next frame on CTX (R179) -/

section
variable {s : State}

theorem kick_of_busy (h : s.port.ctx.isSome = true ∨ s.port.restart = .replied) : kick s = s := by
  simp [kick, h]

theorem kick_free (hctx : s.port.ctx = none) (hreset : s.port.restart ≠ .replied) : kick s =
    match s.port.buffer with
    | e :: _ => { s with port := { s.port with ctx := some (.reply e) } }
    | [] =>
      match s.port.notices with
      | n :: l => if flowOpen s then { s with port := { s.port with ctx := some (.notice n), notices := l } } else s
      | [] => s := by
  unfold kick
  exact if_neg (by simp [hctx, hreset])

theorem flowOpen_of_valid {v : Nat} (h : s.sup.lastValid = some v) :
    flowOpen s = decide (s.now < v + s.sup.window) := by
  simp only [flowOpen, h]

theorem flowOpen_of_none (h : s.sup.lastValid = none) : flowOpen s = false := by simp only [flowOpen, h]

theorem kick_of_closed (hctx : s.port.ctx = none) (hreset : s.port.restart ≠ .replied) (hbuffer : s.port.buffer = [])
    (hflow : flowOpen s = false) : kick s = s := by
  rw [kick_free hctx hreset, hbuffer]
  cases s.port.notices <;> simp [hflow]

end

/-- Which frame CTX takes, by whether it is free and by what waits. -/
theorem kick_cases (s : State) :
    (s.port.ctx.isSome = true ∨ s.port.restart = .replied → kick s = s) ∧
    (s.port.ctx = none → s.port.restart ≠ .replied →
      (∀ e l, s.port.buffer = e :: l → kick s = { s with port := { s.port with ctx := some (.reply e) } }) ∧
      (∀ n l v, s.port.buffer = [] → s.port.notices = n :: l → s.sup.lastValid = some v → s.now < v + s.sup.window →
        kick s = { s with port := { s.port with ctx := some (.notice n), notices := l } }) ∧
      (∀ v, s.port.buffer = [] → s.sup.lastValid = some v → v + s.sup.window ≤ s.now → kick s = s) ∧
      (s.port.buffer = [] → s.sup.lastValid = none → kick s = s) ∧
      (s.port.buffer = [] → s.port.notices = [] → kick s = s)) := by
  refine ⟨kick_of_busy, fun hctx hreset => ⟨fun e l hb => ?_, fun n l v hb hn hv hopen => ?_, fun v hb hv hclosed => ?_,
    fun hb hv => ?_, fun hb hn => ?_⟩⟩
  · simp only [kick_free hctx hreset, hb]
  · simp only [kick_free hctx hreset, hb, hn, flowOpen_of_valid hv, hopen, decide_true, if_true]
  · exact kick_of_closed hctx hreset hb (by rw [flowOpen_of_valid hv, decide_eq_false (by omega)])
  · exact kick_of_closed hctx hreset hb (flowOpen_of_none hv)
  · simp only [kick_free hctx hreset, hb, hn]

/-! ## The end of a frame on CTX (R178, R183, R184) -/

/-- An event that gives the arbiter no occasion is its effect alone (R143). -/
theorem event_quiet {s : State} (h : Live s) (f : State → State) (hf : (f s).askArb = s.askArb) :
    event f s = .next (f s) := by
  rw [event_live f h.1, settleEvent_of_quiet (hf.trans h.2)]

theorem Entry.isSetLink_iff (e : Entry) : e.isSetLink = true ↔ e.kind = 0x30 ∧ e.code = .ok := by
  simp [Entry.isSetLink]

theorem Entry.isRestart_iff (e : Entry) : e.isRestart = true ↔ e.kind = 0x32 ∧ e.code = .ok := by
  simp [Entry.isRestart]

theorem Rx.receiving_iff (x : Rx) : x.receiving = true ↔ x ≠ .hunting := by cases x <;> simp [Rx.receiving]

theorem afterReply_eq {p : Port} {e : Entry} {l : List Entry} (hl : p.buffer = e :: l) (receiving : Bool) :
    p.afterReply receiving e =
      { p with
        rx := if e.kind = 0x30 ∧ e.code = .ok then .hunting else p.rx
        buffer := l, ctx := none
        rate := if e.kind = 0x30 ∧ e.code = .ok then p.rateToCome.getD p.rate else p.rate
        rateToCome :=
          if e.kind = 0x30 ∧ e.code = .ok then
            (if l.any (fun x => x.kind == 0x30 && x.code == .ok) then p.rateToCome else none)
          else p.rateToCome
        sticky :=
          if e.kind = 0x30 ∧ e.code = .ok ∧ (receiving = true ∨ p.rx ≠ .hunting) then
            { p.sticky with linkFault := true }
          else p.sticky
        restart := if e.kind = 0x32 ∧ e.code = .ok then .replied else p.restart } := by
  have hdrop : p.buffer.drop 1 = l := by rw [hl]; rfl
  simp only [Port.afterReply, changeRate, Port.dropRx, Entry.isSetLink_iff, Entry.isRestart_iff, hdrop, Bool.or_eq_true,
    Rx.receiving_iff]
  by_cases hset : e.kind = 0x30 ∧ e.code = .ok
  · obtain ⟨hkind, hcode⟩ := hset
    simp only [hkind, hcode, and_self, true_and, if_true]
    rfl
  · by_cases hrestart : e.kind = 0x32 ∧ e.code = .ok
    · obtain ⟨hkind, hcode⟩ := hrestart
      simp [hkind, hcode]
    · have hnot : ¬(e.kind = 0x30 ∧ e.code = .ok ∧ (receiving = true ∨ p.rx ≠ .hunting)) := fun h => hset ⟨h.1, h.2.1⟩
      rw [if_neg hset, if_neg hset, if_neg hset, if_neg hset, if_neg hnot, if_neg hrestart, if_neg hrestart]

section
variable {s : State} (h : Live s)
include h

theorem exec_replySent {e : Entry} (hctx : s.port.ctx = some (.reply e)) (receiving : Bool) :
    exec (.replySent receiving) s = .next (kick { s with port := s.port.afterReply receiving e }) := by
  have hgone : replyGone receiving s = kick { s with port := s.port.afterReply receiving e } := by
    simp only [replyGone, hctx]
  refine (event_quiet h (replyGone receiving) ?_).trans (congrArg _ hgone)
  rw [hgone]
  exact kick_keeps _ .askArb (by decide)

theorem exec_replySent_none (hctx : ∀ e, s.port.ctx ≠ some (.reply e)) (receiving : Bool) :
    exec (.replySent receiving) s = .next s := by
  have hgone : replyGone receiving s = s := by
    unfold replyGone
    split
    · exact absurd ‹_› (hctx _)
    · rfl
  exact (event_quiet h (replyGone receiving) (by rw [hgone])).trans (congrArg _ hgone)

theorem exec_noticeSent {n : Notice} (hctx : s.port.ctx = some (.notice n)) :
    exec .noticeSent s = .next (kick { s with port := { s.port with ctx := none } }) := by
  have hgone : noticeGone s = kick { s with port := { s.port with ctx := none } } := by simp only [noticeGone, hctx]
  refine (event_quiet h noticeGone ?_).trans (congrArg _ hgone)
  rw [hgone]
  exact kick_keeps _ .askArb (by decide)

theorem exec_noticeSent_none (hctx : ∀ n, s.port.ctx ≠ some (.notice n)) : exec .noticeSent s = .next s := by
  have hgone : noticeGone s = s := by
    unfold noticeGone
    split
    · exact absurd ‹_› (hctx _)
    · rfl
  exact (event_quiet h noticeGone (by rw [hgone])).trans (congrArg _ hgone)

/-! ## Faulty frames (R177, R146) -/

theorem exec_octetGap : exec .octetGap s = .next { s with
    port := { s.port with
      rx := (match s.port.rx with
        | .within got last => if last + 50 < s.nowMs then .hunting else .within got last
        | .hunting => .hunting)
      sticky := { s.port.sticky with linkFault := true } } } := by
  have hkept : (setLinkFault (dropOverdue s)).askArb = s.askArb :=
    (dropOverdue_keeps s).trans (setLinkFault_keeps _) .askArb (by decide)
  have hexec : exec .octetGap s = event (fun s => setLinkFault (dropOverdue s)) s := rfl
  rw [hexec, event_quiet h (fun s => setLinkFault (dropOverdue s)) hkept]
  unfold dropOverdue
  cases hrx : s.port.rx with
  | hunting => simp [Rx.overdue, setLinkFault, hrx]
  | within got last =>
    by_cases hlast : last + 50 < s.nowMs
    · simp [Rx.overdue, setLinkFault, Port.dropRx, hlast]
    · simp [Rx.overdue, setLinkFault, hrx, hlast]

end

/-! ## Octets on CRX (R177) -/

/-- The receiver changed, and the commands an octet completes behind the queue. -/
def received (s : State) (x : Rx) (l : List Instr) : State :=
  { s with port := { s.port with rx := x }, pending := s.pending ++ l }

section
variable {s : State} (hheld : s.held = false) (b : Octet)
include hheld

/-- An octet on CRX where the frame being received, if any, is not overdue. -/
theorem crxOctet_fresh (hrx : s.port.rx.overdue s.nowMs = false) :
    crxOctet s b = received s (s.port.rx.octet s.nowMs b).1 (s.port.rx.octet s.nowMs b).2.toList := by
  simp [crxOctet, hheld, Rx.gap, hrx, received]

theorem crxOctet_hunting (hrx : s.port.rx = .hunting) :
    crxOctet s b = if b = 0xD1 then received s (.within [] s.nowMs) [] else s := by
  rw [crxOctet_fresh hheld b (by rw [hrx]; rfl), hrx]
  unfold Rx.octet
  split_ifs
  · rfl
  · show received s .hunting [] = s
    unfold received
    rw [← hrx, List.append_nil]

/-- After a gap of more than 50 ms the frame fails and the octet is one between frames. -/
theorem crxOctet_overdue {got : List Octet} {last : Nat} (hrx : s.port.rx = .within got last)
    (hlast : last + 50 < s.nowMs) : crxOctet s b = crxOctet (received s .hunting [.octetGap]) b := by
  have hgap : (received s .hunting [.octetGap]).held = false := hheld
  rw [crxOctet_fresh hgap b rfl]
  have hfails : s.port.rx.gap s.nowMs = (.hunting, some .octetGap) := by
    unfold Rx.gap
    rw [hrx, if_pos (by simpa [Rx.overdue] using hlast)]
  unfold crxOctet
  rw [if_neg (by simp [hheld])]
  dsimp only
  rw [hfails]
  rfl

theorem crxOctet_within {got : List Octet} {last : Nat} (hrx : s.port.rx = .within got last)
    (hlast : ¬last + 50 < s.nowMs) :
    match got ++ [b] with
    | hi :: lo :: rest =>
      let n := hi.toNat * 256 + lo.toNat
      if n < 2 ∨ 402 < n then crxOctet s b = received s .hunting [.failedFrame .length]
      else if rest.length = n + 2 then crxOctet s b = received s .hunting [frameCommand (hi :: lo :: rest)]
      else crxOctet s b = received s (.within (hi :: lo :: rest) s.nowMs) []
    | l => crxOctet s b = received s (.within l s.nowMs) [] := by
  rw [crxOctet_fresh hheld b (by rw [hrx]; simpa [Rx.overdue] using hlast), hrx]
  unfold Rx.octet
  dsimp only
  match got ++ [b] with
  | [] => simp [frameLength, get16]
  | [a] => simp [frameLength, get16]
  | hi :: lo :: rest =>
    have hlength : frameLength (hi :: lo :: rest) = some (hi.toNat * 256 + lo.toNat) := rfl
    have hsound : lengthSound (hi.toNat * 256 + lo.toNat) = false ↔
        hi.toNat * 256 + lo.toNat < 2 ∨ 402 < hi.toNat * 256 + lo.toNat := by
      simp only [lengthSound, Bool.and_eq_false_iff, decide_eq_false_iff_not]
      omega
    have hwhole : (hi :: lo :: rest).length = hi.toNat * 256 + lo.toNat + 4 ↔
        rest.length = hi.toNat * 256 + lo.toNat + 2 := by simp
    simp only [hlength, hsound, hwhole]
    split_ifs <;> rfl

end

theorem crxOctet_of_held {s : State} (h : s.held = true) (b : Octet) : crxOctet s b = s := by simp [crxOctet, h]

/-! ## The command of a console frame (R177) -/

/-- A kind that names no request is read with any body (R177). -/
theorem readAll_getRequest_unknown {kind : Nat} (h : kind = 0 ∨ 0x33 ≤ kind) (tag : Nat) (body : List Octet) :
    readAll (getRequest kind tag) body = some (.unknownRequest kind tag) := by
  have hreader : getRequest kind tag = fun _ => some (.unknownRequest kind tag, []) := by
    unfold getRequest
    split <;> first | rfl | omega
  rw [hreader]
  rfl

theorem frameCommand_eq (kind tag hi lo : Octet) {body : List Octet} (h : body.length ≤ 400) :
    frameCommand (put16 (body.length + 2) ++ kind :: tag :: body ++ [hi, lo]) =
      if hi.toNat * 256 + lo.toNat = (crc (put16 (body.length + 2) ++ kind :: tag :: body)).toNat then
        (if kind.toNat = 0 ∨ 0x33 ≤ kind.toNat then .unknownRequest kind.toNat tag.toNat
         else (readAll (getRequest kind.toNat tag.toNat) body).getD (.failedFrame .body))
      else .failedFrame .crc := by
  have hget : get16 (put16 (body.length + 2) ++ kind :: tag :: body ++ [hi, lo]) =
      some (body.length + 2, kind :: tag :: body ++ [hi, lo]) := by
    rw [List.append_assoc]
    exact get16_put16 (by omega) _
  have hlength : ¬(lengthSound (body.length + 2) = false ∨ (kind :: tag :: body ++ [hi, lo]).length ≠ body.length + 2 + 2) := by
    simp [lengthSound]
    omega
  have hdrop : (kind :: tag :: body ++ [hi, lo]).drop (body.length + 2) = [hi, lo] := by simp
  have htake : (kind :: tag :: body ++ [hi, lo]).take (body.length + 2) = kind :: tag :: body := by simp
  have hcrc : (put16 (body.length + 2) ++ kind :: tag :: body ++ [hi, lo]).take (body.length + 2 + 2) =
      put16 (body.length + 2) ++ kind :: tag :: body := by
    refine List.take_left' ?_
    simp
    omega
  have hread : get16 [hi, lo] = some (hi.toNat * 256 + lo.toNat, []) := rfl
  unfold frameCommand
  simp only [hget, if_neg hlength, hdrop, htake, hcrc, hread, ne_eq, Option.some.injEq, Prod.mk.injEq, and_true, ite_not]
  by_cases hsound : hi.toNat * 256 + lo.toNat = (crc (put16 (body.length + 2) ++ kind :: tag :: body)).toNat
  · rw [if_pos hsound, if_pos hsound]
    split_ifs with hkind
    · rw [readAll_getRequest_unknown hkind]
    · cases readAll (getRequest kind.toNat tag.toNat) body <;> rfl
  · rw [if_neg hsound, if_neg hsound]

/-- Settles O9: the choice of the next frame, the ends of frames, the faults, the octets of CRX and the command they make,
each by its lemma. -/
theorem framesLeaveCtxInOrder : Obligations.FramesLeaveCtxInOrder := by
  unfold Obligations.FramesLeaveCtxInOrder
  refine ⟨kick_cases, fun s h => ⟨fun e l receiving hctx hl => ?_, fun n => exec_noticeSent h, exec_replySent_none h,
    exec_noticeSent_none h⟩, fun s h => ⟨fun why => event_quiet h setLinkFault rfl, exec_octetGap h,
      event_quiet h rejectFrame rfl⟩,
    fun s b => ⟨fun hheld => crxOctet_of_held hheld b, fun hheld hrx => crxOctet_hunting hheld b hrx,
      fun got last hheld hrx => ?_⟩, fun kind tag hi lo body h => frameCommand_eq kind tag hi lo h⟩
  · rw [exec_replySent h hctx, afterReply_eq hl]
  · split_ifs with hlast
    · exact crxOctet_overdue hheld b hrx hlast
    · exact crxOctet_within hheld b hrx hlast

end Sys2Proof.Machine

/-!
PROOFS. The housekeeping requests of spec/11_the_console_link.md section 11.4.
-/
namespace Sys2Proof.Machine

/-! ## Derived flags (R181) -/

theorem Truck.hasContext_iff (t : Truck) (x : WatchState) : t.hasContext x = true ↔ t.w1.state = x ∨ t.w2.state = x := by
  simp [Truck.hasContext]

theorem Causes.any_iff_has (c : Causes) : c.any = true ↔ ∃ x, c.has x = true := by
  constructor
  · intro h
    simp only [Causes.any, Bool.or_eq_true] at h
    obtain (((h | h) | h) | h) | h := h
    exacts [⟨.host, h⟩, ⟨.alarm, h⟩, ⟨.mismatch, h⟩, ⟨.conflict, h⟩, ⟨.site, h⟩]
  · rintro ⟨x, hx⟩
    cases x <;> simp_all [Causes.has, Causes.any]

theorem derivedFlags_iff (s : State) :
    ((derivedFlags s).alarmOpen = true ↔ ∃ t ∈ s.trucks, t.w1.state = .alarm ∨ t.w2.state = .alarm) ∧
    ((derivedFlags s).warnOpen = true ↔ ∃ t ∈ s.trucks, t.w1.state = .warn ∨ t.w2.state = .warn) ∧
    ((derivedFlags s).permitHalted = true ↔ ∃ p ∈ s.permits, ∃ c, p.causes.has c = true) ∧
    ((derivedFlags s).siteDown = true ↔ ∃ x ∈ s.sites, x.state = .down) ∧
    ((derivedFlags s).truckLost = true ↔ ∃ t ∈ s.trucks, t.reach = .lost) := by
  simp only [derivedFlags, List.any_eq_true, Truck.hasContext_iff, Causes.any_iff_has, anyDown, beq_iff_eq, and_self]

/-! ## Stamps (R182) -/

theorem stampInt_eq (s : State) (x : Int) : (stampInt s x : Int) = (x + (s.clock.offset : Int)) % 4294967295 := by
  unfold stampInt
  exact Int.toNat_of_nonneg (Int.emod_nonneg _ (by decide))

/-- The offset for a value makes a stamp taken at that second the value. -/
theorem stamp_offsetFor {v : Nat} (h : v < 4294967295) (sec : Nat) : (sec + offsetFor v sec) % 4294967295 = v := by
  unfold offsetFor
  omega

/-! ## The requests -/

theorem linkRateOf_eq (rate : Nat) : linkRateOf rate = [57600, 115200, 230400, 460800][rate]? := by
  match rate with
  | 0 | 1 | 2 | 3 => rfl
  | _ + 4 => rfl

section
variable {s : State} (h : Ready s) (tag : Nat)
include h

theorem exec_status : exec (.status tag) s =
    .next { answered s 0x2D tag .ok (.status (statusReport s)) with
      port := { (answered s 0x2D tag .ok (.status (statusReport s))).port with
        sticky := { restarted := false, linkFault := false, lapsed := false, noticesLost := false } } } :=
  request_answered_quiet h 0x2D tag serveStatus rfl rfl

/-- SET_TIME takes the value 4294967295 as one less, and sets the offset to it (R182). -/
theorem exec_setTime (v : Nat) : exec (.setTime tag v) s =
    .next { answered s 0x2F tag (okOr (min v 4294967294 != v)) (.time s.clock.sec) with
      clock := { s.clock with offset := offsetFor (min v 4294967294) s.clock.sec } } := by
  have hexec : exec (.setTime tag v) s =
      .next (setTime v (answered s 0x2F tag (okOr (min v 4294967294 != v)) (.time s.clock.sec))).1 :=
    request_answered_quiet h 0x2F tag (setTime v) rfl rfl
  have hclock : (answered s 0x2F tag (okOr (min v 4294967294 != v)) (.time s.clock.sec)).clock = s.clock :=
    answered_keeps s _ _ _ _ .clock (by decide)
  rw [hexec]
  simp only [setTime]
  rw [hclock]

theorem exec_setLink {rate r : Nat} (hr : linkRateOf rate = some r) : exec (.setLink tag rate) s =
    .next { answered s 0x30 tag .ok (.link r) with
      port := { (answered s 0x30 tag .ok (.link r)).port with rateToCome := some r } } := by
  have hserved : ∀ u, setLink rate u = ({ u with port := { u.port with rateToCome := some r } },
      { code := .ok, body := .link r }) := fun u => by simp only [setLink, hr]
  have hexec : exec (.setLink tag rate) s = _ := request_answered_quiet h 0x30 tag (setLink rate)
    (congrArg Prod.snd (hserved _)) (by rw [hserved])
  rw [hexec, hserved]

theorem setLink_refuses {rate : Nat} (hr : linkRateOf rate = none) : Refuses (.setLink tag rate) s .badField :=
  refuses_of_refuse h rfl rfl fun u _ => by simp only [setLink, hr]

end

/-- Settles O10: each request's next state, and the flags, stamps and rates it speaks of. -/
theorem housekeepingRequests : Obligations.HousekeepingRequests := by
  unfold Obligations.HousekeepingRequests
  intro s tag h
  refine ⟨⟨statusReport s, _, exec_status h tag, rfl, rfl, rfl, rfl, rfl, rfl, rfl, rfl, rfl, rfl, rfl, rfl,
      derivedFlags_iff s⟩, ⟨fun _ => rfl, fun _ => rfl, stampInt_eq s⟩, fun v hv => ?time, fun rate r hr => ?link,
    fun rate hrate => ?badRate, ?restart,
    ⟨Config.vendorCode, Config.siliconRevision, ?identify⟩, ?keepalive, fun kind => ?unknown⟩
  case time =>
    have hcode : okOr (min v 4294967294 != v) = if v = 4294967295 then .clamped else .ok := by
      rw [okOr_bne]
      by_cases hlast : v = 4294967295
      · simp [hlast]
      · rw [if_pos (by omega), if_neg hlast]
    refine ⟨_, exec_setTime h tag v, stamp_offsetFor (by omega) s.clock.sec, ?_⟩
    rw [hcode]
  case link => exact exec_setLink h tag ((linkRateOf_eq rate).trans hr)
  case badRate => exact setLink_refuses h tag ((linkRateOf_eq rate).trans (List.getElem?_eq_none hrate))
  case restart => exact request_answered_quiet h 0x32 tag serveRestart rfl rfl
  case identify => exact request_unchanged h 0x2E tag serveIdentify rfl rfl
  case keepalive => exact request_unchanged h 0x31 tag serveKeepalive rfl rfl
  case unknown => exact request_unchanged h kind tag _ rfl rfl

end Sys2Proof.Machine

/-!
PROOFS. The requests that set one setting: what the state with a reply is read as, the codes OK and CLAMPED, and the
statement.
-/
namespace Sys2Proof.Machine

/-! ## Reads of the state with a reply -/

section
variable (s : State) (k tag : Nat) (c : Result) (b : ReplyBody)

@[simp] theorem answered_clock : (answered s k tag c b).clock = s.clock := answered_keeps s k tag c b .clock (by decide)
@[simp] theorem answered_trucks : (answered s k tag c b).trucks = s.trucks := answered_keeps s k tag c b .trucks (by decide)
@[simp] theorem answered_orders : (answered s k tag c b).orders = s.orders := answered_keeps s k tag c b .orders (by decide)
@[simp] theorem answered_permits : (answered s k tag c b).permits = s.permits :=
  answered_keeps s k tag c b .permits (by decide)
@[simp] theorem answered_points : (answered s k tag c b).points = s.points := answered_keeps s k tag c b .points (by decide)
@[simp] theorem answered_asks : (answered s k tag c b).asks = s.asks := answered_keeps s k tag c b .asks (by decide)
@[simp] theorem answered_timeouts : (answered s k tag c b).timeouts = s.timeouts :=
  answered_keeps s k tag c b .timeouts (by decide)
@[simp] theorem answered_air : (answered s k tag c b).air = s.air := answered_keeps s k tag c b .air (by decide)
@[simp] theorem answered_sites : (answered s k tag c b).sites = s.sites := answered_keeps s k tag c b .sites (by decide)
@[simp] theorem answered_policy : (answered s k tag c b).policy = s.policy := answered_keeps s k tag c b .policy (by decide)
@[simp] theorem answered_graces : (answered s k tag c b).graces = s.graces := answered_keeps s k tag c b .graces (by decide)
@[simp] theorem answered_load : (answered s k tag c b).load = s.load := answered_keeps s k tag c b .load (by decide)

end

/-! ## Codes -/

/-- OK exactly where nothing given was changed. -/
theorem okOr_eq {b : Bool} {P : Prop} [Decidable P] (h : b = false ↔ P) : okOr b = if P then .ok else .clamped := by
  cases b with
  | false => rw [if_pos (h.mp rfl)]; rfl
  | true => rw [if_neg (mt h.mpr (by simp))]; rfl

theorem airRateOf_eq (rate : Nat) : airRateOf rate = [4800, 9600, 19200][rate]? := by
  match rate with
  | 0 | 1 | 2 => rfl
  | _ + 3 => rfl

theorem Thresholds.ordered_iff (x : Thresholds) :
    x.ordered = true ↔ x.t1 + x.h ≤ x.t2 ∧ x.t2 + x.h ≤ x.t3 ∧ x.t3 + x.h ≤ 1000 := by
  simp only [Thresholds.ordered, Bool.and_eq_true, decide_eq_true_eq, and_assoc]

/-- The entry set is that of the zones of the range (R159). -/
theorem setGraces_getD (l : List Nat) (a b g : Nat) {z : Nat} (hlo : 1 ≤ z) (hhi : z ≤ 250) :
    (setGraces l a b g).getD (z - 1) 0 = if a ≤ z ∧ z ≤ b then g else l.getD (z - 1) 0 := by
  have hz : z - 1 + 1 = z := by omega
  have hlt : z - 1 < 250 := by omega
  simp only [setGraces, List.getD_eq_getElem?_getD, List.getElem?_map, List.getElem?_range hlt, Option.map_some,
    Option.getD_some, hz]

/-! ## The requests -/

section
variable {s : State} (h : Ready s) (tag : Nat)
include h

theorem exec_setDecisionTimeout (v : Nat) : exec (.setDecisionTimeout tag v) s = .next
    { answered s 0x19 tag (if 30 ≤ v ∧ v ≤ 600 then .ok else .clamped) .none with
      timeouts := { s.timeouts with decision := clamp 30 600 v } } := by
  have hcarried : exec (.setDecisionTimeout tag v) s = _ :=
    request_carried_quiet (k := 0x19) (tag := tag) (f := setDecisionTimeout v)
      (g := fun u => { u with timeouts := { u.timeouts with decision := clamp 30 600 v } }) h (fun _ _ => rfl) fun _ => rfl
  rw [hcarried, okOr_eq (P := 30 ≤ v ∧ v ≤ 600) (by simpa using clamp_eq_self (by decide)), answered_timeouts]

theorem exec_setAnswerDiscard (v : Nat) : exec (.setAnswerDiscard tag v) s = .next
    { answered s 0x1D tag (if 60 ≤ v ∧ v ≤ 1800 then .ok else .clamped) .none with
      timeouts := { s.timeouts with discard := clamp 60 1800 v } } := by
  have hcarried : exec (.setAnswerDiscard tag v) s = _ :=
    request_carried_quiet (k := 0x1D) (tag := tag) (f := setAnswerDiscard v)
      (g := fun u => { u with timeouts := { u.timeouts with discard := clamp 60 1800 v } }) h (fun _ _ => rfl) fun _ => rfl
  rw [hcarried, okOr_eq (P := 60 ≤ v ∧ v ≤ 1800) (by simpa using clamp_eq_self (by decide)), answered_timeouts]

theorem setAir_refuses {rate : Nat} (hr : airRateOf rate = none) (window slots budget : Nat) :
    Refuses (.setAir tag rate window slots budget) s .badField :=
  refuses_of_refuse h rfl rfl fun u _ => by simp only [setAir, hr]

theorem exec_setAir {rate r : Nat} (hr : airRateOf rate = some r) (window slots budget : Nat) :
    exec (.setAir tag rate window slots budget) s = .next
      { answered s 0x1F tag
          (if 200 ≤ window ∧ window ≤ 2000 ∧ slots ≤ 8 ∧ 5 ≤ budget ∧ budget ≤ 12 then .ok else .clamped)
          (.airSettings r (clamp 200 2000 window) (clamp 0 8 slots) (clamp 5 12 budget)) with
        air := { s.air with
          rateWaiting := some r, replyWindow := clamp 200 2000 window, slots := clamp 0 8 slots
          budget := clamp 5 12 budget } } := by
  have hserved : ∀ u, setAir rate window slots budget u = ({ u with air := { u.air with
        rateWaiting := some r, replyWindow := clamp 200 2000 window, slots := clamp 0 8 slots
        budget := clamp 5 12 budget } },
      { code := okOr (clamp 200 2000 window != window || clamp 0 8 slots != slots || clamp 5 12 budget != budget)
        body := .airSettings r (clamp 200 2000 window) (clamp 0 8 slots) (clamp 5 12 budget) }) := fun u => by
    simp only [setAir, hr]
  have hcarried : exec (.setAir tag rate window slots budget) s = _ :=
    request_answered_quiet h 0x1F tag (setAir rate window slots budget) (congrArg Prod.snd (hserved _)) (by rw [hserved])
  rw [hcarried, hserved, okOr_eq (P := 200 ≤ window ∧ window ≤ 2000 ∧ slots ≤ 8 ∧ 5 ≤ budget ∧ budget ≤ 12), answered_air]
  simp only [Bool.or_eq_false_iff, bne_eq_false_iff_eq, clamp_eq_self (show 200 ≤ 2000 by decide),
    clamp_eq_self (show 0 ≤ 8 by decide), clamp_eq_self (show 5 ≤ 12 by decide)]
  omega

theorem setZoneGrace_refuses {first last : Nat} (hrange : clamp 1 250 last < clamp 1 250 first) (grace : Nat) :
    Refuses (.setZoneGrace tag first last grace) s .badField :=
  refuses_of_refuse h rfl rfl fun _ _ => if_pos hrange

theorem exec_setZoneGrace {first last : Nat} (hrange : ¬clamp 1 250 last < clamp 1 250 first) (grace : Nat) :
    exec (.setZoneGrace tag first last grace) s = .next
      { answered s 0x24 tag
          (if clamp 1 250 first = first ∧ clamp 1 250 last = last ∧ clamp 0 300 grace = grace then .ok else .clamped)
          (.graces (clamp 1 250 first) (clamp 1 250 last) (clamp 0 300 grace)) with
        graces := setGraces s.graces (clamp 1 250 first) (clamp 1 250 last) (clamp 0 300 grace) } := by
  have hcarried : exec (.setZoneGrace tag first last grace) s = _ :=
    request_carried_quiet (k := 0x24) (tag := tag) (f := setZoneGrace first last grace)
      (g := fun u => { u with graces := setGraces u.graces (clamp 1 250 first) (clamp 1 250 last) (clamp 0 300 grace) }) h
      (fun u _ => if_neg hrange) fun _ => rfl
  rw [hcarried, okOr_eq (P := clamp 1 250 first = first ∧ clamp 1 250 last = last ∧ clamp 0 300 grace = grace)
    (by simp [and_assoc]), answered_graces]

theorem setLoadBands_refuses {t1 t2 t3 g : Nat} (hx : ¬(({
      t1 := clamp 1 1000 t1, t2 := clamp 1 1000 t2, t3 := clamp 1 1000 t3, h := clamp 0 100 g } : Thresholds).ordered = true)) :
    Refuses (.setLoadBands tag t1 t2 t3 g) s .badOrder :=
  refuses_of_refuse h rfl rfl fun _ _ => if_neg hx

theorem exec_setLoadBands {t1 t2 t3 g : Nat} {x : Thresholds}
    (hgiven : x = { t1 := clamp 1 1000 t1, t2 := clamp 1 1000 t2, t3 := clamp 1 1000 t3, h := clamp 0 100 g })
    (hx : x.ordered = true) : exec (.setLoadBands tag t1 t2 t3 g) s = .next
      { answered s 0x27 tag (if x.t1 = t1 ∧ x.t2 = t2 ∧ x.t3 = t3 ∧ x.h = g then .ok else .clamped)
          (.bands x (stamp s ((s.load.periodStart + 10000) / 1000))) with
        load := { s.load with thrStaged := some x } } := by
  have hserved : ∀ u, setLoadBands t1 t2 t3 g u = ({ u with load := { u.load with thrStaged := some x } },
      { code := okOr (x.t1 != t1 || x.t2 != t2 || x.t3 != t3 || x.h != g)
        body := .bands x (stamp u (u.load.periodEnd / 1000)) }) := fun u => by
    subst hgiven
    exact if_pos hx
  have hcarried : exec (.setLoadBands tag t1 t2 t3 g) s = _ :=
    request_answered_quiet h 0x27 tag (setLoadBands t1 t2 t3 g) (congrArg Prod.snd (hserved _)) (by rw [hserved])
  rw [hcarried, hserved, okOr_eq (P := x.t1 = t1 ∧ x.t2 = t2 ∧ x.t3 = t3 ∧ x.h = g) (by simp [and_assoc]), answered_load]
  rfl

theorem setBandEntry_refuses {band : Nat} (hband : 3 < band) (interval allowance : Nat) :
    Refuses (.setBandEntry tag band interval allowance) s .badField :=
  refuses_of_refuse h rfl rfl fun _ _ => if_pos hband

theorem exec_setBandEntry {band interval allowance : Nat} (hband : ¬3 < band) {e : BandEntry}
    (he : e = { interval := clamp 10 600 interval, allowance := clamp 0 120 allowance }) :
    exec (.setBandEntry tag band interval allowance) s = .next
      { answered s 0x28 tag (if e.interval = interval ∧ e.allowance = allowance then .ok else .clamped) (.bandEntry e) with
        load := { s.load with staged := s.load.staged.set band (some e) } } := by
  subst he
  have hcarried : exec (.setBandEntry tag band interval allowance) s = _ :=
    request_carried_quiet (k := 0x28) (tag := tag) (f := setBandEntry band interval allowance)
      (g := fun u => { u with load := { u.load with staged := u.load.staged.set band (some _) } }) h
      (fun _ _ => if_neg hband) fun _ => rfl
  rw [hcarried, okOr_eq (P := clamp 10 600 interval = interval ∧ clamp 0 120 allowance = allowance) (by simp),
    answered_load]

end

/-- Settles O22: each request by its refusal, its code and the one setting it changes. -/
theorem settingsRequestsSetOneSetting : Obligations.SettingsRequestsSetOneSetting := by
  unfold Obligations.SettingsRequestsSetOneSetting
  intro s tag h
  refine ⟨exec_setDecisionTimeout h tag, exec_setAnswerDiscard h tag, fun rate window slots budget => ?air,
    fun first last grace => ?zone, fun t1 t2 t3 g => ?bands, fun band interval allowance => ?entry⟩
  case air =>
    rw [← airRateOf_eq]
    split
    · exact setAir_refuses h tag ‹_› window slots budget
    · exact exec_setAir h tag ‹_› window slots budget
  case zone =>
    dsimp only
    split
    · exact setZoneGrace_refuses h tag ‹_› grace
    · exact ⟨_, exec_setZoneGrace h tag ‹_› grace, fun z => setGraces_getD _ _ _ _, rfl⟩
  case bands =>
    dsimp only
    split
    · exact exec_setLoadBands h tag rfl ((Thresholds.ordered_iff _).mpr ‹_›)
    · exact setLoadBands_refuses h tag (mt (Thresholds.ordered_iff _).mp ‹_›)
  case entry =>
    dsimp only
    split
    · exact setBandEntry_refuses h tag ‹_› interval allowance
    · exact exec_setBandEntry h tag ‹_› rfl

end Sys2Proof.Machine

/-!
PROOFS. The Load Meter of spec/09_channel_load_and_bands.md: frames counted at their end, the carrier time no counted
frame covers, carrier edges and the period end.
-/
namespace Sys2Proof.Machine

variable {A : Right → Prop}

/-! ## Frames counted (R163) -/

theorem settle_of_running {m : Load} {t : Nat} (h : ∀ x ∈ m.sent, t < x.hi) : m.settle t = m := by
  have hnone : ∀ x ∈ m.sent, endedBy t x = false := fun x hx => by
    have := h x hx
    simp only [endedBy, Bool.or_eq_false_iff, decide_eq_false_iff_not, Bool.and_eq_false_iff, beq_eq_false_iff_ne]
    omega
  have hended : m.sent.filter (endedBy t) = [] := List.filter_eq_nil_iff.mpr fun x hx => by simp [hnone x hx]
  have hkept : (m.sent.filter fun x => !endedBy t x) = m.sent := List.filter_eq_self.mpr fun x hx => by simp [hnone x hx]
  unfold Load.settle
  rw [hended, hkept]
  rfl

/-- Frames counted one after another. -/
theorem count_foldl_eq (l : List Span) (m : Load) : l.foldl Load.count m =
    { m with
      busy := m.busy + (l.map fun x => x.hi - x.lo).sum
      covers := if m.carrier.isSome = true then m.covers ++ l else m.covers } := by
  induction l generalizing m with
  | nil => cases hm : m.carrier.isSome <;> simp
  | cons x l ih =>
    rw [List.foldl_cons, ih]
    unfold Load.count
    cases hm : m.carrier.isSome <;> simp [Nat.add_assoc]

theorem settle_of_ended {m : Load} {t : Nat} (h : ∀ x ∈ m.sent, x.hi < t) : m.settle t =
    { m with
      busy := m.busy + (m.sent.map fun x => x.hi - x.lo).sum, sent := []
      covers := if m.carrier.isSome = true then m.covers ++ m.sent else m.covers } := by
  have hall : ∀ x ∈ m.sent, endedBy t x = true := fun x hx => by simp [endedBy, h x hx]
  have hended : m.sent.filter (endedBy t) = m.sent := List.filter_eq_self.mpr hall
  have hkept : (m.sent.filter fun x => !endedBy t x) = [] := List.filter_eq_nil_iff.mpr fun x hx => by simp [hall x hx]
  unfold Load.settle
  rw [hended, hkept, count_foldl_eq]

theorem busy_le_settle (m : Load) (t : Nat) : m.busy ≤ (m.settle t).busy := by
  unfold Load.settle
  rw [count_foldl_eq]
  exact Nat.le_add_right _ _

theorem uplink_of_none_sent {m : Load} (h : m.sent = []) (t d : Nat) : m.uplink t d =
    { m with
      busy := m.busy + d
      covers := if m.carrier.isSome = true then m.covers ++ [{ lo := t - d, hi := t }] else m.covers } := by
  unfold Load.uplink
  rw [settle_nil t h]

/-! ## Uncovered carrier time (R164) -/

/-- How many milliseconds of a span have a property. -/
def Span.count (p : Nat → Bool) (x : Span) : Nat := ((Finset.Ico x.lo x.hi).filter fun i => p i = true).card

/-- The milliseconds a span covers. -/
def Span.has (x : Span) (i : Nat) : Bool := x.lo ≤ i && i < x.hi

theorem Span.count_all (x : Span) : x.count (fun _ => true) = x.hi - x.lo := by
  simp [Span.count]

theorem spanSum_eq_count (l : List Span) : spanSum l = (l.map (Span.count fun _ => true)).sum :=
  congrArg List.sum (List.map_congr_left fun x _ => (Span.count_all x).symm)

theorem count_filter_nonempty (p : Nat → Bool) (l : List Span) :
    ((l.filter fun y => y.lo < y.hi).map (Span.count p)).sum = (l.map (Span.count p)).sum := by
  induction l with
  | nil => rfl
  | cons x l ih =>
    by_cases hx : x.lo < x.hi
    · simp [hx, ih]
    · have hempty : x.count p = 0 := by simp [Span.count, Finset.Ico_eq_empty hx]
      simp [hx, ih, hempty]

/-- Out of a span taken, `c` leaves the milliseconds `c` does not cover. -/
theorem count_minus (p : Nat → Bool) {c : Span} (hc : c.lo ≤ c.hi) (x : Span) :
    ((x.minus c).map (Span.count p)).sum = x.count fun i => p i && !c.has i := by
  unfold Span.minus
  rw [count_filter_nonempty]
  simp only [List.map_cons, List.map_nil, List.sum_cons, List.sum_nil, Nat.add_zero, Span.count]
  rw [← Finset.card_union_of_disjoint]
  · congr 1
    ext i
    simp only [Finset.mem_union, Finset.mem_filter, Finset.mem_Ico, Span.has, Bool.and_eq_true, Bool.not_eq_true',
      Bool.and_eq_false_iff, decide_eq_false_iff_not]
    by_cases hp : p i = true
    · simp only [hp, and_true, true_and]
      omega
    · simp [hp]
  · rw [Finset.disjoint_left]
    intro i hleft hright
    simp only [Finset.mem_filter, Finset.mem_Ico] at hleft hright
    omega

theorem count_flatMap_minus (p : Nat → Bool) {c : Span} (hc : c.lo ≤ c.hi) (l : List Span) :
    ((l.flatMap fun x => x.minus c).map (Span.count p)).sum = (l.map (Span.count fun i => p i && !c.has i)).sum := by
  induction l with
  | nil => rfl
  | cons x l ih => rw [List.flatMap_cons, List.map_append, List.sum_append, ih, count_minus p hc, List.map_cons, List.sum_cons]

theorem count_uncovered (p : Nat → Bool) {covers : List Span} (hc : ∀ c ∈ covers, c.lo ≤ c.hi) (l : List Span) :
    ((uncovered covers l).map (Span.count p)).sum = (l.map (Span.count fun i => p i && !covers.any fun c => c.has i)).sum := by
  induction covers generalizing l with
  | nil => simp [uncovered]
  | cons c covers ih =>
    have hstep : uncovered (c :: covers) l = uncovered covers (l.flatMap fun x => x.minus c) := rfl
    rw [hstep, ih (fun d hd => hc d (List.mem_cons_of_mem _ hd)), count_flatMap_minus _ (hc c List.mem_cons_self)]
    refine congrArg List.sum (List.map_congr_left fun x _ => congrArg (fun q => Span.count q x) (funext fun i => ?_))
    cases hi : c.has i <;> simp [hi]

theorem count_eq_range (p : Nat → Bool) (lo hi : Nat) :
    Span.count p { lo := lo, hi := hi } = ((List.range hi).filter fun i => decide (lo ≤ i) && p i).length := by
  have hnodup : ((List.range hi).filter fun i => decide (lo ≤ i) && p i).Nodup := List.nodup_range.filter _
  rw [← List.toFinset_card_of_nodup hnodup]
  unfold Span.count
  congr 1
  ext i
  simp
  tauto

section
variable {m : Load} {since : Nat} (h : m.carrier = some since) (t : Nat)
include h

theorem carrierTime_some : m.carrierTime t = spanSum (uncovered m.covers [{ lo := max since m.periodStart, hi := t }]) := by
  simp only [Load.carrierTime, h]

/-- The carrier time is the number of milliseconds of the interval that no counted frame covers. -/
theorem carrierTime_eq (hc : ∀ x ∈ m.covers, x.lo ≤ x.hi) : m.carrierTime t =
    ((List.range t).filter fun i =>
      decide (max since m.periodStart ≤ i) && !(m.covers.any fun x => x.lo ≤ i && i < x.hi)).length := by
  rw [carrierTime_some h, spanSum_eq_count, count_uncovered _ hc, List.map_singleton, List.sum_singleton, count_eq_range]
  simp only [Bool.true_and, Span.has]

theorem carrierTime_uncovered (hc : m.covers = []) : m.carrierTime t = t - max since m.periodStart := by
  rw [carrierTime_some h, hc]
  simp [uncovered, spanSum]

/-- One counted frame inside the interval takes its length out of it. -/
theorem carrierTime_covered {x : Span} (hc : m.covers = [x]) (hlo : max since m.periodStart ≤ x.lo) (hx : x.lo ≤ x.hi)
    (hhi : x.hi ≤ t) : m.carrierTime t + (x.hi - x.lo) = t - max since m.periodStart := by
  have hcovered : uncovered [x] [{ lo := max since m.periodStart, hi := t }] =
      Span.minus { lo := max since m.periodStart, hi := t } x := by simp [uncovered]
  rw [carrierTime_some h, hc, hcovered, spanSum_eq_count]
  unfold Span.minus
  rw [count_filter_nonempty]
  simp only [List.map_cons, List.map_nil, List.sum_cons, List.sum_nil, Nat.add_zero, Span.count_all]
  omega

end

theorem carrierTime_none {m : Load} (h : m.carrier = none) (t : Nat) : m.carrierTime t = 0 := by
  simp only [Load.carrierTime, h]

/-! ## Carrier edges (R164) -/

section
variable {s : State} (h : Live s)
include h

theorem exec_carrierOn : exec .carrierOn s = .next { s with load := s.load.carrierOn s.nowMs } :=
  event_quiet h (fun s => { s with load := s.load.carrierOn s.nowMs }) rfl

theorem exec_carrierOff : exec .carrierOff s = .next { s with load := s.load.carrierOff s.nowMs } :=
  event_quiet h (fun s => { s with load := s.load.carrierOff s.nowMs }) rfl

end

theorem carrierOn_of_off {m : Load} (h : m.carrier = none) (t : Nat) :
    m.carrierOn t = { m.settle t with carrier := some t, covers := [] } := by
  simp [Load.carrierOn, h]

theorem carrierOff_of_on {m : Load} {since : Nat} (h : m.carrier = some since) (t : Nat) :
    m.carrierOff t = { m.settle t with
      busy := (m.settle t).busy + (m.settle t).carrierTime t, carrier := none, covers := [] } := by
  simp [Load.carrierOff, h]

/-- Settles O50: frames by whether they have ended, the carrier time by its milliseconds, and the edges by whether the
carrier is ON. -/
theorem carrierTimeJoinsBusyTime : Obligations.CarrierTimeJoinsBusyTime := by
  unfold Obligations.CarrierTimeJoinsBusyTime
  refine ⟨fun m t => ⟨settle_of_running, settle_of_ended, fun d h => uplink_of_none_sent h t d, fun h => carrierTime_none h t,
    fun since h hc => carrierTime_eq h t hc⟩, fun s h => ⟨fun hon => ?ignoredOn, fun hoff => ?ignoredOff, fun hoff => ?on,
      fun since hon => ?off⟩⟩
  case ignoredOn =>
    rw [exec_carrierOn h]
    simp [Load.carrierOn, hon]
  case ignoredOff =>
    rw [exec_carrierOff h]
    simp [Load.carrierOff, hoff]
  case on =>
    refine ⟨_, exec_carrierOn h, rfl, ?_, fun hsent => ?_⟩
    · show s.load.carrierOn s.nowMs = _
      rw [carrierOn_of_off hoff, settle_eq]
    · show (s.load.carrierOn s.nowMs).busy = _ ∧ (s.load.carrierOn s.nowMs).sent = []
      rw [carrierOn_of_off hoff, settle_nil _ hsent]
      exact ⟨rfl, hsent⟩
  case off =>
    refine ⟨_, exec_carrierOff h, rfl, ?_, ?_, fun hsent hcovers => ?_, fun x hsent hcovers hlo hx hhi => ?_⟩
    · show s.load.carrierOff s.nowMs = _
      rw [carrierOff_of_on hon, settle_eq]
    · show s.load.busy ≤ (s.load.carrierOff s.nowMs).busy
      rw [carrierOff_of_on hon]
      exact (busy_le_settle s.load s.nowMs).trans (Nat.le_add_right _ _)
    · show (s.load.carrierOff s.nowMs).busy = _
      rw [carrierOff_of_on hon, settle_nil _ hsent]
      exact congrArg _ (carrierTime_uncovered hon _ hcovers)
    · show (s.load.carrierOff s.nowMs).busy + _ = _
      rw [carrierOff_of_on hon, settle_nil _ hsent]
      exact (Nat.add_assoc _ _ _).trans (congrArg _ (carrierTime_covered hon _ hcovers hlo hx hhi))

end Sys2Proof.Machine

/-!
PROOFS. The period end of the Load Meter (R165, R166), and what no other command moves.
-/
namespace Sys2Proof.Machine

variable {A : Right → Prop}

/-! ## The load figure (R165) -/

theorem nextLevel_eq (old sample : Nat) : nextLevel old sample =
    if old < sample then old + (sample - old + 3) / 4
    else if sample < old then old - (old - sample + 3) / 4 else old := rfl

theorem nextLevel_rises {old sample : Nat} (h : old < sample) :
    old + 1 ≤ nextLevel old sample ∧ nextLevel old sample ≤ sample := by
  rw [nextLevel_eq, if_pos h]
  omega

theorem nextLevel_falls {old sample : Nat} (h : sample < old) :
    sample ≤ nextLevel old sample ∧ nextLevel old sample + 1 ≤ old := by
  rw [nextLevel_eq, if_neg (by omega), if_pos h]
  omega

theorem nextLevel_self (sample : Nat) : nextLevel sample sample = sample := by
  rw [nextLevel_eq, if_neg (lt_irrefl _), if_neg (lt_irrefl _)]

/-- A steady sample is reached within as many periods as the figure is away from it, and then held. -/
theorem foldl_nextLevel {level sample m : Nat} (h : level ≤ sample + m ∧ sample ≤ level + m) :
    (List.replicate m sample).foldl nextLevel level = sample := by
  induction m generalizing level with
  | zero => exact Nat.le_antisymm h.1 h.2
  | succ m ih =>
    rw [List.replicate_succ, List.foldl_cons]
    refine ih ?_
    rcases Nat.lt_trichotomy level sample with hlt | rfl | hgt
    · have := nextLevel_rises hlt
      omega
    · rw [nextLevel_self]
      omega
    · have := nextLevel_falls hgt
      omega

/-! ## The band (R166) -/

theorem highest_eq {p : Nat → Bool} {lo k : Nat} (hlo : lo ≤ k) (hk : k ≤ 3) (hp : p k = true)
    (habove : ∀ j, k < j → j ≤ 3 → p j = false) : highest p lo = some k := by
  cases hfound : highest p lo with
  | none => exact absurd (highest_none hfound k hlo hk) (by simp [hp])
  | some j =>
    obtain ⟨-, hj, hpj, hjabove⟩ := highest_some hfound
    rcases Nat.lt_trichotomy j k with hlt | rfl | hgt
    · exact absurd (hjabove k hlt hk) (by simp [hp])
    · rfl
    · exact absurd (habove j hgt hj) (by simp [hpj])

theorem highest_eq_none {p : Nat → Bool} {lo : Nat} (h : ∀ k, lo ≤ k → k ≤ 3 → p k = false) : highest p lo = none := by
  cases hfound : highest p lo with
  | none => rfl
  | some k =>
    obtain ⟨hlo, hk, hp, -⟩ := highest_some hfound
    exact absurd (h k hlo hk) (by simp [hp])

section
variable (x : Thresholds) (level held : Nat)

/-- A band above the one held is selected where it is the highest whose threshold and hysteresis are reached. -/
theorem selectBand_up {k : Nat} (hheld : held < k) (hk : k ≤ 3) (hreached : x.at k + x.h ≤ level)
    (habove : ∀ j, k < j → j ≤ 3 → level < x.at j + x.h) : selectBand x level held = k := by
  have hfound : highest (fun k => decide (x.at k + x.h ≤ level)) (held + 1) = some k :=
    highest_eq hheld hk (by simpa using hreached) fun j hj hj3 => by simpa using habove j hj hj3
  simp only [selectBand, hfound]

variable (hnone : ∀ k, held < k → k ≤ 3 → level < x.at k + x.h)
include hnone

theorem selectBand_of_none_up : selectBand x level held =
    if 1 ≤ held ∧ level < x.at held then (highest (fun k => x.at k ≤ level) 0).getD 0 else held := by
  have hfound : highest (fun k => decide (x.at k + x.h ≤ level)) (held + 1) = none :=
    highest_eq_none fun k hk hk3 => by simpa using hnone k hk hk3
  simp only [selectBand, hfound]

/-- Below the threshold of the band held the highest band whose threshold is reached is selected. -/
theorem selectBand_down (hheld : 1 ≤ held) (hlow : level < x.at held) {k : Nat} (hk : k ≤ 3) (hreached : x.at k ≤ level)
    (habove : ∀ j, k < j → j ≤ 3 → level < x.at j) : selectBand x level held = k := by
  have hfound : highest (fun k => decide (x.at k ≤ level)) 0 = some k :=
    highest_eq (Nat.zero_le k) hk (by simpa using hreached) fun j hj hj3 => by simpa using habove j hj hj3
  rw [selectBand_of_none_up x level held hnone, if_pos ⟨hheld, hlow⟩, hfound]
  rfl

theorem selectBand_stays (hstays : held = 0 ∨ x.at held ≤ level) : selectBand x level held = held := by
  rw [selectBand_of_none_up x level held hnone, if_neg (by omega)]

end

/-! ## The period end -/

/-- A notice does not depend on the Load Meter it is posted over. -/
theorem post_withLoad (s : State) (m : Load) (b : NoticeBody) : post { s with load := m } b = { post s b with load := m } := by
  have hkick : ∀ u : State, kick { u with load := m } = { kick u with load := m } := fun u => by
    have hflow : flowOpen { u with load := m } = flowOpen u := rfl
    unfold kick
    rw [hflow]
    dsimp only
    split
    · rfl
    · split
      · rfl
      · split
        · split <;> rfl
        · rfl
  exact hkick { s with port := s.port.enqueue { stamp := stamp s s.now, body := b } }

theorem endPeriod_eq (s : State) : endPeriod s =
    { (if s.load.afterPeriod.band = s.load.band then s
      else post s (.loadBand s.load.band s.load.afterPeriod.band s.load.afterPeriod.level
        (s.load.periodBusy / 10) s.load.afterPeriod.thr)) with load := s.load.afterPeriod } := by
  unfold endPeriod
  dsimp only
  split_ifs
  · rfl
  · exact post_withLoad s s.load.afterPeriod _

theorem exec_periodEnd {s : State} (h : Live s) : exec .periodEnd s =
    .next (if s.nowMs < s.load.periodStart + 10000 then s else endPeriod s) := by
  have hdue : periodEndDue s = true ↔ ¬s.nowMs < s.load.periodStart + 10000 :=
    (periodEndDue_iff s).trans Nat.not_lt.symm
  have hkept : (if periodEndDue s = true then endPeriod s else s).askArb = s.askArb := by
    rw [endPeriod_eq]
    split_ifs
    · rfl
    · exact post_keeps s _ .askArb (by decide)
    · rfl
  refine (event_quiet h (fun s => if periodEndDue s = true then endPeriod s else s) hkept).trans (congrArg _ ?_)
  simp only [hdue, ite_not]

/-! ## What moves the figure alone -/

/-- Sample, load figure and band of `t` are those of `s`. -/
def SameFigure (s t : State) : Prop :=
  t.load.sample = s.load.sample ∧ t.load.level = s.load.level ∧ t.load.band = s.load.band

theorem SameFigure.of_load {s t : State} (h : t.load = s.load) : SameFigure s t := by
  unfold SameFigure
  rw [h]
  exact ⟨rfl, rfl, rfl⟩

theorem Move.sameFigure {s t : State} (h : Move A s t) (hperiod : ¬A .period) (hclear : ¬A .clear) : SameFigure s t := by
  cases h with
  | frame h => exact .of_load (h .load (by decide))
  | loadPermit p => exact .of_load (withPermit_keeps s p .load (by decide))
  | retirePermit p => exact .of_load (withoutPermit_keeps s p .load (by decide))
  | meter m h => exact ⟨h.sample.resolve_right hclear, h.level, h.band⟩
  | period h => exact (hperiod h).elim
  | _ => exact .of_load rfl

theorem exec_sameFigure {c : Instr} {s t : State} (hperiod : c ≠ .periodEnd) (hcold : c ≠ .coldReset)
    (hwarm : c ≠ .warmReset) (h : exec c s = .next t) : SameFigure s t := by
  obtain ⟨u, hu, hpath⟩ := exec_steps c s hcold
  obtain rfl := Host.Outcome.next.inj (hu.symm.trans h)
  exact Path.relates (fun _ => ⟨rfl, rfl, rfl⟩)
    (fun h h' => ⟨h'.1.trans h.1, h'.2.1.trans h.2.1, h'.2.2.trans h.2.2⟩)
    (fun hm => hm.sameFigure (A := mayUse c) hperiod hwarm) hpath

/-- Settles O51: the period end by its figure and its band, a steady sample reached, and the moves of every other command. -/
theorem periodEndMovesLoadFigure : Obligations.PeriodEndMovesLoadFigure := by
  unfold Obligations.PeriodEndMovesLoadFigure
  refine ⟨fun s h => ?period, fun x => ⟨rfl, rfl, rfl, rfl⟩, nextLevel_eq,
    fun level sample => ⟨level + sample, fun m hm => foldl_nextLevel (by omega)⟩, by decide,
    fun c s t hperiod hcold hwarm h => exec_sameFigure hperiod hcold hwarm h⟩
  case period =>
    rw [exec_periodEnd h]
    by_cases hearly : s.nowMs < s.load.periodStart + 10000
    · rw [if_pos hearly, if_pos hearly]
    · rw [if_neg hearly, if_neg hearly]
      have hload : (endPeriod s).load = s.load.afterPeriod := by rw [endPeriod_eq]
      have hsample : s.load.periodBusy / 10 ≤ 1000 := by
        have := periodBusy_le s.load
        omega
      refine ⟨endPeriod s, rfl, ?_⟩
      rw [hload]
      refine ⟨rfl, hsample, rfl, nextLevel_rises, nextLevel_falls, afterPeriod_level_le, rfl, rfl, rfl, rfl,
        fun k hb hk hreached habove => selectBand_up _ _ _ hb hk hreached habove, fun hnone => ⟨?_, ?_⟩, endPeriod_eq s⟩
      · exact fun hheld hlow k hk hreached habove => selectBand_down _ _ _ hnone hheld hlow hk hreached habove
      · exact fun hstays => selectBand_stays _ _ _ hnone hstays

end Sys2Proof.Machine

/-!
PROOFS. The queries of pending requests, air, sites, zones, load and supervision, and ENROLL_TRUCK.
-/
namespace Sys2Proof.Machine

/-! ## Queries -/

section
variable {s : State} (h : Ready s) (tag : Nat)
include h

theorem exec_queryZone {z : Nat} (hlo : 1 ≤ z) (hhi : z ≤ 250) :
    exec (.queryZone tag z) s = .next (answered s 0x26 tag .ok (.zone (zoneReport s z))) := by
  have hserved : ∀ u, queryZone z u = (u, { code := .ok, body := .zone (zoneReport u z) }) := fun u => if_pos ⟨hlo, hhi⟩
  exact request_unchanged h 0x26 tag (queryZone z) (congrArg Prod.snd (hserved (armWindow s))) (by rw [hserved])

theorem queryZone_refuses {z : Nat} (hz : z = 0 ∨ 250 < z) : Refuses (.queryZone tag z) s .notFound :=
  refuses_of_refuse h rfl rfl fun _ _ => if_neg (by omega)

/-- The window reported is the one the request's own frame has armed (R172, R173). -/
theorem exec_querySupervision : exec (.querySupervision tag) s = .next (answered s 0x2B tag .ok
    (.sup s.sup.mode s.sup.window s.sup.console (some (stamp s s.now))
      (if s.sup.mode = .off then s.sup.lapse.map (· - s.now) else some s.sup.window))) := by
  refine request_unchanged h 0x2B tag querySupervision ?_ rfl
  simp only [querySupervision, armWindow_sup, stampOpt, Option.map_some]
  have hnow : (armWindow s).now = s.now := rfl
  have hstamp : stamp (armWindow s) s.now = stamp s s.now := rfl
  rw [hnow, hstamp]
  split_ifs
  · rfl
  · simp

end

/-- QUERY_LOAD's busy time where no counted frame has ended since: with the carrier OFF, with no covering frame, and with
one inside the interval (R170). -/
theorem loadReport_busy (s : State) (hsent : ∀ x ∈ s.load.sent, s.nowMs < x.hi) :
    (s.load.carrier = none → (loadReport s).busy = s.load.busy) ∧
    (∀ since, s.load.carrier = some since → s.load.covers = [] →
      (loadReport s).busy = s.load.busy + (s.nowMs - max since s.load.periodStart)) ∧
    (∀ since x, s.load.carrier = some since → s.load.covers = [x] → max since s.load.periodStart ≤ x.lo →
      x.lo ≤ x.hi → x.hi ≤ s.nowMs →
      (loadReport s).busy + (x.hi - x.lo) = s.load.busy + (s.nowMs - max since s.load.periodStart)) := by
  have hbusy : (loadReport s).busy = s.load.busy + s.load.carrierTime s.nowMs := by
    simp only [loadReport, settle_of_running hsent]
  rw [hbusy]
  refine ⟨fun hoff => by rw [carrierTime_none hoff, Nat.add_zero], fun since hon hcovers => ?_,
    fun since x hon hcovers hlo hx hhi => ?_⟩
  · rw [carrierTime_uncovered hon _ hcovers]
  · rw [Nat.add_assoc, carrierTime_covered hon _ hcovers hlo hx hhi]

/-- What QUERY_LOAD reads of the Load Meter is not touched by frames counted in between. -/
theorem loadReport_fields (s : State) :
    (loadReport s).level = s.load.level ∧ (loadReport s).band = s.load.band ∧ (loadReport s).sample = s.load.sample ∧
    (loadReport s).left = s.load.periodStart + 10000 - s.nowMs ∧
    (loadReport s).carrierOn = s.load.carrier.isSome ∧ (loadReport s).thr = s.load.thr ∧
    (loadReport s).thrStaged = s.load.thrStaged ∧ (loadReport s).table = s.load.table ∧
    (loadReport s).staged = s.load.staged := by
  unfold loadReport
  rw [settle_eq]
  exact ⟨rfl, rfl, rfl, rfl, rfl, rfl, rfl, rfl, rfl⟩

theorem trucksWhere_length (s : State) (p : Truck → Bool) : (trucksWhere s p).length = (s.trucks.filter p).length :=
  List.length_map _

/-- Settles O14: each query leaves the state with its reply, and its report is read field by field. -/
theorem stateQueriesChangeNothing : Obligations.StateQueriesChangeNothing := by
  unfold Obligations.StateQueriesChangeNothing
  intro s tag h
  refine ⟨⟨s.asks.map (askReport s), request_unchanged h 0x18 tag queryPending rfl rfl, List.length_map _, ?pending⟩,
    ⟨airReport s, request_unchanged h 0x20 tag queryAir rfl rfl, rfl, rfl, rfl, rfl, rfl, rfl, rfl, rfl, rfl, rfl,
      Option.isSome_map .., ?turn, fun hwindow => if_pos hwindow, fun hwindow => if_neg hwindow, rfl, rfl, rfl, rfl⟩,
    ⟨homeReport :: s.sites.map (siteReport s), request_unchanged h 0x25 tag querySites rfl rfl, by simp, rfl, ?sites⟩,
    fun z => exec_queryZone h tag, fun z => queryZone_refuses h tag, ?load, exec_querySupervision h tag⟩
  case pending =>
    intro i a r ha hr
    rw [List.getElem?_map, ha, Option.map_some] at hr
    obtain rfl := Option.some.inj hr
    refine ⟨rfl, rfl, rfl, rfl, rfl, rfl, fun x hx => ?_⟩
    simp [askReport, hx]
  case turn =>
    intro x hx
    exact ⟨turnReport s x, by simp [airReport, hx], rfl, rfl, rfl, rfl, rfl, rfl⟩
  case sites =>
    intro i x r hx hr
    rw [List.getElem?_cons_succ, List.getElem?_map, hx, Option.map_some] at hr
    obtain rfl := Option.some.inj hr
    exact ⟨rfl, rfl, rfl, rfl, rfl, rfl, rfl, trucksWhere_length s _⟩
  case load =>
    obtain ⟨h1, h2, h3, h4, h5, h6, h7, h8, h9⟩ := loadReport_fields s
    exact ⟨loadReport s, request_unchanged h 0x29 tag queryLoad rfl rfl, h1, h2, h3, h4, h5, h6, h7, h8, h9, rfl,
      loadReport_busy s⟩

/-! ## ENROLL_TRUCK (R2) -/

section
variable {s : State} {m : Nat}

theorem enrollTruck_duplicate (hn : (truckOf s (clamp 1 999 m)).isSome = true) : enrollTruck m s = refuse s .duplicate :=
  if_pos hn

theorem enrollTruck_tableFull (hn : ¬(truckOf s (clamp 1 999 m)).isSome = true) (hfull : 64 ≤ s.trucks.length) :
    enrollTruck m s = refuse s .tableFull := (if_neg hn).trans (if_pos hfull)

theorem enrollTruck_passes (hn : ¬(truckOf s (clamp 1 999 m)).isSome = true) (hroom : ¬64 ≤ s.trucks.length) :
    enrollTruck m s = ({ s with trucks := insertBy Truck.num (Truck.fresh (clamp 1 999 m)) s.trucks },
      { code := if clamp 1 999 m = m then .ok else .clamped
        body := if clamp 1 999 m = m then .none else .truckNumber (clamp 1 999 m) }) := by
  refine ((if_neg hn).trans (if_neg hroom)).trans (Prod.ext rfl ?_)
  dsimp only
  split_ifs <;> rfl

end

/-- Settles O11: the two refusals by the table, and the fresh record put in. -/
theorem enrollTruckCreatesFreshRecord : Obligations.EnrollTruckCreatesFreshRecord := by
  unfold Obligations.EnrollTruckCreatesFreshRecord
  intro s tag m h
  dsimp only
  have htruck : ∀ {u : State}, Keeps [.sup, .port] s u → truckOf u (clamp 1 999 m) = truckOf s (clamp 1 999 m) :=
    fun hu => truckOf_of_keeps hu _
  have htrucks : ∀ {u : State}, Keeps [.sup, .port] s u → u.trucks = s.trucks := fun hu => hu .trucks (by decide)
  by_cases hn : (truckOf s (clamp 1 999 m)).isSome = true
  · rw [if_pos hn]
    exact refuses_of_refuse h rfl rfl fun u hu => enrollTruck_duplicate (by rwa [htruck hu])
  rw [if_neg hn]
  by_cases hfull : 64 ≤ s.trucks.length
  · rw [if_pos hfull]
    exact refuses_of_refuse h rfl rfl fun u hu => enrollTruck_tableFull (by rwa [htruck hu]) (by rwa [htrucks hu])
  rw [if_neg hfull]
  have hexec : exec (.enrollTruck tag m) s = _ := request_carried_quiet (k := 0x01) (tag := tag) (f := enrollTruck m)
    (g := fun u => { u with trucks := insertBy Truck.num (Truck.fresh (clamp 1 999 m)) u.trucks }) h
    (fun u hu => enrollTruck_passes (by rwa [htruck hu]) (by rwa [htrucks hu])) fun _ => rfl
  have hnew : findBy Truck.num (clamp 1 999 m) s.trucks = none := by simpa [truckOf] using hn
  rw [answered_trucks] at hexec
  have hfound := fun k => findBy_insertBy (key := Truck.num) (Truck.fresh (clamp 1 999 m)) k s.trucks hnew
  refine ⟨Truck.fresh (clamp 1 999 m), _, hexec, ?_, rfl, rfl, rfl, rfl, rfl, rfl, rfl, rfl, rfl, rfl, rfl, rfl, rfl, rfl, rfl,
    rfl, fun k hk => ?_, insertBy_length _ _, rfl⟩
  · exact (hfound _).trans (if_pos rfl)
  · exact (hfound k).trans (if_neg hk)

end Sys2Proof.Machine

/-!
PROOFS. Offers and rollover (spec/02_work_orders.md section 2.3). First what a record given leaves of a truck, then an offer
that the truck's queue takes and one that fails, then who is eligible and the walk along the candidates.
-/
namespace Sys2Proof.Machine

-- The proofs are taken one after another: side by side they wait for each other in more threads than the check can hold.
set_option Elab.async false

/-! ## States that agree in all but some tables -/

section
variable {s v : State}

/-- Two states that agree outside the tables, the pending list, the port and the arbiter's occasion. -/
theorem eq_of_keeps_crew (h : Keeps crewFields s v) :
    v = { s with
      trucks := v.trucks, orders := v.orders, permits := v.permits, points := v.points, asks := v.asks, port := v.port
      askArb := v.askArb } := by
  obtain ⟨⟩ := v
  simp only [State.mk.injEq, true_and]
  exact ⟨h .clock (by decide), h .held (by decide), h .sup (by decide), h .timeouts (by decide), h .air (by decide),
    h .sites (by decide), h .policy (by decide), h .graces (by decide), h .load (by decide), h .choices (by decide),
    h .pending (by decide)⟩

theorem eq_of_keeps_port (h : Keeps [.port] s v) : v = { s with port := v.port } := by
  obtain ⟨⟩ := v
  simp only [State.mk.injEq, true_and]
  exact ⟨h .clock (by decide), h .held (by decide), h .sup (by decide), h .trucks (by decide), h .orders (by decide),
    h .permits (by decide), h .points (by decide), h .asks (by decide), h .timeouts (by decide), h .air (by decide),
    h .sites (by decide), h .policy (by decide), h .graces (by decide), h .load (by decide), h .askArb (by decide),
    h .choices (by decide), h .pending (by decide)⟩

theorem eq_of_keeps_trucksOrders (h : Keeps [.trucks, .orders] s v) :
    v = { s with trucks := v.trucks, orders := v.orders } := by
  have hask : v.askArb = s.askArb := h .askArb (by decide)
  exact (eq_of_keeps_ordersTrucks h.to).trans (by rw [hask])

end

/-! ## A record given (R114) -/

/-- A record given for a truck whose queue can take it is fresh, and nothing else of the truck changes but the sequence
counter. -/
theorem truckOf_give {s : State} {t : Nat} {k : Truck} {c : Content} (hk : truckOf s t = some k)
    (hroom : (recFor k.queue c.subject).isSome = true ∨ k.queue.length < 12) :
    ∃ k' r, truckOf (give s t c) t = some k' ∧ k' = { k with queue := k'.queue, seqCtr := k'.seqCtr } ∧
      recFor k'.queue c.subject = some r ∧ r.content = c ∧ r.attempts = 0 ∧ r.inFlight = false ∧
      ∀ x, x ≠ c.subject → recFor k'.queue x = recFor k.queue x := by
  have htake : k.canTake c.subject = true := by simpa [Truck.canTake] using hroom
  obtain ⟨k', r, htruck, -, hcontent, -, hattempts, hflight, hframe, hrecs, -⟩ := give_taken hk htake
  exact ⟨k', r, htruck, by rw [hframe], (hrecs _).trans (if_pos rfl), hcontent, hattempts, hflight,
    fun x hx => (hrecs x).trans (if_neg hx)⟩

/-- The record's note that the linked permit is open (R24, R29). -/
def Rec.notesOpen (r : Rec) : Bool :=
  match r.content with
  | .order c => c.permitOpen
  | _ => false

/-- The note of the ORDER record a truck's queue holds (R24). -/
theorem orderRecIn_any {s : State} {t : Nat} {k : Truck} (hk : truckOf s t = some k) (n : Nat) :
    ((orderRecIn s t n).any fun c => c.permitOpen) = (recFor k.queue (.order n)).any Rec.notesOpen := by
  have hrec : recOf s t (.order n) = recFor k.queue (.order n) := by simp [recOf, hk]
  unfold orderRecIn
  rw [hrec]
  cases recFor k.queue (.order n) with
  | none => rfl
  | some r => cases hcontent : r.content <;> simp [Rec.notesOpen, hcontent]

/-- A given ORDER record carries the order as it stands and keeps the note of the record it replaces (R24). -/
theorem giveOrder_of_truck {s : State} {n t : Nat} {o : Order} {k : Truck} (ho : orderOf s n = some o)
    (hk : truckOf s t = some k) (d : Disposition) (b : Bool) :
    giveOrder s t n d b = give s t (.order (orderContent o d (b || (recFor k.queue (.order n)).any Rec.notesOpen))) := by
  simp only [giveOrder, ho, orderRecIn_any hk]

theorem giveOrder_none {s : State} {n : Nat} (ho : orderOf s n = none) (t : Nat) (d : Disposition) (b : Bool) :
    giveOrder s t n d b = s := by
  simp only [giveOrder, ho]

theorem truckOf_giveOrder_ne (s : State) (n : Nat) {t m : Nat} (d : Disposition) (b : Bool) (hm : m ≠ t) :
    truckOf (giveOrder s t n d b) m = truckOf s m := by
  unfold giveOrder
  split
  · exact truckOf_give_ne s _ hm
  · rfl

/-- An ORDER record given where there is room (R24, R114). -/
theorem truckOf_giveOrder {s : State} {n t : Nat} {o : Order} {k : Truck} (ho : orderOf s n = some o)
    (hk : truckOf s t = some k) (d : Disposition) (b : Bool)
    (hroom : (recFor k.queue (.order n)).isSome = true ∨ k.queue.length < 12) :
    ∃ k' r, truckOf (giveOrder s t n d b) t = some k' ∧ k' = { k with queue := k'.queue, seqCtr := k'.seqCtr } ∧
      recFor k'.queue (.order n) = some r ∧
      r.content = .order (orderContent o d (b || (recFor k.queue (.order n)).any Rec.notesOpen)) ∧
      r.attempts = 0 ∧ r.inFlight = false ∧ ∀ x, x ≠ .order n → recFor k'.queue x = recFor k.queue x := by
  rw [giveOrder_of_truck ho hk]
  obtain rfl : o.num = n := (findBy_some ho).1
  exact truckOf_give (c := .order _) hk hroom

/-- With neither room nor a record for the order nothing is given (R114). -/
theorem giveOrder_of_full {s : State} {n t : Nat} {k : Truck} (hk : truckOf s t = some k) (d : Disposition) (b : Bool)
    (hfull : ¬((recFor k.queue (.order n)).isSome = true ∨ k.queue.length < 12)) : giveOrder s t n d b = s := by
  cases ho : orderOf s n with
  | none => exact giveOrder_none ho t d b
  | some o =>
    rw [giveOrder_of_truck ho hk]
    obtain rfl : o.num = n := (findBy_some ho).1
    exact give_refused (c := .order _) (Bool.eq_false_iff.mpr (mt (canGive_iff hk).mp hfull))

/-! ## An offer (R22) -/

/-- The truck with a slot taken for order `n`, where it has one to take (R12). -/
def Truck.withOrderSlot (k : Truck) (n : Nat) : Truck :=
  if k.orderSlots.contains n then k
  else if k.orderSlots.length < 4 then { k with orderSlots := k.orderSlots ++ [n] } else k

theorem Truck.withOrderSlot_eq (k : Truck) (n : Nat) :
    k.withOrderSlot n = { k with orderSlots := (k.withOrderSlot n).orderSlots } := by
  unfold Truck.withOrderSlot
  split_ifs <;> rfl

theorem Truck.withOrderSlot_slots {k : Truck} {n : Nat} (h : n ∈ k.orderSlots ∨ k.orderSlots.length < 4) :
    (k.withOrderSlot n).orderSlots = if n ∈ k.orderSlots then k.orderSlots else k.orderSlots ++ [n] := by
  unfold Truck.withOrderSlot
  by_cases hin : n ∈ k.orderSlots
  · simp [hin]
  · have hroom := h.resolve_left hin
    simp [hin, hroom]

/-- A slot taken and freed again leaves the others. -/
theorem Truck.withOrderSlot_freed (k : Truck) (n : Nat) :
    (k.withOrderSlot n).orderSlots.filter (· != n) = k.orderSlots.filter (· != n) := by
  unfold Truck.withOrderSlot
  split_ifs <;> simp

theorem Truck.withOrderSlot_num (k : Truck) (n : Nat) : (k.withOrderSlot n).num = k.num := by rw [k.withOrderSlot_eq n]

theorem Truck.withOrderSlot_queue (k : Truck) (n : Nat) : (k.withOrderSlot n).queue = k.queue := by
  rw [k.withOrderSlot_eq n]

theorem truckOf_takeOrderSlot (s : State) (t n m : Nat) :
    truckOf (takeOrderSlot s t n) m = (truckOf s m).map fun k => if m = t then k.withOrderSlot n else k :=
  truckOf_modTruck s t m (fun k => k.withOrderSlot n) fun k hk => (k.withOrderSlot_num n).trans hk

/-- The state of an offer whose slot is taken and whose ORDER_STATE is posted, before the record is given (R22). -/
def offerPosted (s : State) (n t : Nat) : State :=
  modOrder (post (takeOrderSlot s t n) (.orderState n .offered (some t))) n (Order.offeredTo s.now s.timeouts.offer t)

section
variable {s : State} {n t : Nat}

theorem offerPosted_keeps (s : State) (n t : Nat) :
    Keeps [.trucks, .orders] (post s (.orderState n .offered (some t))) (offerPosted s n t) :=
  (((takeOrderSlot_keeps s t n).post _).to).trans ((modOrder_keeps _ n _).to)

theorem truckOf_offerPosted (s : State) (n t m : Nat) :
    truckOf (offerPosted s n t) m = (truckOf s m).map fun k => if m = t then k.withOrderSlot n else k := by
  rw [offerPosted, truckOf_of_keeps (modOrder_keeps _ n _), truckOf_of_keeps (post_keeps _ _), truckOf_takeOrderSlot]

theorem orderOf_offerPosted (s : State) (n t m : Nat) :
    orderOf (offerPosted s n t) m =
      (orderOf s m).map fun o => if m = n then o.offeredTo s.now s.timeouts.offer t else o := by
  rw [offerPosted, orderOf_modOrder _ _ _ (Order.offeredTo s.now s.timeouts.offer t) fun _ ho => ho,
    orderOf_of_keeps (post_keeps _ _), orderOf_of_keeps (takeOrderSlot_keeps s t n)]

theorem canGive_offerPosted (s : State) (n t m : Nat) (x : Subject) :
    canGive (offerPosted s n t) m x = canGive s m x := by
  rw [offerPosted, canGive_of_keeps (modOrder_keeps _ n _), canGive_of_keeps (post_keeps _ _), canGive_takeOrderSlot]

theorem makeOffer_eq {o : Order} (ho : orderOf s n = some o) :
    makeOffer s n t =
      if canGive s t (.order n) then giveOrder (offerPosted s n t) t n .offer false
      else backToQueued (freeOrderSlot (offerPosted s n t) t n) n := by
  have hslot : orderOf (takeOrderSlot s t n) n = some o := (orderOf_of_keeps (takeOrderSlot_keeps s t n) n).trans ho
  have hposted : postOrderState (modOrder (takeOrderSlot s t n) n (Order.offeredTo s.now s.timeouts.offer t)) n =
      offerPosted s n t := postOrderState_modOrder hslot fun _ hr => hr
  simp only [makeOffer, hposted, canGive_offerPosted]

/-- An order returned to QUEUED and announced (R17, R25). -/
theorem backToQueued_eq {o : Order} (ho : orderOf s n = some o) :
    backToQueued s n = modOrder (post s (.orderState n .queued none)) n Order.requeued :=
  postOrderState_modOrder ho fun _ hr => hr

theorem orderOf_backToQueued (s : State) (n m : Nat) :
    orderOf (backToQueued s n) m = (orderOf s m).map fun o => if m = n then o.requeued else o := by
  rw [backToQueued, orderOf_of_keeps (postOrderState_keeps _ n), orderOf_modOrder s n m Order.requeued fun _ ho => ho]

end

section
variable {s : State} {n t : Nat} {o : Order} {k : Truck} (ho : orderOf s n = some o) (hk : truckOf s t = some k)
include ho hk

/-- An offer that the truck's queue takes (R22). -/
theorem makeOffer_of_room (hroom : (recFor k.queue (.order n)).isSome = true ∨ k.queue.length < 12) :
    makeOffer s n t = giveOrder (offerPosted s n t) t n .offer false := by
  rw [makeOffer_eq ho, if_pos ((canGive_iff hk).mpr hroom)]

/-- An offer that finds the truck's queue full fails in its event (R22). -/
theorem makeOffer_of_full (hfull : ¬((recFor k.queue (.order n)).isSome = true ∨ k.queue.length < 12)) :
    makeOffer s n t =
      modOrder (post (freeOrderSlot (offerPosted s n t) t n) (.orderState n .queued none)) n Order.requeued := by
  rw [makeOffer_eq ho, if_neg (mt (canGive_iff hk).mp hfull)]
  refine backToQueued_eq (o := o.offeredTo s.now s.timeouts.offer t) ?_
  rw [orderOf_of_keeps (freeOrderSlot_keeps _ t n), orderOf_offerPosted, ho]
  simp

/-- What an offer that is taken leaves: the order OFFERED, its slot taken and its record in the queue. -/
theorem makeOffer_taken (hslot : n ∈ k.orderSlots ∨ k.orderSlots.length < 4)
    (hroom : (recFor k.queue (.order n)).isSome = true ∨ k.queue.length < 12) :
    orderOf (makeOffer s n t) n = some (o.offeredTo s.now s.timeouts.offer t) ∧
      (∀ m, m ≠ n → orderOf (makeOffer s n t) m = orderOf s m) ∧
      (∃ k' r, truckOf (makeOffer s n t) t = some k' ∧
        k' = { k with orderSlots := k'.orderSlots, queue := k'.queue, seqCtr := k'.seqCtr } ∧
        k'.orderSlots = (if n ∈ k.orderSlots then k.orderSlots else k.orderSlots ++ [n]) ∧
        recFor k'.queue (.order n) = some r ∧ r.attempts = 0 ∧ r.inFlight = false ∧
        r.content = .order (orderContent (o.offeredTo s.now s.timeouts.offer t) .offer
          ((recFor k.queue (.order n)).any Rec.notesOpen)) ∧
        ∀ x, x ≠ .order n → recFor k'.queue x = recFor k.queue x) ∧
      (∀ m, m ≠ t → truckOf (makeOffer s n t) m = truckOf s m) ∧
      Keeps [.trucks, .orders, .askArb] (post s (.orderState n .offered (some t))) (makeOffer s n t) := by
  rw [makeOffer_of_room ho hk hroom]
  have hgiven := giveOrder_keeps (offerPosted s n t) t n .offer false
  have hposted : orderOf (offerPosted s n t) n = some (o.offeredTo s.now s.timeouts.offer t) := by
    rw [orderOf_offerPosted, ho]
    simp
  have htruck : truckOf (offerPosted s n t) t = some (k.withOrderSlot n) := by
    rw [truckOf_offerPosted, hk]
    simp
  have hqueue := k.withOrderSlot_queue n
  obtain ⟨k', r, hk', hframe, hrec, hcontent, hattempts, hflight, hother⟩ :=
    truckOf_giveOrder hposted htruck .offer false (by rwa [hqueue])
  rw [hqueue] at hcontent hother
  rw [k.withOrderSlot_eq n] at hframe
  refine ⟨(orderOf_of_keeps hgiven n).trans hposted, fun m hm => ?_, ⟨k', r, hk', ?_, ?_, hrec, hattempts, hflight, ?_, hother⟩,
    fun m hm => ?_, ((offerPosted_keeps s n t).to).trans hgiven.to⟩
  · rw [orderOf_of_keeps hgiven, orderOf_offerPosted]
    simp [hm]
  · rw [hframe]
  · rw [hframe, ← Truck.withOrderSlot_slots hslot]
  · simpa using hcontent
  · rw [truckOf_giveOrder_ne _ n _ _ hm, truckOf_offerPosted]
    simp [hm]

/-- What an offer that fails leaves: the order QUEUED again, the truck tried and its slot freed. -/
theorem makeOffer_failed (hfull : ¬((recFor k.queue (.order n)).isSome = true ∨ k.queue.length < 12)) :
    orderOf (makeOffer s n t) n = some { o with
        state := .queued, assigned := none, offerTime := none, offerExpiry := none
        tried := if t ∈ o.cands ∧ t ∉ o.tried then o.tried ++ [t] else o.tried } ∧
      (∀ m, m ≠ n → orderOf (makeOffer s n t) m = orderOf s m) ∧
      truckOf (makeOffer s n t) t = some { k with orderSlots := k.orderSlots.filter (· != n) } ∧
      (∀ m, m ≠ t → truckOf (makeOffer s n t) m = truckOf s m) ∧
      Keeps [.trucks, .orders] (posted s [.orderState n .offered (some t), .orderState n .queued none])
        (makeOffer s n t) := by
  rw [makeOffer_of_full ho hk hfull]
  have hfreed := freeOrderSlot_keeps (offerPosted s n t) t n
  have hposted := post_keeps (freeOrderSlot (offerPosted s n t) t n) (.orderState n .queued none)
  have horder (m : Nat) :
      orderOf (modOrder (post (freeOrderSlot (offerPosted s n t) t n) (.orderState n .queued none)) n Order.requeued) m =
        (orderOf s m).map fun r => if m = n then (r.offeredTo s.now s.timeouts.offer t).requeued else r := by
    rw [orderOf_modOrder _ _ _ Order.requeued fun _ hr => hr, orderOf_of_keeps hposted, orderOf_of_keeps hfreed,
      orderOf_offerPosted]
    cases orderOf s m with
    | none => rfl
    | some r => by_cases hm : m = n <;> simp [hm]
  have htruck (m : Nat) :
      truckOf (modOrder (post (freeOrderSlot (offerPosted s n t) t n) (.orderState n .queued none)) n Order.requeued) m =
        (truckOf s m).map fun r => if m = t then { r with orderSlots := r.orderSlots.filter (· != n) } else r := by
    rw [truckOf_of_keeps (modOrder_keeps _ n _), truckOf_of_keeps hposted, truckOf_freeOrderSlot, truckOf_offerPosted]
    cases truckOf s m with
    | none => rfl
    | some r =>
      by_cases hm : m = t
      · simp only [hm, Option.map_some, if_true, r.withOrderSlot_freed n]
        rw [r.withOrderSlot_eq n]
      · simp [hm]
  refine ⟨?_, fun m hm => ?_, ?_, fun m hm => ?_, ?_⟩
  · rw [horder, ho]
    simp [Order.requeued, Order.offeredTo]
  · rw [horder]
    simp [hm]
  · rw [htruck, hk]
    simp
  · rw [htruck]
    simp [hm]
  · have hslots : Keeps [.trucks, .orders] (post s (.orderState n .offered (some t)))
        (freeOrderSlot (offerPosted s n t) t n) := (offerPosted_keeps s n t).trans hfreed.to
    exact (hslots.post _).trans ((modOrder_keeps _ n _).to)

end

/-! ## Eligibility and the walk (R23) -/

theorem Truck.blocked_eq_false (k : Truck) :
    k.blocked = false ↔ ∀ w, w = k.w1 ∨ w = k.w2 → w.state = .alarm → w.set.alarm = .reportOnly := by
  simp only [Truck.blocked, Watch.blocking, Bool.or_eq_false_iff, Bool.and_eq_false_iff]
  constructor
  · rintro ⟨h1, h2⟩ w (rfl | rfl) halarm
    · simpa [halarm] using h1
    · simpa [halarm] using h2
  · intro h
    refine ⟨?_, ?_⟩
    · by_cases halarm : k.w1.state = .alarm
      · exact .inr (by simpa using h _ (.inl rfl) halarm)
      · exact .inl (by simpa using halarm)
    · by_cases halarm : k.w2.state = .alarm
      · exact .inr (by simpa using h _ (.inr rfl) halarm)
      · exact .inl (by simpa using halarm)

theorem eligible_iff {s : State} {n : Nat} {o : Order} (ho : orderOf s n = some o) (t : Nat) :
    eligible s n t = true ↔ ∃ k, truckOf s t = some k ∧ k.reach = .reachable ∧
      (n ∈ k.orderSlots ∨ k.orderSlots.length < 4) ∧
      (∀ w, w = k.w1 ∨ w = k.w2 → w.state = .alarm → w.set.alarm = .reportOnly) ∧ t ∉ o.tried := by
  unfold eligible
  rw [ho]
  cases hk : truckOf s t with
  | none => simp
  | some k =>
    simp only [← Truck.blocked_eq_false, Option.some.injEq, exists_eq_left']
    simp [Truck.canSlot, and_assoc]

/-- The candidates that are not eligible are passed over (R23). -/
theorem rolloverAlong_passes {s : State} {n : Nat} {l : List Nat} (h : ∀ k ∈ l, eligible s n k = false) (l' : List Nat) :
    rolloverAlong n (l ++ l') s = rolloverAlong n l' s := by
  induction l with
  | nil => rfl
  | cons k l ih =>
    have hk : ¬eligible s n k = true := by simp [h k List.mem_cons_self]
    rw [List.cons_append, rolloverAlong, if_neg hk]
    exact ih fun j hj => h j (List.mem_cons_of_mem k hj)

theorem rollover_some {s : State} {n : Nat} {o : Order} (ho : orderOf s n = some o) :
    rollover s n = if o.cands = [] then s else rolloverAlong n o.cands s := by
  simp only [rollover, ho, List.isEmpty_iff]

/-- Behind an offer that failed its truck is eligible no more, and no other truck has become eligible (R22, R23). -/
theorem eligible_of_failed {s : State} {n t : Nat} {o : Order} {k : Truck} (ho : orderOf s n = some o)
    (hk : truckOf s t = some k) (hfull : ¬((recFor k.queue (.order n)).isSome = true ∨ k.queue.length < 12))
    (ht : t ∈ o.cands) {j : Nat} (hj : eligible (makeOffer s n t) n j = true) : j ≠ t ∧ eligible s n j = true := by
  obtain ⟨hqueued, -, -, htrucks, -⟩ := makeOffer_failed ho hk hfull
  obtain ⟨k', hk', hreach, hslot, halarm, htried⟩ := (eligible_iff hqueued j).mp hj
  have hmem : ∀ i, i ∈ o.tried ∨ i = t → i ∈ (if t ∈ o.cands ∧ t ∉ o.tried then o.tried ++ [t] else o.tried) := by
    rintro i (hi | rfl)
    · split_ifs
      · exact List.mem_append_left _ hi
      · exact hi
    · by_cases hin : i ∈ o.tried <;> simp [ht, hin]
  have hne : j ≠ t := fun h => htried (hmem j (.inr h))
  rw [htrucks j hne] at hk'
  exact ⟨hne, (eligible_iff ho j).mpr ⟨k', hk', hreach, hslot, halarm, fun h => htried (hmem j (.inl h))⟩⟩

/-- The first eligible candidate is offered the order; where its offer fails, rollover goes on (R23). -/
theorem rollover_first {s : State} {n t : Nat} {o : Order} {l1 l2 : List Nat} (ho : orderOf s n = some o)
    (hcands : o.cands = l1 ++ t :: l2) (hpassed : ∀ k ∈ l1, eligible s n k = false) (ht : eligible s n t = true) :
    rollover s n =
      if canGive s t (.order n) = true then makeOffer s n t else rollover (makeOffer s n t) n := by
  have hne : o.cands ≠ [] := by simp [hcands]
  rw [rollover_some ho, if_neg hne, hcands, rolloverAlong_passes hpassed, rolloverAlong, if_pos ht]
  split_ifs with hroom
  · rfl
  obtain ⟨k, hk, -⟩ := (eligible_iff ho t).mp ht
  have hfull := mt (canGive_iff hk).mpr hroom
  have hmem : t ∈ o.cands := by simp [hcands]
  have hout : ∀ j ∈ l1 ++ [t], eligible (makeOffer s n t) n j = false := by
    intro j hj
    by_contra hel
    obtain ⟨hjt, hbefore⟩ := eligible_of_failed ho hk hfull hmem (by simpa using hel)
    rcases List.mem_append.mp hj with hj | hj
    · simp [hpassed j hj] at hbefore
    · exact hjt (by simpa using hj)
  rw [rollover_some (makeOffer_failed ho hk hfull).1, if_neg hne]
  dsimp only
  rw [hcands, List.append_cons, rolloverAlong_passes hout]

/-- Settles O16: what an offer does where it is taken and where it fails, who is eligible, and the walk along the
candidates. -/
theorem rolloverOffersFirstEligible : Obligations.RolloverOffersFirstEligible := by
  unfold Obligations.RolloverOffersFirstEligible
  refine ⟨fun _ _ _ => rfl, fun s n t o k ho hk hslot hroom => ?_, fun s n o ho => ?_, fun s n t o k ho hk hrec hfull => ?_⟩
  · obtain ⟨horder, horders, ⟨k', r, hk', hframe, hslots, hrec, hattempts, hflight, hcontent, hother⟩, htrucks, hkeeps⟩ :=
      makeOffer_taken ho hk hslot hroom
    obtain rfl : o.num = n := (findBy_some ho).1
    refine ⟨_, _, k', r, rfl, horder, ?_, horders, hk', hframe, hslots, hrec, hattempts, hflight, hcontent, hother, htrucks,
      eq_of_keeps_ordersTrucks hkeeps⟩
    simp [Order.offeredTo]
  · refine ⟨eligible_iff ho, fun hnone => ?_, fun hsome hout => ?_, fun l1 t l2 => rollover_first ho⟩
    · rw [rollover_some ho, if_pos hnone]
    · have hwalk := rolloverAlong_passes hout []
      rw [List.append_nil] at hwalk
      rw [rollover_some ho, if_neg hsome, hwalk]
      simp only [rolloverAlong, ho]
  · have hno : ¬((recFor k.queue (.order n)).isSome = true ∨ k.queue.length < 12) := by
      simp only [hrec, Option.isSome_none, Bool.false_eq_true, false_or]
      omega
    obtain ⟨horder, horders, htruck, htrucks, hkeeps⟩ := makeOffer_failed ho hk hno
    exact ⟨_, rfl, horder, horders, htruck, htrucks, eq_of_keeps_trucksOrders hkeeps⟩

end Sys2Proof.Machine

/-!
PROOFS. POST_ORDER, ASSIGN_ORDER, CHANGE_ORDER and RETIRE_ORDER (spec/02_work_orders.md). First the fields of an order and
of a watch profile within their limits, then each request.
-/
namespace Sys2Proof.Machine

-- The proofs are taken one after another: side by side they wait for each other in more threads than the check can hold.
set_option Elab.async false

/-! ## Fields within their limits (R20, R41) -/

theorem timerOf_isSome (n : Nat) : (timerOf n).isSome = decide (n < 3) := by
  match n with
  | 0 => rfl
  | 1 => rfl
  | 2 => rfl
  | n + 3 => exact (decide_eq_false (by omega)).symm

theorem alarmOf_isSome (n : Nat) : (alarmOf n).isSome = decide (n < 3) := by
  match n with
  | 0 => rfl
  | 1 => rfl
  | 2 => rfl
  | n + 3 => exact (decide_eq_false (by omega)).symm

/-- A set is BAD_FIELD where a mode code names no mode (R41). -/
theorem settingsOf_isNone (x : SettingsIn) : settingsOf x = none ↔ 3 ≤ x.timer ∨ 3 ≤ x.alarm := by
  have htimer := timerOf_isSome x.timer
  have halarm := alarmOf_isSome x.alarm
  unfold settingsOf
  cases ht : timerOf x.timer with
  | none =>
    have : 3 ≤ x.timer := by simpa [ht] using htimer
    simp [this]
  | some t =>
    have hlt : x.timer < 3 := by simpa [ht] using htimer
    cases ha : alarmOf x.alarm with
    | none =>
      have : 3 ≤ x.alarm := by simpa [ha] using halarm
      simp [this]
    | some a =>
      have : x.alarm < 3 := by simpa [ha] using halarm
      simp [hlt, this]

/-- A set within its limits (R41). -/
theorem settingsOf_some {x : SettingsIn} {a : Settings} (h : settingsOf x = some a) :
    timerOf x.timer = some a.timer ∧ alarmOf x.alarm = some a.alarm ∧ a.interval = clamp 60 3600 x.interval ∧
      a.lead = clampLead a.interval x.lead ∧ a.task = clamp 300 28800 x.task ∧ a.still = clamp 30 900 x.still := by
  unfold settingsOf at h
  split at h
  · next ht ha =>
    obtain rfl := Option.some.inj h
    exact ⟨ht, ha, rfl, rfl, rfl, rfl⟩
  · exact absurd h (by simp)

theorem settingsClamped_iff {x : SettingsIn} {a : Settings} (h : settingsOf x = some a) :
    settingsClamped x = false ↔
      a.interval = x.interval ∧ a.lead = x.lead ∧ a.task = x.task ∧ a.still = x.still := by
  obtain ⟨-, -, hinterval, hlead, htask, hstill⟩ := settingsOf_some h
  rw [hlead, hinterval, htask, hstill]
  simp [settingsClamped, and_assoc]

theorem profileOf_some {p : ProfileIn} {q : Profile} (h : profileOf p = some q) :
    q.seat = clamp 1 2 p.seat ∧ settingsOf p.set = some q.set := by
  obtain ⟨a, ha, rfl⟩ := Option.map_eq_some_iff.mp h
  exact ⟨rfl, ha⟩

/-- A profile within its limits is as it was given (R20). -/
def profileAsGiven (p : ProfileIn) (q : Profile) : Prop :=
  q.seat = p.seat ∧ q.set.interval = p.set.interval ∧ q.set.lead = p.set.lead ∧ q.set.task = p.set.task ∧
    q.set.still = p.set.still

theorem profileClamped_iff {p : ProfileIn} {q : Profile} (h : profileOf p = some q) :
    profileClamped p = false ↔ profileAsGiven p q := by
  obtain ⟨hseat, hset⟩ := profileOf_some h
  rw [profileAsGiven, hseat, ← settingsClamped_iff hset]
  simp [profileClamped]

theorem profileGiven_isNone (pi : Option ProfileIn) :
    profileGiven pi = none ↔ (pi.any fun p => decide (3 ≤ p.set.timer ∨ 3 ≤ p.set.alarm)) = true := by
  cases pi with
  | none => simp [profileGiven]
  | some p => simp [profileGiven, profileOf, settingsOf_isNone]

section
variable {pi : Option ProfileIn} {g : Option Profile} (h : profileGiven pi = some g)
include h

theorem profileGiven_none (hp : pi = none) : g = none := by
  subst hp
  exact (Option.some.inj h).symm

theorem profileGiven_some {p : ProfileIn} (hp : pi = some p) : ∃ q, g = some q ∧ profileOf p = some q := by
  subst hp
  obtain ⟨q, hq, rfl⟩ := Option.map_eq_some_iff.mp h
  exact ⟨q, rfl, hq⟩

theorem profileGiven_kept : pi.any profileClamped = false ↔ ∀ p q, pi = some p → g = some q → profileAsGiven p q := by
  cases hp : pi with
  | none => simp
  | some p =>
    obtain ⟨q, rfl, hq⟩ := profileGiven_some h hp
    simp [profileClamped_iff hq]

end

theorem take_length_le {α : Type} (n : Nat) (l : List α) : l.take n = l ↔ l.length ≤ n :=
  List.take_eq_self_iff l

theorem okOr_eq_ok (b : Bool) : okOr b = .ok ↔ b = false := by
  cases b <;> simp [okOr]

/-! ## POST_ORDER (R19, R20) -/

theorem post_withOrders (s : State) (l : List Order) (b : NoticeBody) :
    post { s with orders := l } b = { post s b with orders := l } :=
  kick_withOrders { s with port := s.port.enqueue { stamp := stamp s s.now, body := b } } l

/-- The state with a new order in the table and announced. -/
def orderPosted (s : State) (o : Order) : State :=
  { posted s [.orderState o.num .queued none] with orders := insertBy Order.num o s.orders }

section
variable {s : State} {o : Order} (hnew : orderOf s o.num = none)
include hnew

theorem orderOf_orderPosted (m : Nat) : orderOf (orderPosted s o) m = if m = o.num then some o else orderOf s m :=
  findBy_insertBy o m s.orders hnew

theorem postOrderState_inserted (hst : o.state = .queued) (hassigned : o.assigned = none) :
    postOrderState { s with orders := insertBy Order.num o s.orders } o.num = orderPosted s o := by
  have hin : orderOf { s with orders := insertBy Order.num o s.orders } o.num = some o :=
    (findBy_insertBy o o.num s.orders hnew).trans (if_pos rfl)
  simp only [postOrderState, hin, post_withOrders, hst, hassigned]
  rfl

end

/-- A QUEUED order of the fields given, within their limits (R19, R20). -/
def freshOrder (order prio : Nat) (loc desc : Text) (cands : List Nat) (profile : Option Profile) : Order :=
  { num := max order 1, prio := clamp 1 4 prio, loc := loc.take 48, desc := desc.take 120, state := .queued
    assigned := none, cands := candidatesOf cands, tried := [], profile := profile, linked := none, offerTime := none
    offerExpiry := none }

theorem postedOrder_eq {profile : Option ProfileIn} {g : Option Profile} (hg : profileGiven profile = some g)
    (order prio : Nat) (loc desc : Text) (cands : List Nat) :
    postedOrder order prio loc desc cands profile = some (freshOrder order prio loc desc cands g) :=
  congrArg (Option.map (freshOrder order prio loc desc cands)) hg

theorem postOrder_of_some {order prio : Nat} {loc desc : Text} {cands : List Nat} {profile : Option ProfileIn} {o : Order}
    (ho : postedOrder order prio loc desc cands profile = some o) (u : State) :
    postOrder order prio loc desc cands profile u =
    if (orderOf u o.num).isSome = true then refuse u .duplicate
    else if 128 ≤ u.orders.length then refuse u .tableFull
    else (rollover (postOrderState { u with orders := insertBy Order.num o u.orders } o.num) o.num,
      { code := okOr (postClamped order prio loc desc cands profile), body := .none }) := by
  simp only [postOrder, ho]

section
variable {s : State} (h : Ready s) {order prio : Nat} {loc desc : Text} {cands : List Nat} {profile : Option ProfileIn}
  (tag : Nat)
include h

theorem postOrder_refuses_badField (hbad : profileGiven profile = none) :
    Refuses (.postOrder tag order prio loc desc cands profile) s .badField :=
  refuses_of_refuse h rfl rfl fun u _ => by simp only [postOrder, postedOrder, hbad, Option.map_none]

variable {o : Order} (ho : postedOrder order prio loc desc cands profile = some o)
include ho

theorem postOrder_refuses_duplicate (hdup : (orderOf s o.num).isSome = true) :
    Refuses (.postOrder tag order prio loc desc cands profile) s .duplicate :=
  refuses_of_refuse h rfl rfl fun u hu => by
    rw [postOrder_of_some ho, orderOf_of_keeps hu, if_pos hdup]

theorem postOrder_refuses_tableFull (hnew : ¬(orderOf s o.num).isSome = true) (hfull : 128 ≤ s.orders.length) :
    Refuses (.postOrder tag order prio loc desc cands profile) s .tableFull :=
  refuses_of_refuse h rfl rfl fun u hu => by
    have horders : u.orders = s.orders := hu .orders (by decide)
    rw [postOrder_of_some ho, orderOf_of_keeps hu, if_neg hnew, horders, if_pos hfull]

theorem exec_postOrder (hnew : ¬(orderOf s o.num).isSome = true) (hroom : ¬128 ≤ s.orders.length) :
    exec (.postOrder tag order prio loc desc cands profile) s = .next (settleEvent (rollover
      (orderPosted (answered s 0x04 tag (okOr (postClamped order prio loc desc cands profile)) .none) o) o.num)) := by
  have hfresh : o.state = .queued ∧ o.assigned = none := by
    obtain ⟨p, -, rfl⟩ := Option.map_eq_some_iff.mp ho
    exact ⟨rfl, rfl⟩
  refine request_carried (f := postOrder order prio loc desc cands profile)
    (g := fun u => rollover (orderPosted u o) o.num) h fun u hu => ?_
  have horders : u.orders = s.orders := hu .orders (by decide)
  have hno : orderOf u o.num = none := by
    rw [orderOf_of_keeps hu]
    simpa using hnew
  rw [postOrder_of_some ho, if_neg (by simp [hno]), horders, if_neg hroom, ← horders,
    postOrderState_inserted hno hfresh.1 hfresh.2]

end

theorem postClamped_iff {order prio : Nat} {loc desc : Text} {cands : List Nat} {profile : Option ProfileIn}
    {g : Option Profile} (hg : profileGiven profile = some g) :
    postClamped order prio loc desc cands profile = false ↔
      max order 1 = order ∧ clamp 1 4 prio = prio ∧ loc.take 48 = loc ∧ desc.take 120 = desc ∧
        candidatesOf cands = cands ∧ ∀ p q, profile = some p → g = some q → profileAsGiven p q := by
  have hmax : max order 1 = order ↔ order ≠ 0 := by omega
  rw [hmax, take_length_le, take_length_le, ← profileGiven_kept hg]
  simp [postClamped, textCut, and_assoc]

/-- Settles O15: the three refusals, and of an order that is taken its fields within their limits. -/
theorem postOrderCreatesQueuedOrder : Obligations.PostOrderCreatesQueuedOrder := by
  unfold Obligations.PostOrderCreatesQueuedOrder
  intro s tag order prio loc desc cands profile h
  dsimp only
  split_ifs with hbad hdup hfull
  · exact postOrder_refuses_badField h tag ((profileGiven_isNone profile).mpr hbad)
  all_goals
    obtain ⟨g, hg⟩ := Option.ne_none_iff_exists'.mp (mt (profileGiven_isNone profile).mp hbad)
    have ho := postedOrder_eq hg order prio loc desc cands
  · exact postOrder_refuses_duplicate h tag ho hdup
  · exact postOrder_refuses_tableFull h tag ho hdup hfull
  have hno (c : Result) : orderOf (answered s 0x04 tag c .none) (max order 1) = none := by
    rw [orderOf_of_keeps (answered_keeps s 0x04 tag c .none)]
    simpa using hdup
  refine ⟨_, _, _, exec_postOrder h tag ho hdup hfull, (orderOf_orderPosted (hno _) _).trans (if_pos rfl), rfl, rfl,
    candidatesOf_nodup cands, candidatesOf_length cands, fun k hk => ?_, profileGiven_none hg, fun p hp => ?_,
    okOr_cases _, (okOr_eq_ok _).trans (postClamped_iff hg), fun m hm => ?_, rfl⟩
  · obtain ⟨j, hj, hjk⟩ := List.mem_map.mp (mem_dropRepeats.mp (List.mem_of_mem_take hk))
    exact ⟨j, hj, hjk.symm⟩
  · obtain ⟨q, hq, hqp⟩ := profileGiven_some hg hp
    obtain ⟨hseat, hset⟩ := profileOf_some hqp
    obtain ⟨htimer, halarm, hinterval, hlead, htask, hstill⟩ := settingsOf_some hset
    exact ⟨q, hq, hseat, hset, htimer, halarm, hinterval, htask, hstill, hlead⟩
  · exact (orderOf_orderPosted (hno _) m).trans
      ((if_neg hm).trans (orderOf_of_keeps (answered_keeps s 0x04 tag _ .none) m))

end Sys2Proof.Machine

/-!
PROOFS. ASSIGN_ORDER and RETIRE_ORDER (spec/02_work_orders.md sections 2.3 and 2.10).
-/
namespace Sys2Proof.Machine

-- The proofs are taken one after another: side by side they wait for each other in more threads than the check can hold.
set_option Elab.async false

/-! ## ASSIGN_ORDER (R21) -/

/-- A blocking alarm, one of mode LATCHED or SELF_CLEAR (R39). -/
theorem Truck.blocked_iff (k : Truck) :
    k.blocked = true ↔ (k.w1.state = .alarm ∧ k.w1.set.alarm ≠ .reportOnly) ∨
      (k.w2.state = .alarm ∧ k.w2.set.alarm ≠ .reportOnly) := by
  simp [Truck.blocked, Watch.blocking]

theorem Truck.canSlot_eq_false (k : Truck) (n : Nat) :
    k.canSlot n = false ↔ n ∉ k.orderSlots ∧ 4 ≤ k.orderSlots.length := by
  simp [Truck.canSlot]

theorem Truck.canTake_eq_false (k : Truck) (x : Subject) :
    k.canTake x = false ↔ (recFor k.queue x).isNone = true ∧ 12 ≤ k.queue.length := by
  simp [Truck.canTake]

/-- What ASSIGN_ORDER looks at is not touched by its reply. -/
theorem assignOrder_of_keeps {s u : State} {n t : Nat} (hu : Keeps [.sup, .port] s u) :
    assignOrder n t u =
      match orderOf s n with
      | none => refuse u .notFound
      | some o =>
        if o.state ≠ .queued then refuse u .wrongState
        else
          match truckOf s t with
          | none => refuse u .notFound
          | some k =>
            if k.canSlot n = false then refuse u .limit
            else if k.blocked then refuse u .crewAlarm
            else if k.canTake (.order n) = false then refuse u .queueFull
            else (makeOffer u n t, { code := .ok, body := .none }) := by
  unfold assignOrder
  rw [orderOf_of_keeps hu, truckOf_of_keeps hu] <;> rfl

/-- ASSIGN_ORDER makes its checks in their order and then the offer (R21, R22). -/
theorem assignOrder_checks {s : State} (h : Ready s) (tag n t : Nat) :
    match orderOf s n with
    | none => Refuses (.assignOrder tag n t) s .notFound
    | some o =>
      if o.state ≠ .queued then Refuses (.assignOrder tag n t) s .wrongState
      else
        match truckOf s t with
        | none => Refuses (.assignOrder tag n t) s .notFound
        | some k =>
          if n ∉ k.orderSlots ∧ 4 ≤ k.orderSlots.length then Refuses (.assignOrder tag n t) s .limit
          else if (k.w1.state = .alarm ∧ k.w1.set.alarm ≠ .reportOnly) ∨
              (k.w2.state = .alarm ∧ k.w2.set.alarm ≠ .reportOnly) then Refuses (.assignOrder tag n t) s .crewAlarm
          else if (recFor k.queue (.order n)).isNone = true ∧ 12 ≤ k.queue.length then
            Refuses (.assignOrder tag n t) s .queueFull
          else exec (.assignOrder tag n t) s = .next (settleEvent (makeOffer (answered s 0x05 tag .ok .none) n t)) := by
  have hrefuse {c : Result} (hc : ∀ u, Keeps [.sup, .port] s u → assignOrder n t u = refuse u c) :
      Refuses (.assignOrder tag n t) s c := refuses_of_refuse h rfl rfl hc
  cases ho : orderOf s n with
  | none => exact hrefuse fun u hu => by rw [assignOrder_of_keeps hu, ho]
  | some o =>
    dsimp only
    by_cases hqueued : o.state ≠ .queued
    · rw [if_pos hqueued]
      exact hrefuse fun u hu => by rw [assignOrder_of_keeps hu, ho]; exact if_pos hqueued
    rw [if_neg hqueued]
    cases hk : truckOf s t with
    | none =>
      refine hrefuse fun u hu => ?_
      rw [assignOrder_of_keeps hu, ho, hk]
      exact if_neg hqueued
    | some k =>
      have hserved (u : State) (hu : Keeps [.sup, .port] s u) : assignOrder n t u =
          if n ∉ k.orderSlots ∧ 4 ≤ k.orderSlots.length then refuse u .limit
          else if (k.w1.state = .alarm ∧ k.w1.set.alarm ≠ .reportOnly) ∨
              (k.w2.state = .alarm ∧ k.w2.set.alarm ≠ .reportOnly) then refuse u .crewAlarm
          else if (recFor k.queue (.order n)).isNone = true ∧ 12 ≤ k.queue.length then refuse u .queueFull
          else (makeOffer u n t, { code := .ok, body := .none }) := by
        rw [assignOrder_of_keeps hu, ho, hk]
        simp only [if_neg hqueued, Truck.canSlot_eq_false, Truck.blocked_iff, Truck.canTake_eq_false]
      dsimp only
      split_ifs with hslot halarm hroom
      · exact hrefuse fun u hu => (hserved u hu).trans (if_pos hslot)
      · exact hrefuse fun u hu => (hserved u hu).trans ((if_neg hslot).trans (if_pos halarm))
      · exact hrefuse fun u hu =>
          (hserved u hu).trans ((if_neg hslot).trans ((if_neg halarm).trans (if_pos hroom)))
      · exact request_carried (f := assignOrder n t) (g := (makeOffer · n t)) h fun u hu =>
          (hserved u hu).trans ((if_neg hslot).trans ((if_neg halarm).trans (if_neg hroom)))

/-! ## RETIRE_ORDER (R35) -/

/-- The truck without the record of an order and its slot, where one stands (R35). -/
def Truck.withoutOrder (n : Nat) (k : Truck) : Truck :=
  if (recFor k.queue (.order n)).isSome = true then
    { k with queue := without k.queue (.order n), orderSlots := k.orderSlots.filter (· != n) }
  else k

theorem Truck.withoutOrder_rec (n : Nat) (k : Truck) (x : Subject) :
    recFor (k.withoutOrder n).queue x = if x = .order n then none else recFor k.queue x := by
  unfold Truck.withoutOrder
  by_cases hrec : (recFor k.queue (.order n)).isSome = true
  · rw [if_pos hrec]
    exact recFor_without k.queue (.order n) x
  · rw [if_neg hrec]
    by_cases hx : x = .order n
    · rw [hx, if_pos rfl]
      simpa using hrec
    · rw [if_neg hx]

theorem Truck.withoutOrder_slots (n : Nat) (k : Truck) : (k.withoutOrder n).orderSlots =
    if (recFor k.queue (.order n)).isSome = true then k.orderSlots.filter (· != n) else k.orderSlots := by
  unfold Truck.withoutOrder
  split_ifs <;> rfl

theorem Truck.withoutOrder_eq (n : Nat) (k : Truck) :
    k.withoutOrder n = { k with queue := (k.withoutOrder n).queue, orderSlots := (k.withoutOrder n).orderSlots } := by
  unfold Truck.withoutOrder
  split_ifs <;> rfl

theorem Truck.withoutOrder_idem (n : Nat) (k : Truck) : (k.withoutOrder n).withoutOrder n = k.withoutOrder n := by
  have hnone : ¬(recFor (k.withoutOrder n).queue (.order n)).isSome = true := by simp [k.withoutOrder_rec n]
  rw [Truck.withoutOrder, if_neg hnone]

theorem truckOf_forgetOrder (n : Nat) (s : State) (t m : Nat) :
    truckOf (forgetOrder n s t) m = (truckOf s m).map fun k => if m = t then k.withoutOrder n else k := by
  unfold forgetOrder
  by_cases hm : m = t
  · subst hm
    cases hk : truckOf s m with
    | none => simp [recOf, hk]
    | some k =>
      have hrec : recOf s m (.order n) = recFor k.queue (.order n) := by simp [recOf, hk]
      rw [hrec]
      simp only [Option.map_some, if_true, Truck.withoutOrder]
      split_ifs
      · rw [truckOf_freeOrderSlot, truckOf_dropRec, hk]
        simp [afterLeaving]
      · exact hk
  · split_ifs <;> simp [truckOf_freeOrderSlot, truckOf_dropRec, hm]

theorem truckOf_forgetOrders (n : Nat) (l : List Nat) (s : State) (m : Nat) :
    truckOf (eachOf (forgetOrder n) l s) m = (truckOf s m).map fun k => if m ∈ l then k.withoutOrder n else k := by
  induction l generalizing s with
  | nil => simp [eachOf]
  | cons t l ih =>
    have hrest := ih (forgetOrder n s t)
    rw [truckOf_forgetOrder, Option.map_map] at hrest
    refine hrest.trans (congrArg (Option.map · _) (funext fun k => ?_))
    by_cases ht : m = t
    · subst ht
      by_cases hl : m ∈ l <;> simp [hl, Truck.withoutOrder_idem]
    · simp [ht]

/-- Every truck of the table is taken by a walk over the truck numbers. -/
theorem mem_truckNums {s : State} {m : Nat} {k : Truck} (hk : truckOf s m = some k) : m ∈ truckNums s := by
  obtain ⟨hnum, hmem⟩ := findBy_some hk
  exact List.mem_map.mpr ⟨k, hmem, hnum⟩

/-- The permits with the link of a retired order cleared (R35). -/
def clearLink (s : State) : Option Nat → State
  | some p => modPermit s p fun q => { q with linked := none }
  | none => s

theorem clearLink_keeps (s : State) (x : Option Nat) : Keeps [.permits] s (clearLink s x) := by
  cases x with
  | none => exact .refl _ s
  | some p => exact modPermit_keeps s p _

theorem permitOf_clearLink (s : State) (x : Option Nat) (m : Nat) :
    permitOf (clearLink s x) m = (permitOf s m).map fun q => if x = some m then { q with linked := none } else q := by
  cases x with
  | none => simp [clearLink]
  | some p =>
    rw [clearLink, permitOf_modPermit s p m (fun q : Permit => { q with linked := none }) fun _ hq => hq]
    simp only [Option.some.injEq, eq_comm]

theorem applyRetire_eq (s : State) (o : Order) : applyRetire s o =
    { clearLink (eachOf (forgetOrder o.num) (truckNums s) s) o.linked with
      orders := eraseBy Order.num o.num (clearLink (eachOf (forgetOrder o.num) (truckNums s) s) o.linked).orders } := by
  unfold applyRetire clearLink
  cases o.linked <;> rfl

section
variable (s : State) (o : Order)

theorem forgotten_keeps : Keeps [.trucks] s (eachOf (forgetOrder o.num) (truckNums s) s) :=
  Keeps.foldl (fun u t => forgetOrder_keeps u o.num t) _ s

theorem truckOf_applyRetire (m : Nat) : truckOf (applyRetire s o) m = (truckOf s m).map (Truck.withoutOrder o.num) := by
  have htrucks : (applyRetire s o).trucks = (eachOf (forgetOrder o.num) (truckNums s) s).trucks := by
    rw [applyRetire_eq]
    exact clearLink_keeps _ o.linked .trucks (by decide)
  refine (congrArg (findBy Truck.num m) htrucks).trans ((truckOf_forgetOrders o.num (truckNums s) s m).trans ?_)
  cases hk : truckOf s m with
  | none => rfl
  | some k => simp [mem_truckNums hk]

theorem orderOf_applyRetire (m : Nat) : orderOf (applyRetire s o) m = if m = o.num then none else orderOf s m := by
  have horders : (clearLink (eachOf (forgetOrder o.num) (truckNums s) s) o.linked).orders = s.orders :=
    (clearLink_keeps _ o.linked .orders (by decide)).trans (forgotten_keeps s o .orders (by decide))
  rw [applyRetire_eq, horders]
  exact findBy_eraseBy o.num m s.orders

theorem permitOf_applyRetire (m : Nat) : permitOf (applyRetire s o) m =
    (permitOf s m).map fun q => if o.linked = some m then { q with linked := none } else q := by
  rw [applyRetire_eq]
  refine (permitOf_clearLink _ o.linked m).trans ?_
  rw [permitOf_of_keeps (forgotten_keeps s o)]

end

section
variable {s : State} (h : Ready s) (tag : Nat) {n : Nat}
include h

theorem retireOrder_refuses_notFound (ho : orderOf s n = none) : Refuses (.retireOrder tag n) s .notFound :=
  refuses_of_refuse h rfl rfl fun u hu => by simp only [retireOrder, orderOf_of_keeps hu, ho]

theorem retireOrder_refuses_wrongState {o : Order} (ho : orderOf s n = some o)
    (hopen : o.state ≠ .complete ∧ o.state ≠ .cancelled) : Refuses (.retireOrder tag n) s .wrongState := by
  have hisOpen : o.state.isOpen = true := by
    rw [← Bool.not_eq_false, OrderState.isOpen_eq_false]
    exact not_or.mpr hopen
  exact refuses_of_refuse h rfl rfl fun u hu => by simp only [retireOrder, orderOf_of_keeps hu, ho, hisOpen, if_true]

theorem exec_retireOrder {o : Order} (ho : orderOf s n = some o) (hended : ¬(o.state ≠ .complete ∧ o.state ≠ .cancelled)) :
    exec (.retireOrder tag n) s = .next (applyRetire (answered s 0x08 tag .ok .none) o) := by
  have hisOpen : o.state.isOpen = false := (OrderState.isOpen_eq_false _).mpr (by tauto)
  exact request_carried_quiet (f := retireOrder n) (g := (applyRetire · o)) h
    (fun u hu => by simp only [retireOrder, orderOf_of_keeps hu, ho, hisOpen, Bool.false_eq_true, if_false])
    fun u => applyRetire_keeps u o .askArb (by decide)

end

/-- Settles O17: ASSIGN_ORDER's checks and its offer, and what RETIRE_ORDER leaves of orders, trucks and permits. -/
theorem assignAndRetireOrder : Obligations.AssignAndRetireOrder := by
  unfold Obligations.AssignAndRetireOrder
  refine ⟨fun s tag n t h => assignOrder_checks h tag n t, fun s tag n h => ?_⟩
  cases ho : orderOf s n with
  | none => exact retireOrder_refuses_notFound h tag ho
  | some o =>
    dsimp only
    split_ifs with hopen
    · exact retireOrder_refuses_wrongState h tag ho hopen
    have ha := answered_keeps s 0x08 tag .ok .none
    have hnum : o.num = n := (findBy_some ho).1
    have hexec := exec_retireOrder h tag ho hopen
    have hkeeps := applyRetire_keeps (answered s 0x08 tag .ok .none) o
    refine ⟨_, hexec, ?_, fun m hm => ?_, fun k a hk => ?_, fun p q hp hq => ?_, fun p hp => ?_, ?_⟩
    · rw [orderOf_applyRetire, if_pos hnum.symm]
    · rw [orderOf_applyRetire, if_neg (hnum ▸ hm), orderOf_of_keeps ha]
    · rw [truckOf_applyRetire, truckOf_of_keeps ha, hk, hnum]
      exact ⟨_, rfl, by rw [a.withoutOrder_rec, if_pos rfl], fun x hx => by rw [a.withoutOrder_rec, if_neg hx],
        a.withoutOrder_slots n, a.withoutOrder_eq n⟩
    · rw [permitOf_applyRetire, permitOf_of_keeps ha, hq]
      simp [hp]
    · rw [permitOf_applyRetire, permitOf_of_keeps ha]
      simp [hp]
    · exact eq_of_keeps_crew hkeeps.to |>.trans (by
        have hpoints := hkeeps .points (by decide)
        have hasks := hkeeps .asks (by decide)
        have hport := hkeeps .port (by decide)
        have harb := hkeeps .askArb (by decide)
        simp only [Field.same] at hpoints hasks hport harb
        rw [hpoints, hasks, hport, harb])

end Sys2Proof.Machine

/-!
PROOFS. CHANGE_ORDER (spec/02_work_orders.md section 2.8).
-/
namespace Sys2Proof.Machine

-- The proofs are taken one after another: side by side they wait for each other in more threads than the check can hold.
set_option Elab.async false

/-! ## The change given (R20, R33) -/

theorem orderRecIn_of_none {s : State} {t n : Nat} {k : Truck} (hk : truckOf s t = some k)
    (hrec : recFor k.queue (.order n) = none) : orderRecIn s t n = none := by
  have hsome := orderRecIn_isSome hk n
  rw [hrec] at hsome
  simpa using hsome

theorem orderRecIn_of_some {s : State} {t n : Nat} {k : Truck} {a : Rec} {b : OrderContent} (hk : truckOf s t = some k)
    (hrec : recFor k.queue (.order n) = some a) (hcontent : a.content = .order b) : orderRecIn s t n = some b := by
  have hrecOf : recOf s t (.order n) = some a := by simp [recOf, hk, hrec]
  unfold orderRecIn
  rw [hrecOf, Option.bind_some, hcontent]

section
variable {prio : Option Nat} {loc desc : Option Text} {cands : Option (List Nat)} {profile : Option ProfileIn}
  {remove : Bool}

/-- CHANGE_ORDER's fields within their limits (R20, R33). -/
def changeWithin (prio : Option Nat) (loc desc : Option Text) (cands : Option (List Nat)) (profile : Option Profile)
    (remove : Bool) : OrderChange :=
  { prio := prio.map (clamp 1 4), loc := loc.map (List.take 48), desc := desc.map (List.take 120)
    cands := cands.map candidatesOf, profile := profile, remove := remove }

theorem changeOf_none (hbad : (profile.any fun p => decide (remove = true ∨ 3 ≤ p.set.timer ∨ 3 ≤ p.set.alarm)) = true) :
    changeOf prio loc desc cands profile remove = none := by
  cases profile with
  | none => simp at hbad
  | some p =>
    unfold changeOf
    cases remove with
    | true => rfl
    | false =>
      have hgiven : profileGiven (some p) = none := (profileGiven_isNone _).mpr (by simpa using hbad)
      rw [hgiven]
      rfl

/-- Fields that are sound are brought within their limits; a profile is then given or removed, not both. -/
theorem changeOf_some (hbad : ¬(profile.any fun p => decide (remove = true ∨ 3 ≤ p.set.timer ∨ 3 ≤ p.set.alarm)) = true) :
    ∃ g, profileGiven profile = some g ∧ (profile.isSome = true → remove = false) ∧
      changeOf prio loc desc cands profile remove = some (changeWithin prio loc desc cands g remove) := by
  have hgiven : profileGiven profile ≠ none := by
    rw [Ne, profileGiven_isNone]
    cases profile with
    | none => simp
    | some p => simp_all
  have hremove : profile.isSome = true → remove = false := by
    cases profile with
    | none => simp
    | some p => simp_all
  obtain ⟨g, hg⟩ := Option.ne_none_iff_exists'.mp hgiven
  have hboth : ¬(profile.isSome && remove) = true := by
    simpa using hremove
  refine ⟨g, hg, hremove, ?_⟩
  unfold changeOf
  rw [if_neg hboth, hg]
  rfl

/-- A field given or not is unchanged by its limits. -/
theorem any_eq_false_iff {α : Type} {p : α → Bool} {P : α → Prop} (h : ∀ x, p x = false ↔ P x) (v : Option α) :
    v.any p = false ↔ ∀ x, v = some x → P x := by
  cases v with
  | none => simp
  | some x => simp [h]

theorem changeClamped_iff {g : Option Profile} (hg : profileGiven profile = some g) :
    changeClamped prio loc desc cands profile = false ↔
      (∀ x, prio = some x → clamp 1 4 x = x) ∧ (∀ x, loc = some x → x.length ≤ 48) ∧
        (∀ x, desc = some x → x.length ≤ 120) ∧ (∀ x, cands = some x → candidatesOf x = x) ∧
        ∀ p q, profile = some p → g = some q → profileAsGiven p q := by
  have htext (m : Nat) (x : Text) : textCut m x = false ↔ x.length ≤ m := by simp [textCut]
  rw [← profileGiven_kept hg, ← any_eq_false_iff fun x => bne_eq_false_iff_eq (a := clamp 1 4 x) (b := x),
    ← any_eq_false_iff (htext 48), ← any_eq_false_iff (htext 120),
    ← any_eq_false_iff fun x => bne_eq_false_iff_eq (a := candidatesOf x) (b := x)]
  simp only [changeClamped, Bool.or_eq_false_iff, and_assoc]

end

/-! ## The order and its record (R33) -/

theorem Order.change_num (o : Order) (c : OrderChange) : (o.change c).num = o.num := Order.withCands_num o c.cands

/-- The tried list of a changed order: with new candidates its truck alone, if it is one of them (R33). -/
def Order.triedWith (o : Order) : Option (List Nat) → List Nat
  | none => o.tried
  | some l =>
    match o.assigned with
    | some t => if t ∈ l then [t] else []
    | none => []

theorem Order.withCands_eq (o : Order) (x : Option (List Nat)) :
    o.withCands x = { o with cands := x.getD o.cands, tried := o.triedWith x } := by
  cases x with
  | none => rfl
  | some l =>
    unfold Order.withCands Order.triedWith
    cases o.assigned <;> simp

theorem Order.change_eq (o : Order) (c : OrderChange) : o.change c =
    { o with
      prio := c.prio.getD o.prio, loc := c.loc.getD o.loc, desc := c.desc.getD o.desc, cands := c.cands.getD o.cands
      tried := o.triedWith c.cands, profile := if c.remove then none else c.profile.or o.profile } := by
  rw [Order.change, Order.withCands_eq]

/-- The state with the order changed and its record brought up to date, before rollover (R33). -/
def changed (s : State) (o : Order) (c : OrderChange) : State :=
  if (c.record && o.state != .queued) = true then placeChanged (modOrder s o.num fun o => o.change c) o
  else modOrder s o.num fun o => o.change c

theorem applyChange_eq (s : State) (o : Order) (c : OrderChange) :
    applyChange s o c =
      if c.cands.isSome = true ∧ o.state = .queued then rollover (changed s o c) o.num else changed s o c := by
  unfold applyChange changed
  simp only [Bool.and_eq_true, beq_iff_eq]

/-- The disposition of the record a change places: the standing record's own, otherwise OFFER or HELD (R33). -/
def changedDisp (s : State) (t : Nat) (o : Order) : Disposition :=
  match orderRecIn s t o.num with
  | some c => c.disp
  | none => if o.state = .offered then .offer else .held

theorem placeChanged_some (s : State) {o : Order} {t : Nat} (ht : o.assigned = some t) :
    placeChanged s o = giveOrder s t o.num (changedDisp s t o) false := by
  unfold placeChanged changedDisp
  rw [ht]
  cases hrec : orderRecIn s t o.num <;> simp only [hrec]

theorem placeChanged_none (s : State) {o : Order} (ht : o.assigned = none) : placeChanged s o = s := by
  unfold placeChanged
  rw [ht]

section
variable (s : State) (o : Order) (c : OrderChange)

theorem modOrder_change_keeps : Keeps [.orders] s (modOrder s o.num fun o => o.change c) := modOrder_keeps s _ _

theorem changed_keeps : Keeps [.trucks, .orders, .askArb] s (changed s o c) := by
  unfold changed
  split
  · exact ((modOrder_change_keeps s o c).to).trans ((placeChanged_keeps _ o).to)
  · exact (modOrder_change_keeps s o c).to

theorem orderOf_changed (m : Nat) :
    orderOf (changed s o c) m = (orderOf s m).map fun r => if m = o.num then r.change c else r := by
  have hmod := orderOf_modOrder s o.num m (fun r => r.change c) fun r hr => (r.change_num c).trans hr
  unfold changed
  split
  · exact (orderOf_of_keeps (placeChanged_keeps _ o) m).trans hmod
  · exact hmod

theorem truckOf_changed_ne {t : Nat} (ht : o.assigned ≠ some t) : truckOf (changed s o c) t = truckOf s t := by
  have hmod := truckOf_of_keeps (modOrder_change_keeps s o c) t
  unfold changed
  split
  · cases ha : o.assigned with
    | none => rw [placeChanged_none _ ha, hmod]
    | some x =>
      have hx : t ≠ x := fun h => ht (by rw [ha, h])
      rw [placeChanged_some _ ha, truckOf_giveOrder_ne _ _ _ _ hx, hmod]
  · exact hmod

/-- Without a new priority or text, and for a QUEUED order, no record changes (R33). -/
theorem changed_trucks (h : o.state = .queued ∨ c.record = false) : (changed s o c).trucks = s.trucks := by
  have hno : ¬(c.record && o.state != .queued) = true := by
    rcases h with h | h <;> simp [h]
  rw [changed, if_neg hno]
  exact modOrder_change_keeps s o c .trucks (by decide)

end

section
variable {s : State} {o : Order} {c : OrderChange} {t : Nat} {k : Truck}

theorem changed_of_record (hqueued : o.state ≠ .queued) (hrecord : c.record = true) (ht : o.assigned = some t) :
    changed s o c = giveOrder (modOrder s o.num fun o => o.change c) t o.num (changedDisp s t o) false := by
  have hdisp : changedDisp (modOrder s o.num fun o => o.change c) t o = changedDisp s t o := rfl
  have hyes : (c.record && o.state != .queued) = true := by simp [hrecord, hqueued]
  rw [changed, if_pos hyes, placeChanged_some _ ht, hdisp]

/-- The record of an order with a truck as a change of priority or text leaves it (R24, R33). -/
theorem truckOf_changed (ho : orderOf s o.num = some o) (hqueued : o.state ≠ .queued) (hrecord : c.record = true)
    (ht : o.assigned = some t) (hk : truckOf s t = some k) :
    if (recFor k.queue (.order o.num)).isNone = true ∧ 12 ≤ k.queue.length then truckOf (changed s o c) t = some k
    else ∃ k' r d note, truckOf (changed s o c) t = some k' ∧ recFor k'.queue (.order o.num) = some r ∧
      r.content = .order (orderContent (o.change c) d note) ∧ r.attempts = 0 ∧ r.inFlight = false ∧
      (∀ a b, recFor k.queue (.order o.num) = some a → a.content = .order b → d = b.disp ∧ note = b.permitOpen) ∧
      (recFor k.queue (.order o.num) = none → d = (if o.state = .offered then .offer else .held) ∧ note = false) ∧
      (∀ x, x ≠ .order o.num → recFor k'.queue x = recFor k.queue x) ∧
      k' = { k with queue := k'.queue, seqCtr := k'.seqCtr } := by
  have hmod : truckOf (modOrder s o.num fun o => o.change c) t = some k :=
    (truckOf_of_keeps (modOrder_change_keeps s o c) t).trans hk
  have horder : orderOf (modOrder s o.num fun o => o.change c) o.num = some (o.change c) := by
    rw [orderOf_modOrder s o.num o.num (fun r => r.change c) fun r hr => (r.change_num c).trans hr, ho]
    simp
  rw [changed_of_record hqueued hrecord ht]
  by_cases hfull : (recFor k.queue (.order o.num)).isNone = true ∧ 12 ≤ k.queue.length
  · rw [if_pos hfull, giveOrder_of_full hmod _ _ (by simpa using hfull)]
    exact hmod
  · rw [if_neg hfull]
    obtain ⟨k', r, hk', hframe, hrec, hcontent, hattempts, hflight, hother⟩ :=
      truckOf_giveOrder horder hmod (changedDisp s t o) false (by
        by_contra hno
        exact hfull (by simpa using hno))
    refine ⟨k', r, _, _, hk', hrec, hcontent, hattempts, hflight, fun a b ha hb => ?_, fun hnone => ?_, hother, hframe⟩
    · simp [changedDisp, orderRecIn_of_some hk ha hb, ha, Rec.notesOpen, hb]
    · simp [changedDisp, orderRecIn_of_none hk hnone, hnone]

end

/-! ## The request -/

section
variable {s : State} (h : Ready s) (tag n : Nat) {prio : Option Nat} {loc desc : Option Text} {cands : Option (List Nat)}
  {profile : Option ProfileIn} {remove : Bool}
include h

theorem changeOrder_refuses_badField (hbad : changeOf prio loc desc cands profile remove = none) :
    Refuses (.changeOrder tag n prio loc desc cands profile remove) s .badField :=
  refuses_of_refuse h rfl rfl fun u _ => by simp only [changeOrder, hbad]

variable {c : OrderChange} (hc : changeOf prio loc desc cands profile remove = some c)
include hc

theorem changeOrder_refuses_notFound (ho : orderOf s n = none) :
    Refuses (.changeOrder tag n prio loc desc cands profile remove) s .notFound :=
  refuses_of_refuse h rfl rfl fun u hu => by simp only [changeOrder, hc, orderOf_of_keeps hu, ho]

variable {o : Order} (ho : orderOf s n = some o)
include ho

theorem changeOrder_refuses_wrongState (hended : o.state = .complete ∨ o.state = .cancelled) :
    Refuses (.changeOrder tag n prio loc desc cands profile remove) s .wrongState :=
  refuses_of_refuse h rfl rfl fun u hu => by
    simp only [changeOrder, hc, orderOf_of_keeps hu, ho, (OrderState.isOpen_eq_false _).mpr hended, if_true]

theorem exec_changeOrder (hopen : ¬(o.state = .complete ∨ o.state = .cancelled)) :
    exec (.changeOrder tag n prio loc desc cands profile remove) s = .next (settleEvent
      (applyChange (answered s 0x06 tag (okOr (changeClamped prio loc desc cands profile)) .none) o c)) := by
  have hisOpen : ¬o.state.isOpen = false := mt (OrderState.isOpen_eq_false _).mp hopen
  exact request_carried (f := changeOrder n prio loc desc cands profile remove) (g := (applyChange · o c)) h
    fun u hu => by simp only [changeOrder, hc, orderOf_of_keeps hu, ho, if_neg hisOpen]

end

/-- Settles O18: the refusals, the order as changed, and the record in its truck's queue. -/
theorem changeOrderUpdatesOrderAndRecord : Obligations.ChangeOrderUpdatesOrderAndRecord := by
  unfold Obligations.ChangeOrderUpdatesOrderAndRecord
  intro s tag n prio loc desc cands profile remove h
  dsimp only
  by_cases hbad : (profile.any fun p => decide (remove = true ∨ 3 ≤ p.set.timer ∨ 3 ≤ p.set.alarm)) = true
  · rw [if_pos hbad]
    exact changeOrder_refuses_badField h tag n (changeOf_none hbad)
  rw [if_neg hbad]
  obtain ⟨g, hg, hremove, hc⟩ := changeOf_some (prio := prio) (loc := loc) (desc := desc) (cands := cands) hbad
  cases ho : orderOf s n with
  | none => exact changeOrder_refuses_notFound h tag n hc ho
  | some o =>
    dsimp only
    by_cases hended : o.state = .complete ∨ o.state = .cancelled
    · rw [if_pos hended]
      exact changeOrder_refuses_wrongState h tag n hc ho hended
    rw [if_neg hended]
    obtain rfl : o.num = n := (findBy_some ho).1
    have hexec := exec_changeOrder h tag o.num hc ho hended
    have ha := answered_keeps s 0x06 tag (okOr (changeClamped prio loc desc cands profile)) .none
    have htruck (m : Nat) := truckOf_of_keeps ha m
    have horder (m : Nat) := orderOf_of_keeps ha m
    have hframe := eq_of_keeps_ordersTrucks (changed_keeps (answered s 0x06 tag
      (okOr (changeClamped prio loc desc cands profile)) .none) o (changeWithin prio loc desc cands g remove))
    have hrecord : (changeWithin prio loc desc cands g remove).record = true ↔
        prio.isSome = true ∨ loc.isSome = true ∨ desc.isSome = true := by
      simp [OrderChange.record, changeWithin, or_assoc]
    have hprofile : (o.change (changeWithin prio loc desc cands g remove)).profile =
        if remove then none else g.or o.profile := by rw [Order.change_eq]; rfl
    rw [applyChange_eq] at hexec
    refine ⟨okOr (changeClamped prio loc desc cands profile), _, o.change (changeWithin prio loc desc cands g remove),
      okOr_cases _, ?_, ?_, ?_, ?_, ?_, ?_, ?_, ?_, ?_, ?_, ?_, hframe⟩
    · rw [okOr_eq_ok, changeClamped_iff hg]
      refine and_congr_right fun _ => and_congr_right fun _ => and_congr_right fun _ => and_congr_right fun _ => ?_
      cases hp : profile with
      | none => simp
      | some p =>
        obtain ⟨q, rfl, -⟩ := profileGiven_some hg hp
        rw [hprofile, hremove (by simp [hp])]
        rfl
    · rw [hexec]
      simp [changeWithin]
    · rw [orderOf_changed, horder, ho]
      simp
    · rw [Order.change_eq]
      simp only [changeWithin]
      cases cands with
      | none => rfl
      | some l =>
        cases hassigned : o.assigned with
        | none => simp [Order.triedWith, hassigned]
        | some t => by_cases hin : t ∈ candidatesOf l <;> simp [Order.triedWith, hassigned, hin]
    · rintro rfl
      rw [hprofile]
      rfl
    · rintro rfl hp
      rw [hprofile, profileGiven_none hg hp]
      rfl
    · intro p hp
      obtain ⟨q, rfl, hq⟩ := profileGiven_some hg hp
      rw [hprofile, hremove (by simp [hp])]
      exact ⟨q, rfl, profileOf_some hq⟩
    · intro m hm
      rw [orderOf_changed, horder]
      simp [hm]
    · intro t ht
      rw [truckOf_changed_ne _ _ _ ht, htruck]
    · intro hnone
      refine (changed_trucks _ _ _ (hnone.imp_right fun hnone => ?_)).trans (ha .trucks (by decide))
      obtain ⟨rfl, rfl, rfl⟩ := hnone
      rfl
    · intro t k hqueued hgiven ht hk
      exact truckOf_changed ((horder _).trans ho) hqueued (hrecord.mpr hgiven) ht ((htruck t).trans hk)

end Sys2Proof.Machine

/-!
PROOFS. The replies of a truck to an order (spec/02_work_orders.md sections 2.6 and 2.7).
-/
namespace Sys2Proof.Machine

-- The proofs are taken one after another: side by side they wait for each other in more threads than the check can hold.
set_option Elab.async false

theorem eq_of_keeps_trucksArb {s v : State} (h : Keeps [.trucks, .askArb] s v) :
    v = { s with trucks := v.trucks, askArb := v.askArb } := by
  have horders : v.orders = s.orders := h .orders (by decide)
  exact (eq_of_keeps_ordersTrucks h.to).trans (by rw [horders])

/-! ## An order moved and announced, and its truck's record -/

/-- The state with an order changed and announced (R17, R18). -/
def orderMoved (s : State) (n : Nat) (f : Order → Order) (st : OrderState) (x : Option Nat) : State :=
  modOrder (post s (.orderState n st x)) n f

section
variable {s : State} {n : Nat} {f : Order → Order} {st : OrderState} {x : Option Nat}

theorem orderMoved_keeps (s : State) (n : Nat) (f : Order → Order) (st : OrderState) (x : Option Nat) :
    Keeps [.orders] (post s (.orderState n st x)) (orderMoved s n f st x) := modOrder_keeps _ n f

theorem orderMoved_trucks (s : State) (n : Nat) (f : Order → Order) (st : OrderState) (x : Option Nat) :
    (orderMoved s n f st x).trucks = s.trucks :=
  (orderMoved_keeps s n f st x .trucks (by decide)).trans (post_keeps s _ .trucks (by decide))

theorem orderOf_orderMoved (hf : ∀ o, o.num = n → (f o).num = n) (m : Nat) :
    orderOf (orderMoved s n f st x) m = (orderOf s m).map fun o => if m = n then f o else o := by
  rw [orderMoved, orderOf_modOrder _ n m f hf, orderOf_of_keeps (post_keeps s _)]

end

/-- What truck `t`, which is `k` in `s`, is told of order `n` in `u`: a fresh record of the content given, its slots as
given, and nothing else of any truck (R24, R114). -/
def ToldOrder (s u : State) (t n : Nat) (k : Truck) (o : Order) (d : Disposition) (st : Option OrderState) (note : Bool)
    (slots : List Nat) : Prop :=
  ∃ k' r, truckOf u t = some k' ∧ recFor k'.queue (.order n) = some r ∧ r.attempts = 0 ∧ r.inFlight = false ∧
    r.content = .order { num := n, disp := d, state := st, prio := o.prio, loc := o.loc, desc := o.desc
                         linked := o.linked, permitOpen := note } ∧
    (∀ x, x ≠ .order n → recFor k'.queue x = recFor k.queue x) ∧ (∀ m, m ≠ t → truckOf u m = truckOf s m) ∧
    k' = { k with queue := k'.queue, seqCtr := k'.seqCtr, orderSlots := slots }

/-- The record of order `n` standing in truck `t`'s queue, if any, brought up to date under HELD (R26, R28). -/
def HeldOrder (s u : State) (t n : Nat) (k : Truck) (o : Order) (st : OrderState) : Prop :=
  (recFor k.queue (.order n) = none → u.trucks = s.trucks) ∧
  ∀ a b, recFor k.queue (.order n) = some a → a.content = .order b →
    ToldOrder s u t n k o .held (some st) b.permitOpen k.orderSlots

/-- The record of order `n` and its slot gone from truck `t` (R27, R29). -/
def DroppedOrder (s u : State) (t n : Nat) (k : Truck) : Prop :=
  truckOf u t = some { k with
    queue := k.queue.filter fun r => r.content.subject != .order n
    orderSlots := k.orderSlots.filter (· != n) } ∧
  ∀ m, m ≠ t → truckOf u m = truckOf s m

theorem ToldOrder.of_trucks {s v u : State} {t n : Nat} {k : Truck} {o : Order} {d : Disposition} {st : Option OrderState}
    {note : Bool} {slots : List Nat} (h : ToldOrder v u t n k o d st note slots) (hv : v.trucks = s.trucks) :
    ToldOrder s u t n k o d st note slots := by
  obtain ⟨k', r, hk', hrec, hattempts, hflight, hcontent, hother, htrucks, hframe⟩ := h
  exact ⟨k', r, hk', hrec, hattempts, hflight, hcontent, hother,
    fun m hm => (htrucks m hm).trans (congrArg (findBy Truck.num m) hv), hframe⟩

theorem ToldOrder.to_trucks {s v u : State} {t n : Nat} {k : Truck} {o : Order} {d : Disposition} {st : Option OrderState}
    {note : Bool} {slots : List Nat} (h : ToldOrder s v t n k o d st note slots) (hu : u.trucks = v.trucks) :
    ToldOrder s u t n k o d st note slots := by
  have htruck (m : Nat) : truckOf u m = truckOf v m := congrArg (findBy Truck.num m) hu
  obtain ⟨k', r, hk', hrec, hattempts, hflight, hcontent, hother, htrucks, hframe⟩ := h
  exact ⟨k', r, (htruck t).trans hk', hrec, hattempts, hflight, hcontent, hother,
    fun m hm => (htruck m).trans (htrucks m hm), hframe⟩

/-- An order changed and then announced is announced as it has become. -/
theorem postOrderState_moved {s : State} {n : Nat} {o : Order} (f : Order → Order) (ho : orderOf s n = some o)
    (hf : ∀ r, r.num = n → (f r).num = n) {x : Option Nat} (hx : (f o).assigned = x) :
    postOrderState (modOrder s n f) n = orderMoved s n f (f o).state x := by
  rw [postOrderState_modOrder ho hf, hx]
  rfl

section
variable {s : State} {n t : Nat} {k : Truck} {o : Order}

/-- Without a record for the order nothing is brought up to date (R26, R28). -/
theorem updateOrderRec_of_none (hk : truckOf s t = some k) (hrec : recFor k.queue (.order n) = none) (d : Disposition) :
    updateOrderRec s t n d = s := by
  have hno : ¬(orderRecIn s t n).isSome = true := by simp [orderRecIn_of_none hk hrec]
  rw [updateOrderRec, if_neg hno]

theorem updateOrderRec_of_some (hk : truckOf s t = some k) {a : Rec} (hrec : recFor k.queue (.order n) = some a)
    (d : Disposition) : updateOrderRec s t n d = giveOrder s t n d false := by
  have hyes : (orderRecIn s t n).isSome = true := by rw [orderRecIn_isSome hk, hrec]; rfl
  rw [updateOrderRec, if_pos hyes]

theorem giveOrder_told (ho : orderOf s n = some o) (hk : truckOf s t = some k) (d : Disposition) (b : Bool)
    (hroom : (recFor k.queue (.order n)).isSome = true ∨ k.queue.length < 12) :
    ToldOrder s (giveOrder s t n d b) t n k o d (if d = .offer ∨ d = .held then some o.state else none)
      (b || (recFor k.queue (.order n)).any Rec.notesOpen) k.orderSlots := by
  obtain ⟨k', r, hk', hframe, hrec, hcontent, hattempts, hflight, hother⟩ := truckOf_giveOrder ho hk d b hroom
  obtain rfl : o.num = n := (findBy_some ho).1
  exact ⟨k', r, hk', hrec, hattempts, hflight, hcontent, hother, fun m hm => truckOf_giveOrder_ne s _ d b hm, hframe⟩

theorem updateOrderRec_held {u : State} (hu : u.trucks = s.trucks) (ho : orderOf u n = some o)
    (hk : truckOf s t = some k) : HeldOrder s (updateOrderRec u t n .held) t n k o o.state := by
  have hk' : truckOf u t = some k := (congrArg (findBy Truck.num t) hu).trans hk
  refine ⟨fun hnone => by rw [updateOrderRec_of_none hk' hnone, hu], fun a b ha hb => ?_⟩
  rw [updateOrderRec_of_some hk' ha]
  have htold := giveOrder_told ho hk' .held false (.inl (by simp [ha]))
  have hnote : (false || (recFor k.queue (.order n)).any Rec.notesOpen) = b.permitOpen := by
    simp [ha, Rec.notesOpen, hb]
  rw [hnote] at htold
  exact htold.of_trucks hu

theorem dropped_of_trucks {u : State} (hu : u.trucks = s.trucks) (hk : truckOf s t = some k) :
    DroppedOrder s (dropRec (freeOrderSlot u t n) t (.order n)) t n k := by
  have htruck (m : Nat) : truckOf u m = truckOf s m := congrArg (findBy Truck.num m) hu
  refine ⟨?_, fun m hm => ?_⟩
  · rw [truckOf_dropRec, truckOf_freeOrderSlot, htruck, hk]
    simp only [Option.map_some, if_true]
    rfl
  · rw [truckOf_dropRec, truckOf_freeOrderSlot, htruck]
    simp [hm]

theorem dropped_keeps (u : State) (t n : Nat) : Keeps [.trucks] u (dropRec (freeOrderSlot u t n) t (.order n)) :=
  (freeOrderSlot_keeps u t n).trans (dropRec_keeps _ t _)

theorem OrderState.isTaken_iff (x : OrderState) : x.isTaken = true ↔ x = .accepted ∨ x = .enRoute ∨ x = .onSite := by
  cases x <;> simp [OrderState.isTaken]

/-! ## ACCEPT (R26) -/

theorem replyAccept_offered (ho : orderOf s n = some o) (h : o.assigned = some t ∧ o.state = .offered) :
    replyAccept s n t = updateOrderRec
      (orderMoved s n (fun o => { o with state := .accepted, offerExpiry := none }) .accepted (some t)) t n .held := by
  simp only [replyAccept, ho]
  rw [if_pos h, postOrderState_moved (fun o => { o with state := .accepted, offerExpiry := none }) ho (fun _ hr => hr) h.1]

theorem replyAccept_repeated (ho : orderOf s n = some o) (hnot : ¬(o.assigned = some t ∧ o.state = .offered))
    (h : o.assigned = some t ∧ (o.state.isTaken = true ∨ o.state = .complete)) : replyAccept s n t = s := by
  simp only [replyAccept, ho]
  rw [if_neg hnot, if_pos h]

theorem replyAccept_late (ho : orderOf s n = some o) (hnot : ¬(o.assigned = some t ∧ o.state = .offered))
    (hnot' : ¬(o.assigned = some t ∧ (o.state.isTaken = true ∨ o.state = .complete))) :
    replyAccept s n t = tellLate (post s (.lateAccept n t o.state o.assigned)) n t
      (if o.state = .cancelled then .cancelled else .withdrawn) := by
  simp only [replyAccept, ho]
  rw [if_neg hnot, if_neg hnot']

/-- A late truck is told nothing where a record stands, or the slot or the record cannot be placed (R26). -/
theorem tellLate_untold (hk : truckOf s t = some k) (d : Disposition)
    (h : (recFor k.queue (.order n)).isSome = true ∨ (n ∉ k.orderSlots ∧ 4 ≤ k.orderSlots.length) ∨ 12 ≤ k.queue.length) :
    tellLate s n t d = s := by
  simp only [tellLate, hk]
  by_cases hrec : (recFor k.queue (.order n)).isSome = true
  · rw [if_pos hrec]
  · have hno : ¬(k.canSlot n && k.canTake (.order n)) = true := by
      rw [Bool.and_eq_true, not_and_or, Bool.not_eq_true, Bool.not_eq_true, Truck.canSlot_eq_false,
        Truck.canTake_eq_false]
      exact (h.resolve_left hrec).imp_right fun hfull => ⟨by simpa using hrec, hfull⟩
    rw [if_neg hrec, if_neg hno]

/-- Otherwise it is told, in a slot of its own (R26). -/
theorem tellLate_told (ho : orderOf s n = some o) (hk : truckOf s t = some k) (d : Disposition)
    (h : ¬((recFor k.queue (.order n)).isSome = true ∨ (n ∉ k.orderSlots ∧ 4 ≤ k.orderSlots.length) ∨
      12 ≤ k.queue.length)) :
    ToldOrder s (tellLate s n t d) t n k o d (if d = .offer ∨ d = .held then some o.state else none) false
        (if n ∈ k.orderSlots then k.orderSlots else k.orderSlots ++ [n]) ∧
    Keeps [.trucks, .askArb] s (tellLate s n t d) := by
  obtain ⟨hrec, hslot, hroom⟩ : recFor k.queue (.order n) = none ∧ (n ∈ k.orderSlots ∨ k.orderSlots.length < 4) ∧
      k.queue.length < 12 := by
    simp only [not_or, not_and_or, Option.not_isSome_iff_eq_none, not_not, not_le] at h
    exact h
  have hyes : (k.canSlot n && k.canTake (.order n)) = true := by
    rw [Bool.and_eq_true, ← Bool.not_eq_false, ← Bool.not_eq_false, Truck.canSlot_eq_false, Truck.canTake_eq_false]
    refine ⟨fun hno => ?_, fun hno => ?_⟩
    · exact hslot.elim hno.1 fun hlt => absurd hno.2 (by omega)
    · exact absurd hno.2 (by omega)
  have htold : tellLate s n t d = giveOrder (takeOrderSlot s t n) t n d false := by
    have hnone : ¬(recFor k.queue (.order n)).isSome = true := by simp [hrec]
    simp only [tellLate, hk]
    rw [if_neg hnone, if_pos hyes]
  have htaken := takeOrderSlot_keeps s t n
  have hk1 : truckOf (takeOrderSlot s t n) t = some (k.withOrderSlot n) := by simp [truckOf_takeOrderSlot, hk]
  have hqueue := k.withOrderSlot_queue n
  obtain ⟨k', r, hk', hrec', hattempts, hflight, hcontent, hother, htrucks, hframe⟩ :=
    giveOrder_told ((orderOf_of_keeps htaken n).trans ho) hk1 d false (.inr (by rwa [hqueue]))
  rw [hqueue, hrec] at hcontent
  rw [hqueue] at hother
  rw [htold]
  refine ⟨⟨k', r, hk', hrec', hattempts, hflight, hcontent, hother, fun m hm => ?_, ?_⟩,
    (htaken.to).trans (giveOrder_keeps _ t n d false)⟩
  · rw [htrucks m hm, truckOf_takeOrderSlot]
    simp [hm]
  · rw [← Truck.withOrderSlot_slots hslot]
    rw [k.withOrderSlot_eq n] at hframe
    exact hframe

/-! ## DECLINE (R27) -/

theorem replyDecline_offered (ho : orderOf s n = some o) (h : o.assigned = some t ∧ o.state = .offered) :
    replyDecline s n t =
      rollover (dropRec (freeOrderSlot (orderMoved s n Order.requeued .queued none) t n) t (.order n)) n := by
  simp only [replyDecline, ho]
  rw [if_pos h, backToQueued_eq ho]
  rfl

theorem replyDecline_ignored (ho : orderOf s n = some o) (h : ¬(o.assigned = some t ∧ o.state = .offered)) :
    replyDecline s n t = post s (.orderIgnored n t .decline) := by
  simp only [replyDecline, ho]
  rw [if_neg h]
  rfl

/-! ## EN_ROUTE and ON_SITE (R28) -/

/-- The state of an order that has moved on, with its record brought up to date. -/
def orderAdvanced (s : State) (n t : Nat) (st : OrderState) : State :=
  updateOrderRec (orderMoved s n (fun o => { o with state := st }) st (some t)) t n .held

theorem orderAdvanced_keeps (s : State) (n t : Nat) (st : OrderState) :
    Keeps [.trucks, .orders, .askArb] (post s (.orderState n st (some t))) (orderAdvanced s n t st) :=
  ((orderMoved_keeps s n _ st (some t)).to).trans ((updateOrderRec_keeps _ t n .held).to)

theorem orderOf_orderAdvanced (s : State) (n t : Nat) (st : OrderState) (m : Nat) :
    orderOf (orderAdvanced s n t st) m = (orderOf s m).map fun o => if m = n then { o with state := st } else o := by
  rw [orderAdvanced, orderOf_of_keeps (updateOrderRec_keeps _ t n .held)]
  exact orderOf_orderMoved (f := fun o : Order => { o with state := st }) (fun _ ho => ho) m

theorem replyProgress_moves {st : OrderState} {c : ReplyCode} (ho : orderOf s n = some o) (hassigned : o.assigned = some t)
    (htaken : o.state.isTaken = true) (hrank : o.state.rank < st.rank) :
    replyProgress s n t st c =
      if st = .onSite then onSite (orderAdvanced s n t st) n t else orderAdvanced s n t st := by
  simp only [replyProgress, ho]
  rw [if_pos ⟨hassigned, htaken⟩, if_pos hrank,
    postOrderState_moved (fun o => { o with state := st }) ho (fun _ hr => hr) hassigned]
  rfl

theorem replyProgress_repeated {st : OrderState} {c : ReplyCode} (ho : orderOf s n = some o)
    (hassigned : o.assigned = some t) (htaken : o.state.isTaken = true) (hst : o.state = st) :
    replyProgress s n t st c = s := by
  subst hst
  simp only [replyProgress, ho]
  rw [if_pos ⟨hassigned, htaken⟩, if_neg (lt_irrefl _)]
  exact if_pos trivial

theorem replyProgress_ignored {st : OrderState} {c : ReplyCode} (ho : orderOf s n = some o)
    (h : o.assigned ≠ some t ∨ ¬o.state.isTaken = true ∨ (st.rank ≤ o.state.rank ∧ o.state ≠ st)) :
    replyProgress s n t st c = post s (.orderIgnored n t c) := by
  simp only [replyProgress, ho]
  by_cases hmine : o.assigned = some t ∧ o.state.isTaken = true
  · obtain ⟨hrank, hne⟩ := (h.resolve_left (not_not.mpr hmine.1)).resolve_left (not_not.mpr hmine.2)
    rw [if_pos hmine, if_neg (not_lt.mpr hrank), if_neg hne]
    rfl
  · rw [if_neg hmine]
    rfl

theorem onSite_none {u : State} (ho : orderOf u n = some o) (hp : o.profile = none) : onSite u n t = u := by
  simp only [onSite, ho, Option.bind_some, hp]

theorem onSite_some {u : State} {p : Profile} (ho : orderOf u n = some o) (hp : o.profile = some p) :
    onSite u n t = applyProfile u t n p := by
  simp only [onSite, ho, Option.bind_some, hp]

/-! ## COMPLETE (R29) -/

/-- The state of an order that is complete: its notice posted, its record and slot gone. -/
def orderCompleted (s : State) (n t : Nat) : State :=
  dropRec (freeOrderSlot (orderMoved s n (fun o => { o with state := .complete }) .complete (some t)) t n) t (.order n)

theorem replyComplete_ends (ho : orderOf s n = some o) (h : o.assigned = some t ∧ o.state.isTaken = true)
    (hopen : openPermitOf s o = none) : replyComplete s n t = stopForOrder (orderCompleted s n t) t n := by
  simp only [replyComplete, ho]
  rw [if_pos h, hopen]
  dsimp only
  rw [postOrderState_moved (fun o => { o with state := .complete }) ho (fun _ hr => hr) h.1]
  rfl

theorem replyComplete_blocked {p : Permit} (ho : orderOf s n = some o)
    (h : o.assigned = some t ∧ o.state.isTaken = true) (hopen : openPermitOf s o = some p) :
    replyComplete s n t = post (giveOrder s t n .held true) (.completeBlocked n t p.num p.state) := by
  simp only [replyComplete, ho]
  rw [if_pos h, hopen]

theorem replyComplete_repeated (ho : orderOf s n = some o) (hnot : ¬(o.assigned = some t ∧ o.state.isTaken = true))
    (h : o.assigned = some t ∧ o.state = .complete) : replyComplete s n t = s := by
  simp only [replyComplete, ho]
  rw [if_neg hnot, if_pos h]

theorem replyComplete_ignored (ho : orderOf s n = some o) (hnot : ¬(o.assigned = some t ∧ o.state.isTaken = true))
    (hnot' : ¬(o.assigned = some t ∧ o.state = .complete)) :
    replyComplete s n t = post s (.orderIgnored n t .complete) := by
  simp only [replyComplete, ho]
  rw [if_neg hnot, if_neg hnot']
  rfl

end

theorem orderReply_unknown {s : State} {n : Nat} (ho : orderOf s n = none) (t : Nat) (c : ReplyCode) :
    orderReply s n t c = post s (.orderIgnored n t c) := by
  cases c <;> simp only [orderReply, replyAccept, replyDecline, replyProgress, replyComplete, ho] <;> rfl

/-! ## The statement -/

section
variable {s : State} {n t : Nat} {o : Order} {k : Truck} (ho : orderOf s n = some o) (hk : truckOf s t = some k)
include ho hk

/-- A standing offer accepted (R26). -/
theorem accept_takes (h : o.assigned = some t ∧ o.state = .offered) :
    ∃ u, orderReply s n t .accept = u ∧ orderOf u n = some { o with state := .accepted, offerExpiry := none } ∧
      (∀ m, m ≠ n → orderOf u m = orderOf s m) ∧ HeldOrder s u t n k o .accepted ∧
      u = { posted s [.orderState n .accepted (some t)] with
        orders := u.orders, trucks := u.trucks, askArb := u.askArb } := by
  have horder := orderOf_orderMoved (s := s) (n := n) (st := .accepted) (x := some t)
    (f := fun o : Order => { o with state := .accepted, offerExpiry := none }) fun _ hr => hr
  have hupdated := updateOrderRec_keeps
    (orderMoved s n (fun o => { o with state := .accepted, offerExpiry := none }) .accepted (some t)) t n .held
  have hn : orderOf (orderMoved s n (fun o => { o with state := .accepted, offerExpiry := none }) .accepted (some t)) n =
      some { o with state := .accepted, offerExpiry := none } := by
    rw [horder, ho]
    simp
  refine ⟨_, replyAccept_offered ho h, (orderOf_of_keeps hupdated n).trans hn, fun m hm => ?_,
    updateOrderRec_held (orderMoved_trucks s n _ _ _) hn hk,
    eq_of_keeps_ordersTrucks (((orderMoved_keeps s n _ _ _).to).trans hupdated.to)⟩
  rw [orderOf_of_keeps hupdated, horder]
  simp [hm]

/-- An ACCEPT that finds no offer standing, where the truck can be told (R26). -/
theorem accept_late (hnot : ¬(o.assigned = some t ∧ o.state = .offered))
    (hnot' : ¬(o.assigned = some t ∧ (o.state.isTaken = true ∨ o.state = .complete)))
    (h : ¬((recFor k.queue (.order n)).isSome = true ∨ (n ∉ k.orderSlots ∧ 4 ≤ k.orderSlots.length) ∨
      12 ≤ k.queue.length)) :
    ∃ u, orderReply s n t .accept = u ∧
      ToldOrder s u t n k o (if o.state = .cancelled then .cancelled else .withdrawn) none false
        (if n ∈ k.orderSlots then k.orderSlots else k.orderSlots ++ [n]) ∧
      u = { posted s [.lateAccept n t o.state o.assigned] with trucks := u.trucks, askArb := u.askArb } := by
  have hposted := post_keeps s (.lateAccept n t o.state o.assigned)
  obtain ⟨htold, hkeeps⟩ := tellLate_told ((orderOf_of_keeps hposted n).trans ho) ((truckOf_of_keeps hposted t).trans hk)
    (if o.state = .cancelled then .cancelled else .withdrawn) h
  have hstate : (if (if o.state = .cancelled then Disposition.cancelled else .withdrawn) = .offer ∨
      (if o.state = .cancelled then Disposition.cancelled else .withdrawn) = .held then some o.state else none) = none := by
    by_cases hc : o.state = .cancelled <;> simp [hc]
  rw [hstate] at htold
  exact ⟨_, replyAccept_late ho hnot hnot', htold.of_trucks (hposted .trucks (by decide)), eq_of_keeps_trucksArb hkeeps⟩

/-- A standing offer declined (R27). -/
theorem decline_returns (h : o.assigned = some t ∧ o.state = .offered) :
    ∃ v, orderReply s n t .decline = rollover v n ∧
      orderOf v n = some { o with state := .queued, assigned := none, offerTime := none, offerExpiry := none } ∧
      (∀ m, m ≠ n → orderOf v m = orderOf s m) ∧ DroppedOrder s v t n k ∧
      v = { posted s [.orderState n .queued none] with orders := v.orders, trucks := v.trucks } := by
  have horder := orderOf_orderMoved (s := s) (n := n) (st := .queued) (x := none) (f := Order.requeued) fun _ hr => hr
  have hdropped := dropped_keeps (orderMoved s n Order.requeued .queued none) t n
  refine ⟨_, replyDecline_offered ho h, ?_, fun m hm => ?_, dropped_of_trucks (orderMoved_trucks s n _ _ _) hk,
    eq_of_keeps_trucksOrders (((orderMoved_keeps s n _ _ _).to).trans hdropped.to)⟩
  · rw [orderOf_of_keeps hdropped, horder, ho]
    simp [Order.requeued, h.2]
  · rw [orderOf_of_keeps hdropped, horder]
    simp [hm]

/-- EN_ROUTE and ON_SITE of an order that is behind them (R28). -/
theorem progress_moves {st : OrderState} {c : ReplyCode} (hc : (st = .enRoute ∧ c = .enRoute) ∨ (st = .onSite ∧ c = .onSite))
    (hassigned : o.assigned = some t) (hst : o.state = .accepted ∨ (o.state = .enRoute ∧ st = .onSite)) :
    ∃ u, orderOf u n = some { o with state := st } ∧ (∀ m, m ≠ n → orderOf u m = orderOf s m) ∧
      HeldOrder s u t n k o st ∧
      u = { posted s [.orderState n st (some t)] with orders := u.orders, trucks := u.trucks, askArb := u.askArb } ∧
      (st = .enRoute ∨ o.profile = none → orderReply s n t c = u) ∧
      (∀ p, st = .onSite → o.profile = some p → orderReply s n t c = applyProfile u t n p) := by
  have hreply : orderReply s n t c = replyProgress s n t st c := by
    rcases hc with ⟨rfl, rfl⟩ | ⟨rfl, rfl⟩ <;> rfl
  have htaken : o.state.isTaken = true := by
    rcases hst with h | ⟨h, -⟩ <;> rw [h] <;> rfl
  have hrank : o.state.rank < st.rank := by
    rcases hst with h | ⟨h, rfl⟩ <;> rw [h]
    · rcases hc with ⟨rfl, -⟩ | ⟨rfl, -⟩ <;> decide
    · decide
  have hmoved := replyProgress_moves (c := c) ho hassigned htaken hrank
  have hn : orderOf (orderAdvanced s n t st) n = some { o with state := st } := by
    rw [orderOf_orderAdvanced, ho]
    simp
  rw [hreply, hmoved]
  refine ⟨orderAdvanced s n t st, hn, fun m hm => ?_,
    updateOrderRec_held (o := { o with state := st }) (orderMoved_trucks s n _ _ _) ?_ hk,
    eq_of_keeps_ordersTrucks (orderAdvanced_keeps s n t st), fun h => ?_, fun p hon hp => ?_⟩
  · rw [orderOf_orderAdvanced]
    simp [hm]
  · rw [orderOf_orderMoved (f := fun o : Order => { o with state := st }) fun _ hr => hr, ho]
    simp
  · by_cases hon : st = .onSite
    · rw [if_pos hon, onSite_none hn]
      exact h.resolve_left (by rw [hon]; decide)
    · rw [if_neg hon]
  · rw [if_pos hon, onSite_some hn hp]

/-- COMPLETE while the linked permit is open (R29). -/
theorem complete_blocked (h : o.assigned = some t ∧ o.state.isTaken = true)
    (hopen : ((o.linked.bind (permitOf s)).any fun p => p.state.isOpen) = true) :
    ∃ u p, o.linked.bind (permitOf s) = some p ∧ orderReply s n t .complete = u ∧
      u = { posted s [.completeBlocked n t p.num p.state] with trucks := u.trucks, askArb := u.askArb } ∧
      ((recFor k.queue (.order n)).isSome = true ∨ k.queue.length < 12 →
        ToldOrder s u t n k o .held (some o.state) true k.orderSlots) ∧
      (recFor k.queue (.order n) = none → 12 ≤ k.queue.length → u.trucks = s.trucks) := by
  obtain ⟨p, hp, hpopen⟩ : ∃ p, o.linked.bind (permitOf s) = some p ∧ p.state.isOpen = true := by
    cases hl : o.linked.bind (permitOf s) with
    | none => simp [hl] at hopen
    | some p => exact ⟨p, rfl, by simpa [hl] using hopen⟩
  have hpermit : openPermitOf s o = some p := by simp only [openPermitOf, hp, hpopen, if_true]
  have hgiven := giveOrder_keeps s t n .held true
  have hposted := post_keeps (giveOrder s t n .held true) (.completeBlocked n t p.num p.state)
  refine ⟨_, p, hp, replyComplete_blocked ho h hpermit, eq_of_keeps_trucksArb (hgiven.post _), fun hroom => ?_,
    fun hrec hfull => ?_⟩
  · have htold : ToldOrder s (giveOrder s t n .held true) t n k o .held (some o.state) true k.orderSlots :=
      giveOrder_told ho hk .held true hroom
    exact htold.to_trucks (hposted .trucks (by decide))
  · have hno : ¬((recFor k.queue (.order n)).isSome = true ∨ k.queue.length < 12) := by
      simp only [hrec, Option.isSome_none, Bool.false_eq_true, false_or]
      omega
    rw [giveOrder_of_full hk .held true hno]
    exact post_keeps s _ .trucks (by decide)

/-- COMPLETE otherwise (R29). -/
theorem complete_ends (h : o.assigned = some t ∧ o.state.isTaken = true)
    (hopen : ¬((o.linked.bind (permitOf s)).any fun p => p.state.isOpen) = true) :
    ∃ v, orderReply s n t .complete = stopForOrder v t n ∧
      orderOf v n = some { o with state := .complete } ∧ (∀ m, m ≠ n → orderOf v m = orderOf s m) ∧
      DroppedOrder s v t n k ∧
      v = { posted s [.orderState n .complete (some t)] with orders := v.orders, trucks := v.trucks } := by
  have hno : openPermitOf s o = none := by
    rw [← Option.not_isSome_iff_eq_none, openPermitOf_isSome]
    exact hopen
  have horder := orderOf_orderMoved (s := s) (n := n) (st := .complete) (x := some t)
    (f := fun o : Order => { o with state := .complete }) fun _ hr => hr
  have hdropped := dropped_keeps (orderMoved s n (fun o => { o with state := .complete }) .complete (some t)) t n
  refine ⟨_, replyComplete_ends ho h hno, ?_, fun m hm => ?_, dropped_of_trucks (orderMoved_trucks s n _ _ _) hk,
    eq_of_keeps_trucksOrders (((orderMoved_keeps s n _ _ _).to).trans hdropped.to)⟩
  · rw [orderCompleted, orderOf_of_keeps hdropped, horder, ho]
    simp
  · rw [orderCompleted, orderOf_of_keeps hdropped, horder]
    simp [hm]

end

/-- Settles O20: reply by reply, in the order's states. -/
theorem orderRepliesMoveOrder : Obligations.OrderRepliesMoveOrder := by
  unfold Obligations.OrderRepliesMoveOrder
  refine ⟨fun s n t c ho => orderReply_unknown ho t c, fun s n t o k ho hk => ⟨?_, ?_, fun st c hc => ⟨?_, ?_, ?_⟩, ?_⟩⟩
  · by_cases h1 : o.assigned = some t ∧ o.state = .offered
    · rw [if_pos h1]
      exact accept_takes ho hk h1
    rw [if_neg h1]
    by_cases h2 : o.assigned = some t ∧ (o.state.isTaken = true ∨ o.state = .complete)
    · rw [if_pos h2]
      exact replyAccept_repeated ho h1 h2
    rw [if_neg h2]
    by_cases h3 : (recFor k.queue (.order n)).isSome = true ∨ (n ∉ k.orderSlots ∧ 4 ≤ k.orderSlots.length) ∨
        12 ≤ k.queue.length
    · rw [if_pos h3]
      have hposted := post_keeps s (.lateAccept n t o.state o.assigned)
      exact (replyAccept_late ho h1 h2).trans (tellLate_untold ((truckOf_of_keeps hposted t).trans hk) _ h3)
    · rw [if_neg h3]
      exact accept_late ho hk h1 h2 h3
  · split_ifs with h
    · exact decline_returns ho hk h
    · exact replyDecline_ignored ho h
  · exact fun hassigned hst => progress_moves ho hk hc hassigned hst
  · rintro hassigned rfl
    have htaken : o.state.isTaken = true := by
      rcases hc with ⟨h, -⟩ | ⟨h, -⟩ <;> rw [h] <;> rfl
    rcases hc with ⟨h, rfl⟩ | ⟨h, rfl⟩ <;> exact replyProgress_repeated ho hassigned htaken h
  · intro h
    have hother : o.assigned ≠ some t ∨ ¬o.state.isTaken = true ∨ (st.rank ≤ o.state.rank ∧ o.state ≠ st) := by
      refine h.imp_right fun h => h.imp (fun h => by rwa [OrderState.isTaken_iff]) fun ⟨hon, hen⟩ => ?_
      rw [hon, hen]
      decide
    rcases hc with ⟨rfl, rfl⟩ | ⟨rfl, rfl⟩ <;> exact replyProgress_ignored ho hother
  · split_ifs with h1 h2 h3
    · exact complete_blocked ho hk h1 h2
    · exact complete_ends ho hk h1 h2
    · exact replyComplete_repeated ho h1 h3
    · exact replyComplete_ignored ho h1 h3

end Sys2Proof.Machine

/-!
PROOFS. REMOVE_TRUCK (spec/01_the_crew_register.md section 1.5). First that no operation but the port's own puts a reply into
the buffer, then what rollover leaves as it was, then the orders of a removed truck taken one after another.
-/
namespace Sys2Proof.Machine

-- The proofs are taken one after another: side by side they wait for each other in more threads than the check can hold.
set_option Elab.async false

/-! ## The buffer of replies -/

theorem keeps_withPermit (s : State) (p : Permit) : Keeps [.points, .permits] s (withPermit s p) :=
  ((permits_keeps s _).to).trans ((Keeps.foldl (fun u n => addRef_keeps u n) p.points _).to)

theorem keeps_withoutPermit (s : State) (p : Permit) : Keeps [.points, .permits] s (withoutPermit s p) :=
  ((Keeps.foldl (fun u n => dropRef_keeps u n) p.points s).to).trans ((permits_keeps _ _).to)

theorem Move.buffer {A : Right → Prop} (hA : ¬A .buffer) {s t : State} (h : Move A s t) :
    t.port.buffer = s.port.buffer := by
  cases h with
  | frame h => exact congrArg Port.buffer (h .port (by decide))
  | port p _ _ hkept => exact hkept.resolve_right hA
  | loadPermit p => exact congrArg Port.buffer (keeps_withPermit s p .port (by decide))
  | retirePermit p => exact congrArg Port.buffer (keeps_withoutPermit s p .port (by decide))
  | _ => rfl

/-- An operation that is not the port's leaves the buffer of replies as it is. -/
theorem Path.buffer {A : Right → Prop} (hA : ¬A .buffer) {s t : State} (h : Path A s t) :
    t.port.buffer = s.port.buffer :=
  h.relates (R := fun s t => t.port.buffer = s.port.buffer) (fun _ => rfl) (fun h1 h2 => h2.trans h1) fun hm =>
    hm.buffer hA

theorem attach_buffer (s : State) (k tag : Nat) (a : Answer) : (attach s k tag a).port.buffer =
    s.port.buffer ++ [{ kind := k, tag := tag, code := a.code, body := a.body }] := (kick_port _).1

theorem answered_buffer (s : State) (k tag : Nat) (c : Result) (b : ReplyBody) : (answered s k tag c b).port.buffer =
    s.port.buffer ++ [{ kind := k, tag := tag, code := c, body := b }] := attach_buffer (armWindow s) k tag _

/-! ## What offers of an order leave as it was -/

/-- What offers of order `n` do to the tables: no truck appears or loses more than slots and records, and order `n` is as
it was, QUEUED again or OFFERED to a truck of the table. -/
structure OfferMove (n : Nat) (s u : State) : Prop where
  gone : ∀ k, truckOf s k = none → truckOf u k = none
  truck : ∀ k a, truckOf s k = some a → ∃ b, truckOf u k = some b ∧
    b = { a with orderSlots := b.orderSlots, queue := b.queue, seqCtr := b.seqCtr }
  others : ∀ m, m ≠ n → orderOf u m = orderOf s m
  own : ∀ o, orderOf s n = some o → ∃ o', orderOf u n = some o' ∧
    (o' = o ∨ (o'.state = .queued ∧ o'.assigned = none) ∨
      o'.state = .offered ∧ ∃ t, o'.assigned = some t ∧ (truckOf s t).isSome = true)

theorem OfferMove.refl (n : Nat) (s : State) : OfferMove n s s where
  gone _ h := h
  truck _ a h := ⟨a, h, rfl⟩
  others _ _ := rfl
  own o h := ⟨o, h, .inl rfl⟩

theorem OfferMove.isSome {n : Nat} {s u : State} (h : OfferMove n s u) {t : Nat} (ht : (truckOf u t).isSome = true) :
    (truckOf s t).isSome = true := by
  cases hs : truckOf s t with
  | none => simp [h.gone t hs] at ht
  | some a => rfl

theorem OfferMove.trans {n : Nat} {s u v : State} (h : OfferMove n s u) (h' : OfferMove n u v) : OfferMove n s v where
  gone k hk := h'.gone k (h.gone k hk)
  truck k a ha := by
    obtain ⟨b, hb, hab⟩ := h.truck k a ha
    obtain ⟨c, hc, hbc⟩ := h'.truck k b hb
    refine ⟨c, hc, ?_⟩
    rw [hab] at hbc
    exact hbc
  others m hm := (h'.others m hm).trans (h.others m hm)
  own o ho := by
    obtain ⟨o1, ho1, hcase1⟩ := h.own o ho
    obtain ⟨o2, ho2, hcase2⟩ := h'.own o1 ho1
    refine ⟨o2, ho2, ?_⟩
    rcases hcase2 with rfl | hqueued | ⟨hoffered, t, ht, hin⟩
    · exact hcase1
    · exact .inr (.inl hqueued)
    · exact .inr (.inr ⟨hoffered, t, ht, h.isSome hin⟩)

/-- An offer to a truck of the table. -/
theorem makeOffer_offerMove {s : State} {n t : Nat} {o : Order} {k : Truck} (ho : orderOf s n = some o)
    (hk : truckOf s t = some k) (hslot : n ∈ k.orderSlots ∨ k.orderSlots.length < 4) :
    OfferMove n s (makeOffer s n t) := by
  by_cases hroom : (recFor k.queue (.order n)).isSome = true ∨ k.queue.length < 12
  · obtain ⟨hn, hothers, ⟨k', r, hk', hframe, -⟩, htrucks, -⟩ := makeOffer_taken ho hk hslot hroom
    refine ⟨fun j hj => ?_, fun j a ha => ?_, hothers, fun o' ho' => ?_⟩
    · rw [htrucks j (by rintro rfl; simp [hk] at hj), hj]
    · by_cases hj : j = t
      · subst hj
        obtain rfl : k = a := by rw [hk] at ha; exact Option.some.inj ha
        exact ⟨k', hk', hframe⟩
      · exact ⟨a, (htrucks j hj).trans ha, rfl⟩
    · exact ⟨_, hn, .inr (.inr ⟨rfl, t, rfl, by simp [hk]⟩)⟩
  · obtain ⟨hn, hothers, hfreed, htrucks, -⟩ := makeOffer_failed ho hk hroom
    refine ⟨fun j hj => ?_, fun j a ha => ?_, hothers, fun o' ho' => ?_⟩
    · rw [htrucks j (by rintro rfl; simp [hk] at hj), hj]
    · by_cases hj : j = t
      · subst hj
        obtain rfl : k = a := by rw [hk] at ha; exact Option.some.inj ha
        exact ⟨_, hfreed, rfl⟩
      · exact ⟨a, (htrucks j hj).trans ha, rfl⟩
    · exact ⟨_, hn, .inr (.inl ⟨rfl, rfl⟩)⟩

theorem OfferMove.of_keeps {l : List Field} {n : Nat} {s u : State} (h : Keeps l s u)
    (hl : .trucks ∉ l ∧ .orders ∉ l := by decide) : OfferMove n s u where
  gone k hk := (truckOf_of_keeps h k hl.1).trans hk
  truck k a ha := ⟨a, (truckOf_of_keeps h k hl.1).trans ha, rfl⟩
  others m _ := orderOf_of_keeps h m hl.2
  own o ho := ⟨o, (orderOf_of_keeps h n hl.2).trans ho, .inl rfl⟩

theorem rolloverAlong_offerMove (n : Nat) (l : List Nat) (s : State) : OfferMove n s (rolloverAlong n l s) := by
  induction l generalizing s with
  | nil =>
    unfold rolloverAlong
    split
    · exact .of_keeps (post_keeps s _)
    · exact .refl n s
  | cons t l ih =>
    rw [rolloverAlong]
    by_cases hel : eligible s n t = true
    · cases ho : orderOf s n with
      | none =>
        have hno : eligible s n t = false := by
          unfold eligible
          rw [ho]
          split <;> simp_all
        simp [hno] at hel
      | some o =>
        obtain ⟨k, hk, -, hslot, -⟩ := (eligible_iff ho t).mp hel
        have hoffer := makeOffer_offerMove ho hk hslot
        rw [if_pos hel]
        split_ifs
        · exact hoffer
        · exact hoffer.trans (ih _)
    · rw [if_neg hel]
      exact ih s

theorem rollover_offerMove (s : State) (n : Nat) : OfferMove n s (rollover s n) := by
  unfold rollover
  split
  · split
    · exact .refl n s
    · exact rolloverAlong_offerMove n _ s
  · exact .refl n s

theorem backToQueued_offerMove (s : State) (n : Nat) : OfferMove n s (backToQueued s n) where
  gone k hk := (truckOf_of_keeps (backToQueued_keeps s n) k).trans hk
  truck k a ha := ⟨a, (truckOf_of_keeps (backToQueued_keeps s n) k).trans ha, rfl⟩
  others m hm := by
    rw [orderOf_backToQueued]
    simp [hm]
  own o ho := by
    refine ⟨o.requeued, ?_, .inr (.inl ⟨rfl, rfl⟩)⟩
    rw [orderOf_backToQueued, ho]
    simp

/-! ## The orders of a removed truck (R15) -/

/-- The order is OFFERED to ON_SITE with truck `n` (R15). -/
def Order.isWith (n : Nat) (o : Order) : Prop := o.assigned = some n ∧ (o.state = .offered ∨ o.state.isTaken = true)

theorem orderLosesTruck_none {a : State} {n m : Nat} (ho : orderOf a m = none) : orderLosesTruck n a m = a := by
  simp only [orderLosesTruck, ho]

theorem orderLosesTruck_other {a : State} {n m : Nat} {o : Order} (ho : orderOf a m = some o) (h : ¬o.isWith n) :
    orderLosesTruck n a m = a := by
  simp only [orderLosesTruck, ho]
  exact if_neg h

theorem orderLosesTruck_with {a : State} {n m : Nat} {o : Order} (ho : orderOf a m = some o) (h : o.isWith n) :
    orderLosesTruck n a m = rollover (backToQueued a m) m := by
  simp only [orderLosesTruck, ho]
  exact if_pos h

/-- An order that loses its truck is QUEUED again or OFFERED to another of the table. -/
theorem orderOf_orderLosesTruck {a : State} {n m : Nat} {o : Order} (ho : orderOf a m = some o) (h : o.isWith n)
    (hn : truckOf a n = none) : ∃ o', orderOf (orderLosesTruck n a m) m = some o' ∧ o'.assigned ≠ some n ∧
      (o'.state = .queued ∨ o'.state = .offered) := by
  have hback : orderOf (backToQueued a m) m = some o.requeued := by
    rw [orderOf_backToQueued, ho]
    simp
  have hgone := (backToQueued_offerMove a m).gone n hn
  obtain ⟨o', ho', hcase⟩ := (rollover_offerMove (backToQueued a m) m).own _ hback
  rw [orderLosesTruck_with ho h]
  refine ⟨o', ho', ?_⟩
  rcases hcase with rfl | ⟨hqueued, hassigned⟩ | ⟨hoffered, t, ht, hin⟩
  · exact ⟨by simp [Order.requeued], .inl rfl⟩
  · exact ⟨by simp [hassigned], .inl hqueued⟩
  · refine ⟨fun h => ?_, .inr hoffered⟩
    obtain rfl : t = n := by rw [ht] at h; exact Option.some.inj h
    simp [hgone] at hin

theorem orderLosesTruck_offerMove (n : Nat) (a : State) (m : Nat) : OfferMove m a (orderLosesTruck n a m) := by
  unfold orderLosesTruck
  split
  · split
    · exact (backToQueued_offerMove a m).trans (rollover_offerMove _ m)
    · exact .refl m a
  · exact .refl m a

/-- The orders of the slots taken one after another: the trucks (R15). -/
theorem trucks_ordersLoseTruck (n : Nat) (l : List Nat) (a : State) :
    (∀ k, truckOf a k = none → truckOf (l.foldl (orderLosesTruck n) a) k = none) ∧
    ∀ k x, truckOf a k = some x → ∃ b, truckOf (l.foldl (orderLosesTruck n) a) k = some b ∧
      b = { x with orderSlots := b.orderSlots, queue := b.queue, seqCtr := b.seqCtr } := by
  induction l generalizing a with
  | nil => exact ⟨fun _ h => h, fun _ x h => ⟨x, h, rfl⟩⟩
  | cons m l ih =>
    have hone := orderLosesTruck_offerMove n a m
    obtain ⟨hnone, htruck⟩ := ih (orderLosesTruck n a m)
    refine ⟨fun k hk => hnone k (hone.gone k hk), fun k x hx => ?_⟩
    obtain ⟨y, hy, hxy⟩ := hone.truck k x hx
    obtain ⟨b, hb, hyb⟩ := htruck k y hy
    refine ⟨b, hb, ?_⟩
    rw [hxy] at hyb
    exact hyb

/-- The orders of the slots taken one after another: each that was with the truck is with it no more, every other is left
(R15). -/
theorem orders_ordersLoseTruck {n : Nat} (l : List Nat) {a : State} (hn : truckOf a n = none) {m : Nat} {o : Order}
    (ho : orderOf a m = some o) :
    (m ∈ l ∧ o.isWith n → ∃ o', orderOf (l.foldl (orderLosesTruck n) a) m = some o' ∧ o'.assigned ≠ some n ∧
      (o'.state = .queued ∨ o'.state = .offered)) ∧
    (¬(m ∈ l ∧ o.isWith n) → orderOf (l.foldl (orderLosesTruck n) a) m = some o) := by
  induction l generalizing a o with
  | nil => exact ⟨fun h => absurd h.1 List.not_mem_nil, fun _ => ho⟩
  | cons j l ih =>
    have hone := orderLosesTruck_offerMove n a j
    have hn' := hone.gone n hn
    by_cases hj : m = j
    · subst hj
      by_cases hwith : o.isWith n
      · obtain ⟨o', ho', hassigned, hstate⟩ := orderOf_orderLosesTruck ho hwith hn
        have hrest := (ih hn' ho').2 fun h => hassigned h.2.1
        exact ⟨fun _ => ⟨o', hrest, hassigned, hstate⟩, fun h => absurd ⟨List.mem_cons_self, hwith⟩ h⟩
      · rw [List.foldl_cons, orderLosesTruck_other ho hwith]
        exact ⟨fun h => absurd h.2 hwith, fun _ => (ih hn ho).2 fun h => hwith h.2⟩
    · have hm : m ∈ j :: l ↔ m ∈ l := by simp [hj]
      rw [hm]
      exact ih hn' ((hone.others m hj).trans ho)

/-! ## REMOVE_TRUCK (R14 to R16) -/

/-- The state with truck `n` gone: its record erased, its turn abandoned and its cycle entries taken out (R15). -/
def truckRemoved (s : State) (n : Nat) : State := truckGone { s with trucks := eraseBy Truck.num n s.trucks } n

theorem truckOf_truckRemoved (s : State) (n m : Nat) :
    truckOf (truckRemoved s n) m = if m = n then none else truckOf s m := findBy_eraseBy n m s.trucks

theorem truckRemoved_eq (s : State) (n : Nat) : truckRemoved s n = { s with
    trucks := (truckRemoved s n).trucks
    air := { s.air with
      list := s.air.list.map fun e => if e.truck = n then { e with live := false } else e
      turn := s.air.turn.map fun x => if x.truck = n then { x with abandoned := true } else x } } := rfl

theorem truckRemoved_turn (s : State) (n : Nat) : (truckRemoved s n).air.turn =
    s.air.turn.map fun x => if x.truck = n then { x with abandoned := true } else x := rfl

theorem truckRemoved_list (s : State) (n : Nat) : (truckRemoved s n).air.list =
    s.air.list.map fun e => if e.truck = n then { e with live := false } else e := rfl

/-- What a removal leaves as it was. -/
theorem removed_frame {s a u : State} {n : Nat} (ha : Keeps [.sup, .port] s a) (hsup : a.sup = (armWindow s).sup)
    (hu : Keeps [.trucks, .orders, .port, .askArb] (truckRemoved a n) u) :
    u = { s with
      port := u.port, sup := (armWindow s).sup, trucks := u.trucks, orders := u.orders
      air := { s.air with turn := u.air.turn, list := u.air.list }, askArb := u.askArb } := by
  have hair : u.air = (truckRemoved a n).air := hu .air (by decide)
  have hsair : a.air = s.air := ha .air (by decide)
  have hframe {f : Field} (h : f ∉ [.trucks, .orders, .port, .askArb, .sup, .air]) : f.same s u := by
    have hgone : Keeps [.trucks, .air] a (truckRemoved a n) := ((trucks_keeps a _).to).trans ((air_keeps _ _).to)
    have hall : Keeps [.trucks, .orders, .port, .askArb, .sup, .air] s u := (ha.to).trans ((hgone.to).trans hu.to)
    exact hall f h
  have hlast : u.sup = (armWindow s).sup := (hu .sup (by decide)).trans hsup
  have hfields : u.air = { s.air with turn := u.air.turn, list := u.air.list } := by
    rw [hair, ← hsair]
    rfl
  obtain ⟨⟩ := u
  simp only [State.mk.injEq, true_and]
  exact ⟨hframe (f := .clock) (by decide), hframe (f := .held) (by decide), hlast, hframe (f := .permits) (by decide),
    hframe (f := .points) (by decide), hframe (f := .asks) (by decide), hframe (f := .timeouts) (by decide), hfields,
    hframe (f := .sites) (by decide), hframe (f := .policy) (by decide), hframe (f := .graces) (by decide),
    hframe (f := .load) (by decide), hframe (f := .choices) (by decide), hframe (f := .pending) (by decide)⟩

section
variable {s : State} (h : Ready s) (tag : Nat) {n : Nat}
include h

theorem removeTruck_refuses_notFound (hk : truckOf s n = none) : Refuses (.removeTruck tag n) s .notFound :=
  refuses_of_refuse h rfl rfl fun u hu => by simp only [removeTruck, truckOf_of_keeps hu, hk]

variable {t : Truck} (hk : truckOf s n = some t)
include hk

theorem removeTruck_refuses_permit (hslots : t.permitSlots ≠ []) : Refuses (.removeTruck tag n) s .inUse :=
  refuses_of_refuse h rfl rfl fun u hu => by
    simp only [removeTruck, truckOf_of_keeps hu, hk]
    exact if_pos hslots

theorem removeTruck_refuses_alarm (hslots : ¬t.permitSlots ≠ []) (halarm : t.w1.state = .alarm ∨ t.w2.state = .alarm) :
    Refuses (.removeTruck tag n) s .inUse :=
  refuses_of_refuse h rfl rfl fun u hu => by
    simp only [removeTruck, truckOf_of_keeps hu, hk]
    exact (if_neg hslots).trans (if_pos ((t.hasContext_iff _).mpr halarm))

theorem exec_removeTruck (hslots : ¬t.permitSlots ≠ []) (halarm : ¬(t.w1.state = .alarm ∨ t.w2.state = .alarm)) :
    exec (.removeTruck tag n) s = .next (settleEvent
      (t.orderSlots.foldl (orderLosesTruck n) (truckRemoved (answered s 0x02 tag .ok .none) n))) := by
  obtain rfl : t.num = n := (findBy_some hk).1
  refine request_carried (f := removeTruck t.num)
    (g := fun u => t.orderSlots.foldl (orderLosesTruck t.num) (truckRemoved u t.num)) h fun u hu => ?_
  simp only [removeTruck, truckOf_of_keeps hu, hk]
  exact (if_neg hslots).trans (if_neg (mt (t.hasContext_iff _).mp halarm))

end

/-- The effects on one order, as the rules state them. -/
theorem orderLosesTruck_cases (a : State) (n m : Nat) :
    match orderOf a m with
    | none => orderLosesTruck n a m = a
    | some o =>
      if o.assigned = some n ∧ (o.state = .offered ∨ o.state = .accepted ∨ o.state = .enRoute ∨ o.state = .onSite) then
        ∃ w, orderLosesTruck n a m = rollover w m ∧
          orderOf w m = some { o with
            state := .queued, assigned := none, offerTime := if o.state = .offered then none else o.offerTime
            offerExpiry := none } ∧
          (∀ k, k ≠ m → orderOf w k = orderOf a k) ∧
          w = { posted a [.orderState m .queued none] with orders := w.orders }
      else orderLosesTruck n a m = a := by
  cases ho : orderOf a m with
  | none => exact orderLosesTruck_none ho
  | some o =>
    dsimp only
    by_cases hcond : o.assigned = some n ∧ (o.state = .offered ∨ o.state = .accepted ∨ o.state = .enRoute ∨ o.state = .onSite)
    · have hwith : o.isWith n := by rwa [Order.isWith, OrderState.isTaken_iff]
      rw [if_pos hcond]
      refine ⟨backToQueued a m, orderLosesTruck_with ho hwith, ?_, (backToQueued_offerMove a m).others, ?_⟩
      · rw [orderOf_backToQueued, ho]
        simp [Order.requeued]
      · rw [backToQueued_eq ho]
        rfl
    · rw [if_neg hcond]
      exact orderLosesTruck_other ho (by rwa [Order.isWith, OrderState.isTaken_iff])

/-- Settles O12: the refusals, the record gone with its turn and entries, and its orders rolled over in slot order. -/
theorem removeTruckFreesRecord : Obligations.RemoveTruckFreesRecord := by
  unfold Obligations.RemoveTruckFreesRecord
  refine ⟨fun s tag n h => ?_, orderLosesTruck_cases⟩
  cases hk : truckOf s n with
  | none => exact removeTruck_refuses_notFound h tag hk
  | some t =>
    dsimp only
    by_cases hslots : t.permitSlots ≠ []
    · rw [if_pos hslots]
      exact removeTruck_refuses_permit h tag hk hslots
    rw [if_neg hslots]
    by_cases halarm : t.w1.state = .alarm ∨ t.w2.state = .alarm
    · rw [if_pos halarm]
      exact removeTruck_refuses_alarm h tag hk hslots halarm
    rw [if_neg halarm]
    have ha := answered_keeps s 0x02 tag .ok .none
    have hair : (answered s 0x02 tag .ok .none).air = s.air := ha .air (by decide)
    have hsup := answered_sup s 0x02 tag .ok .none
    have htruck (m : Nat) : truckOf (truckRemoved (answered s 0x02 tag .ok .none) n) m =
        if m = n then none else truckOf s m := by rw [truckOf_truckRemoved, truckOf_of_keeps ha]
    have horder (m : Nat) : orderOf (truckRemoved (answered s 0x02 tag .ok .none) n) m = orderOf s m :=
      orderOf_of_keeps ha m
    have hgone := (htruck n).trans (if_pos rfl)
    have hfold : Keeps [.trucks, .orders, .port, .askArb] (truckRemoved (answered s 0x02 tag .ok .none) n)
        (t.orderSlots.foldl (orderLosesTruck n) (truckRemoved (answered s 0x02 tag .ok .none) n)) :=
      Keeps.foldl (fun u m => orderLosesTruck_keeps u n m) _ _
    obtain ⟨hnone, htrucks⟩ := trucks_ordersLoseTruck n t.orderSlots (truckRemoved (answered s 0x02 tag .ok .none) n)
    have hfoldair := hfold .air (by decide)
    refine ⟨_, _, exec_removeTruck h tag hk hslots halarm, rfl, htruck, ?_, ?_, hnone n hgone, fun k a hkn hka => ?_,
      fun m o ho => ?_, fun x hx => ?_, fun hx => ?_, ?_, ?_⟩
    · rw [← hair]
      exact truckRemoved_eq _ n
    · have hpath : Path (fun _ => False) (truckRemoved (answered s 0x02 tag .ok .none) n)
          (t.orderSlots.foldl (orderLosesTruck n) (truckRemoved (answered s 0x02 tag .ok .none) n)) :=
        Path.foldl (fun u m => orderLosesTruck_path n u m) _ _
      exact (hpath.buffer id).trans (answered_buffer s 0x02 tag .ok .none)
    · exact htrucks k a (by rw [htruck, if_neg hkn, hka])
    · obtain ⟨hwith, hother⟩ := orders_ordersLoseTruck t.orderSlots hgone ((horder m).trans ho)
      split_ifs with hcond
      · exact hwith hcond
      · exact hother hcond
    · rw [hfoldair, truckRemoved_turn, hair, hx]
      by_cases hxn : x.truck = n
      · simp [hxn]
      · have hne : (x.truck == n) = false := beq_eq_false_iff_ne.mpr hxn
        rw [Option.map_some, if_neg hxn, hne, Bool.or_false]
    · rw [hfoldair, truckRemoved_turn, hair, hx]
      rfl
    · rw [hfoldair, truckRemoved_list, hair]
    · exact removed_frame ha hsup hfold

end Sys2Proof.Machine

/-!
PROOFS. Every served request gets exactly one reply, and a refused one changes nothing else (spec/11_the_console_link.md
section 11.2).
-/
namespace Sys2Proof.Machine

-- The proofs are taken one after another: side by side they wait for each other in more threads than the check can hold.
set_option Elab.async false

/-- A request on a live part that cannot serve it: the window armed, and LINK_FAULT where four requests are buffered. -/
theorem request_unserved {s : State} (hheld : s.held = false) (k tag : Nat) (f : State → Served) :
    (s.port.restart ≠ .running → request k tag f s = .next (armWindow s)) ∧
    (s.port.restart = .running → 4 ≤ s.port.buffer.length →
      request k tag f s = .next { armWindow s with
        port := { s.port with sticky := { s.port.sticky with linkFault := true } } }) := by
  have hlive : request k tag f s = .next (serve k tag f s) := if_neg (by simp [hheld])
  refine ⟨fun hrun => hlive.trans (congrArg _ (if_pos hrun)), fun hrun hfull => hlive.trans (congrArg _ ?_)⟩
  exact (if_neg (not_not.mpr hrun)).trans (if_pos hfull)

/-- A request that is served: its owner's answer at the tail of the buffer, and nothing but that where it is refused. -/
theorem request_replied {c : Instr} {k tag : Nat} {f : State → Served} {s : State} (hf : WalkedBy c k tag f) (h : Ready s) :
    ∃ t e, exec c s = .next t ∧ t.port.buffer = s.port.buffer ++ [e] ∧ e.kind = k ∧ e.tag = tag ∧
      (e.code ≠ .ok → e.code ≠ .clamped → e.body = .none ∧ t = answered s k tag e.code .none) := by
  obtain ⟨hexec, hwalks, hsteady⟩ := hf
  obtain ⟨hheld, hquiet, hrun, hroom⟩ := h
  have hserved := request_served k tag f hheld hrun hroom
  have hbuffer : (settleEvent (f (attach (armWindow s) k tag (f (armWindow s)).2)).1).port.buffer =
      s.port.buffer ++ [{ kind := k, tag := tag, code := (f (armWindow s)).2.code, body := (f (armWindow s)).2.body }] :=
    (Path.buffer (A := fun x => x = .turn) (by simp) (settleEvent_path _ rfl)).trans
      (((hwalks _).buffer id).trans (attach_buffer _ k tag _))
  refine ⟨_, _, (hexec s).trans hserved, hbuffer, rfl, rfl, fun hok hclamped => ?_⟩
  have hport := eq_of_keeps_port (attach_keeps (armWindow s) k tag (f (armWindow s)).2)
  rcases hsteady (armWindow s) (attach (armWindow s) k tag (f (armWindow s)).2).port with haccepted | ⟨c, hbefore, hbehind⟩
  · exact absurd haccepted (not_or.mpr ⟨hok, hclamped⟩)
  · rw [← hport] at hbehind
    have hanswer : (f (armWindow s)).2 = { code := c, body := .none } := congrArg Prod.snd hbefore
    rw [hanswer] at hbehind ⊢
    refine ⟨rfl, ?_⟩
    rw [hbehind]
    exact settleEvent_of_quiet ((answered_askArb s k tag c .none).trans hquiet)

/-- Settles O7: the reply at the tail of the buffer, what a refusal leaves, and the frames that are not served. -/
theorem servedRequestGetsOneReply : Obligations.ServedRequestGetsOneReply := by
  unfold Obligations.ServedRequestGetsOneReply
  refine ⟨fun c k tag s hc h => ?_, fun c k tag s hc hheld => ?_⟩
  · obtain ⟨f, hf⟩ := exists_walkedBy hc
    exact request_replied hf h
  · obtain ⟨f, hexec, -⟩ := exists_walkedBy hc
    rw [hexec]
    exact request_unserved hheld k tag f

end Sys2Proof.Machine

/-!
PROOFS. The watch contexts (spec/03_lone_worker_watch.md): what the Watch Unit's operations do to one context, to its truck's
queue and to the notices, said once as rules on a state that differs from another in that context alone.
-/
namespace Sys2Proof.Machine

-- The proofs are taken one after another: side by side they wait for each other in more threads than the check can hold.
set_option Elab.async false

theorem eq_of_keeps_trucks {s v : State} (h : Keeps [.trucks] s v) : v = { s with trucks := v.trucks } := by
  have hask : v.askArb = s.askArb := h .askArb (by decide)
  exact (eq_of_keeps_trucksArb h.to).trans (by rw [hask])

/-! ## Deadlines (R45, R46) -/

/-- The interval or the task duration a deadline is computed from (R45). -/
def Watch.span (w : Watch) : Nat := if w.set.timer = .task then w.set.task else w.set.interval

/-- The deadline computed at `now` (R45). -/
def Watch.due (grace allowance now : Nat) (w : Watch) : Nat :=
  now + w.span + min (grace + allowance) (w.span / 2)

theorem Watch.compute_still {w : Watch} (h : w.set.timer = .stillness) (g a now : Nat) :
    Watch.compute g a now w = { w with grace := 0, allowance := 0, deadline := none, warnTime := none } := by
  unfold Watch.compute
  rw [h]
  rfl

theorem Watch.compute_due {w : Watch} (h : w.set.timer ≠ .stillness) (g a now : Nat) :
    Watch.compute g a now w = { w with
      grace := g, allowance := a, deadline := some (w.due g a now)
      warnTime := some ((w.due g a now : Int) - (w.set.lead : Int)) } := by
  unfold Watch.compute Watch.withDeadline Settings.warnLead Watch.due Watch.span
  cases htimer : w.set.timer with
  | stillness => exact absurd htimer h
  | interval => simp only [reduceCtorEq, if_false]
  | task => simp only [if_true]

theorem truckGrace_of_keeps {l : List Field} {s u : State} (h : Keeps l s u) (t : Truck)
    (hl : .graces ∉ l := by decide) : truckGrace u t = truckGrace s t := by
  have hgraces : u.graces = s.graces := h .graces hl
  unfold truckGrace graceOf
  rw [hgraces]

theorem bandEntryInForce_of_keeps {l : List Field} {s u : State} (h : Keeps l s u) (hl : .load ∉ l := by decide) :
    bandEntryInForce u = bandEntryInForce s := by
  have hload : u.load = s.load := h .load hl
  unfold bandEntryInForce
  rw [hload]

section
variable {l : List Field} {s u : State} (h : Keeps l s u) (hl : .clock ∉ l := by decide)
include h

theorem now_of_keeps (hl : .clock ∉ l := by decide) : u.now = s.now := congrArg Clock.sec (h .clock hl)

theorem stamp_of_keeps (hl : .clock ∉ l := by decide) : stamp u = stamp s := by
  have hclock : u.clock = s.clock := h .clock hl
  funext x
  simp only [stamp, hclock]

theorem stampOpt_of_keeps (hl : .clock ∉ l := by decide) : stampOpt u = stampOpt s := by
  funext x
  simp only [stampOpt, stamp_of_keeps h hl]

theorem stampInt_of_keeps (hl : .clock ∉ l := by decide) : stampInt u = stampInt s := by
  have hclock : u.clock = s.clock := h .clock hl
  funext x
  simp only [stampInt, hclock]

end

/-! ## A truck with one context and its queue -/

/-- The truck with a context of its own and a queue. -/
def Truck.seated (t : Truck) (seat : Nat) (q : List Rec) (w : Watch) : Truck := ({ t with queue := q }).withWatch seat w

section
variable (t : Truck) (seat : Nat) (q : List Rec) (w w' : Watch)

theorem Truck.withWatch_self : t.withWatch seat (t.watch seat) = t := by
  unfold Truck.withWatch Truck.watch
  split_ifs <;> rfl

theorem Truck.seated_self : t.seated seat t.queue (t.watch seat) = t := t.withWatch_self seat

theorem Truck.seated_watch : (t.seated seat q w).watch seat = w := Truck.withWatch_watch _ seat w

theorem Truck.seated_queue : (t.seated seat q w).queue = q := Truck.withWatch_queue _ seat w

theorem Truck.seated_zone : (t.seated seat q w).zone = t.zone := Truck.withWatch_zone _ seat w

theorem Truck.seated_withWatch : (t.seated seat q w).withWatch seat w' = t.seated seat q w' :=
  Truck.withWatch_withWatch _ seat w w'

theorem Truck.seated_withQueue (q' : List Rec) : { t.seated seat q w with queue := q' } = t.seated seat q' w := by
  unfold Truck.seated Truck.withWatch
  split_ifs <;> rfl

/-- A seated truck as the rules state it: the truck with its queue and the context. -/
theorem Truck.seated_eq : t.seated seat q w = ({ t with queue := (t.seated seat q w).queue }).withWatch seat w := by
  rw [Truck.seated_queue]
  rfl

end

/-- A queue without the PROMPT of a kind for a seat (R53). -/
def withoutPrompt (q : List Rec) (seat : Nat) (k : PromptKind) : List Rec :=
  if (recFor q (.prompt seat)).any (fun r => decide (r.content.summary = .prompt k)) = true then
    without q (.prompt seat)
  else q

/-- The PROMPT of that kind is gone, one of the other kind stands, and so does every other record. -/
theorem withoutPrompt_gone (q : List Rec) (seat : Nat) (k : PromptKind) :
    recFor (withoutPrompt q seat k) (.prompt seat) =
      (match recFor q (.prompt seat) with
       | some r => if r.content.summary = .prompt k then none else some r
       | none => none) ∧
    ∀ x, x ≠ .prompt seat → recFor (withoutPrompt q seat k) x = recFor q x := by
  unfold withoutPrompt
  cases hr : recFor q (.prompt seat) with
  | none => exact ⟨hr, fun _ _ => rfl⟩
  | some r =>
    by_cases hk : r.content.summary = .prompt k
    · rw [if_pos (by simpa using hk)]
      dsimp only
      rw [if_pos hk]
      exact ⟨by rw [recFor_without, if_pos rfl], fun x hx => by rw [recFor_without, if_neg hx]⟩
    · rw [if_neg (by simpa using hk)]
      dsimp only
      rw [if_neg hk]
      exact ⟨hr, fun _ _ => rfl⟩

/-- A PROMPT removed leaves nothing to remove. -/
theorem withoutPrompt_twice (q : List Rec) (seat : Nat) (k : PromptKind) :
    withoutPrompt (withoutPrompt q seat k) seat k = withoutPrompt q seat k := by
  have hnone : ∀ p : List Rec, ¬(recFor (without p (.prompt seat)) (.prompt seat)).any
      (fun r => decide (r.content.summary = .prompt k)) = true := fun p => by simp [recFor_without]
  unfold withoutPrompt
  by_cases h : (recFor q (.prompt seat)).any (fun r => decide (r.content.summary = .prompt k)) = true
  · rw [if_pos h, if_neg (hnone q)]
  · rw [if_neg h, if_neg h]

/-! ## A state that differs in one context -/

/-- `u` is `s` with the notices `l` posted and truck `n`, which is `t` in `s`, given a context of seat `seat` and a queue. -/
structure SeatState (s : State) (n seat : Nat) (t : Truck) (u : State) (q : List Rec) (w : Watch)
    (l : List NoticeBody) : Prop where
  truck : truckOf u n = some (t.seated seat q w)
  others : ∀ m, m ≠ n → truckOf u m = truckOf s m
  keeps : Keeps [.trucks] (posted s l) u

theorem posted_append (s : State) (l : List NoticeBody) (b : NoticeBody) : posted s (l ++ [b]) = post (posted s l) b := by
  simp [posted]

theorem posted_keeps (s : State) (l : List NoticeBody) : Keeps [.port] s (posted s l) := Keeps.foldl post_keeps l s

section
variable {s : State} {n seat : Nat} {t : Truck} {u : State} {q : List Rec} {w : Watch} {l : List NoticeBody}

theorem SeatState.start (hk : truckOf s n = some t) (seat : Nat) :
    SeatState s n seat t s t.queue (t.watch seat) [] where
  truck := by rw [hk, t.seated_self]
  others _ _ := rfl
  keeps := .refl _ s

variable (h : SeatState s n seat t u q w l)
include h

theorem SeatState.all : Keeps [.trucks, .port] s u := ((posted_keeps s l).to).trans h.keeps.to

theorem SeatState.eq : u = { posted s l with trucks := u.trucks } := eq_of_keeps_trucks h.keeps

theorem SeatState.watch : watchOf u n seat = some w := by
  simp only [watchOf, h.truck, Option.map_some, Truck.seated_watch]

theorem SeatState.mod (f : Watch → Watch) : SeatState s n seat t (modWatch u n seat f) q (f w) l where
  truck := by
    rw [truckOf_modWatch, h.truck]
    simp only [Option.map_some, if_true, Truck.seated_watch, Truck.seated_withWatch]
  others m hm := by
    rw [truckOf_modWatch, h.others m hm]
    simp [hm]
  keeps := h.keeps.trans (modWatch_keeps u n seat f)

theorem SeatState.post (b : NoticeBody) : SeatState s n seat t (post u b) q w (l ++ [b]) where
  truck := by rw [truckOf_of_keeps (post_keeps u b), h.truck]
  others m hm := by rw [truckOf_of_keeps (post_keeps u b), h.others m hm]
  keeps := by
    rw [posted_append]
    exact h.keeps.post b

theorem SeatState.postWatchState (why : WatchReason) : SeatState s n seat t (postWatchState u n seat why) q w
    (l ++ [.watchState n seat w.state why (stampOpt s w.deadline) w.startedBy]) := by
  have hposted : Machine.postWatchState u n seat why =
      Machine.post u (.watchState n seat w.state why (stampOpt u w.deadline) w.startedBy) := by
    simp only [Machine.postWatchState, h.watch]
  rw [hposted, stampOpt_of_keeps h.all]
  exact h.post _

theorem SeatState.compute : SeatState s n seat t (computeWatch u n seat) q
    (Watch.compute (truckGrace s t) (bandEntryInForce s).allowance s.now w) l := by
  have hcompute : computeWatch u n seat =
      modWatch u n seat (Watch.compute (truckGrace s t) (bandEntryInForce s).allowance s.now) := by
    simp only [computeWatch, h.truck]
    rw [truckGrace_of_zone (t.seated_zone seat q w), truckGrace_of_keeps h.all, bandEntryInForce_of_keeps h.all,
      now_of_keeps h.all]
  rw [hcompute]
  exact h.mod _

theorem SeatState.removePrompt (k : PromptKind) :
    SeatState s n seat t (removePrompt u n seat k) (withoutPrompt q seat k) w l := by
  have hrec : recOf u n (.prompt seat) = recFor q (.prompt seat) := by simp [recOf, h.truck, Truck.seated_queue]
  have hdrop : SeatState s n seat t (dropRec u n (.prompt seat)) (without q (.prompt seat)) w l := by
    refine ⟨?_, fun m hm => ?_, h.keeps.trans (dropRec_keeps u n _)⟩
    · rw [truckOf_dropRec, h.truck]
      simp only [Option.map_some, if_true]
      rw [Truck.seated_queue, Truck.seated_withQueue]
      rfl
    · rw [truckOf_dropRec, h.others m hm]
      simp [hm]
  unfold Machine.removePrompt withoutPrompt
  rw [hrec]
  cases recFor q (.prompt seat) with
  | none => exact h
  | some r =>
    by_cases hk : r.content.summary = .prompt k
    · simp only [hk, Option.any_some, decide_true, if_true]
      exact hdrop
    · simp only [hk, Option.any_some, decide_false, if_false, Bool.false_eq_true]
      exact h

end

/-- A warning that is reached at once, and one that is not (R46). -/
theorem warnAtOnce_of_watch {u : State} {n seat : Nat} {w : Watch} (hw : watchOf u n seat = some w) :
    warnAtOnce u n seat =
      if w.state = .watch ∧ (w.warnTime.any fun x => decide (x ≤ (u.now : Int))) = true then enterWarn u n seat else u := by
  simp only [warnAtOnce, hw, Watch.warnReached, Bool.and_eq_true, beq_iff_eq]
  cases w.warnTime <;> simp

theorem watchOf_truck {s : State} {n : Nat} {t : Truck} (hk : truckOf s n = some t) (seat : Nat) :
    watchOf s n seat = some (t.watch seat) := by
  simp only [watchOf, hk, Option.map_some]

theorem watchOf_of_missing {s : State} {n : Nat} (hk : truckOf s n = none) (seat : Nat) : watchOf s n seat = none := by
  simp only [watchOf, hk, Option.map_none]

end Sys2Proof.Machine

/-!
PROOFS. A warning entered, and a context started (R43, R45, R46, R52): SET_WATCH, QUERY_WATCH and START_WATCH, and an order's
profile handed over.
-/
namespace Sys2Proof.Machine

-- The proofs are taken one after another: side by side they wait for each other in more threads than the check can hold.
set_option Elab.async false

/-! ## SET_WATCH and QUERY_WATCH -/

theorem seatCode_eq (seat : Nat) : seatCode seat = if clamp 1 2 seat = seat then .ok else .clamped := by
  exact okOr_eq (by rw [bne_eq_false_iff_eq]; rfl)

theorem Watch.give_eq (w : Watch) (set : Settings) :
    w.give set = if w.state = .idle then { w with set := set } else { w with staged := some set } := rfl

theorem watchReport_of_keeps {l : List Field} {s u : State} (h : Keeps l s u) (seat : Nat) (w : Watch)
    (hl : .clock ∉ l := by decide) : watchReport u seat w = watchReport s seat w := by
  have hstamp := stampOpt_of_keeps h hl
  have hint := stampInt_of_keeps h hl
  have hone := stamp_of_keeps h hl
  have hnow := now_of_keeps h hl
  simp only [watchReport, hstamp, hint, hone, hnow]

section
variable {s : State} (h : Ready s) (tag n seat : Nat) {t : Truck} (hk : truckOf s n = some t)
include h

theorem setWatch_badField {x : SettingsIn} (hx : settingsOf x = none) :
    Refuses (.setWatch tag n seat x) s .badField :=
  refuses_of_refuse h rfl rfl fun u hu => by simp only [setWatch, hx]

theorem setWatch_notFound {x : SettingsIn} {a : Settings} (hx : settingsOf x = some a) (hn : truckOf s n = none) :
    Refuses (.setWatch tag n seat x) s .notFound :=
  refuses_of_refuse h rfl rfl fun u hu => by
    simp only [setWatch, hx, watchOf_of_missing ((truckOf_of_keeps hu n).trans hn)]

include hk

theorem exec_setWatch {x : SettingsIn} {a : Settings} (hx : settingsOf x = some a) :
    exec (.setWatch tag n seat x) s = .next (modWatch (answered s 0x0B tag
      (okOr (seatOf seat != seat || settingsClamped x)) (.setWatch ((t.watch (seatOf seat)).state != .idle))) n
      (seatOf seat) fun w => w.give a) :=
  request_carried_quiet (f := setWatch n seat x) (g := fun u => modWatch u n (seatOf seat) fun w => w.give a) h
    (fun u hu => by simp only [setWatch, hx, watchOf_truck ((truckOf_of_keeps hu n).trans hk)])
    fun u => modWatch_keeps u n _ _ .askArb (by decide)

theorem exec_queryWatch :
    exec (.queryWatch tag n seat) s = .next (modWatch (answered s 0x0F tag (seatCode seat)
      (.watch (watchReport s (seatOf seat) (t.watch (seatOf seat))))) n (seatOf seat)
      fun w => { w with flags := EventFlags.none }) :=
  request_carried_quiet (f := queryWatch n seat)
    (g := fun u => modWatch u n (seatOf seat) fun w => { w with flags := EventFlags.none }) h
    (fun u hu => by
      simp only [queryWatch, watchOf_truck ((truckOf_of_keeps hu n).trans hk), watchReport_of_keeps hu])
    fun u => modWatch_keeps u n _ _ .askArb (by decide)

end

/-- A context changed behind a reply: the truck, the others, and nothing else. -/
theorem modWatch_answered {s : State} {n : Nat} {t : Truck} (hk : truckOf s n = some t) (k tag : Nat) (c : Result)
    (b : ReplyBody) (seat : Nat) (f : Watch → Watch) :
    truckOf (modWatch (answered s k tag c b) n seat f) n = some (t.withWatch seat (f (t.watch seat))) ∧
    (∀ m, m ≠ n → truckOf (modWatch (answered s k tag c b) n seat f) m = truckOf s m) ∧
    modWatch (answered s k tag c b) n seat f =
      { answered s k tag c b with trucks := (modWatch (answered s k tag c b) n seat f).trucks } := by
  have hkeeps := answered_keeps s k tag c b
  have hseat := (SeatState.start ((truckOf_of_keeps hkeeps n).trans hk) seat).mod f
  exact ⟨hseat.truck, fun m hm => (hseat.others m hm).trans (truckOf_of_keeps hkeeps m), hseat.eq⟩

/-- Settles O23: SET_WATCH gives the context its set, and QUERY_WATCH takes its flags, behind their replies. -/
theorem setAndQueryWatch : Obligations.SetAndQueryWatch := by
  unfold Obligations.SetAndQueryWatch
  intro s tag n seat h
  dsimp only
  refine ⟨fun x => ?_, ?_⟩
  · cases hx : settingsOf x with
    | none =>
      rw [if_pos ((settingsOf_isNone x).mp hx)]
      exact setWatch_badField h tag n seat hx
    | some a =>
      rw [if_neg fun hbad => by simp [(settingsOf_isNone x).mpr hbad] at hx]
      cases hk : truckOf s n with
      | none => exact setWatch_notFound h tag n seat hx hk
      | some t =>
        obtain ⟨htruck, hothers, heq⟩ := modWatch_answered hk 0x0B tag
          (okOr (seatOf seat != seat || settingsClamped x)) (.setWatch ((t.watch (seatOf seat)).state != .idle))
          (seatOf seat) fun w => w.give a
        obtain ⟨htimer, halarm, hinterval, hlead, htask, hstill⟩ := settingsOf_some hx
        refine ⟨a, _, _, exec_setWatch h tag n seat hk hx, hinterval, htask, hstill, by rw [hlead, hinterval]; rfl, htimer,
          halarm, okOr_cases _, ?_, htruck, hothers, heq⟩
        rw [okOr_eq_ok, Bool.or_eq_false_iff, settingsClamped_iff hx, bne_eq_false_iff_eq]
        exact Iff.rfl
  · cases hk : truckOf s n with
    | none =>
      exact refuses_of_refuse h rfl rfl fun u hu => by
        simp only [queryWatch, watchOf_of_missing ((truckOf_of_keeps hu n).trans hk)]
    | some t =>
      obtain ⟨htruck, hothers, heq⟩ := modWatch_answered hk 0x0F tag (seatCode seat)
        (.watch (watchReport s (seatOf seat) (t.watch (seatOf seat)))) (seatOf seat)
        fun w => { w with flags := EventFlags.none }
      refine ⟨_, exec_queryWatch h tag n seat hk, htruck, hothers, heq.trans ?_⟩
      rw [seatCode_eq]
      rfl

/-! ## A PROMPT placed (R53) -/

/-- `t'` is `t` with the PROMPT in its queue, where the queue could take one (R53, R114). -/
def Prompted (t t' : Truck) (seat : Nat) (c : PromptContent) : Prop :=
  if t.canTake (.prompt seat) = true then
    ∃ r, recFor t'.queue (.prompt seat) = some r ∧ r.content = .prompt c ∧ r.attempts = 0 ∧ r.inFlight = false
  else t'.queue = t.queue

section
variable {s : State} {n seat : Nat} {t : Truck} {u : State} {q : List Rec} {w : Watch} {l : List NoticeBody}

theorem SeatState.canGive (h : SeatState s n seat t u q w l) (x : Subject) :
    canGive u n x = ({ t with queue := q } : Truck).canTake x := by
  simp only [Machine.canGive, h.truck, Truck.canTake, Truck.seated_queue]

/-- A PROMPT given to a truck whose context alone differs. -/
theorem SeatState.prompted (h : SeatState s n seat t u t.queue w l) {c : PromptContent} (hc : c.seat = seat) :
    ∃ t', truckOf (give u n (.prompt c)) n = some t' ∧
      t' = ({ t with queue := t'.queue, seqCtr := t'.seqCtr }).withWatch seat w ∧ Prompted t t' seat c := by
  have hsubject : (Content.prompt c).subject = .prompt seat := by rw [← hc]; rfl
  by_cases hroom : t.canTake (.prompt seat) = true
  · have hgive := truckOf_give (c := .prompt c) h.truck (by
      rw [hsubject, Truck.seated_queue]
      simpa [Truck.canTake] using hroom)
    obtain ⟨t', r, htruck, hframe, hrec, hcontent, hattempts, hflight, -⟩ := hgive
    refine ⟨t', htruck, hframe.trans ?_, ?_⟩
    · unfold Truck.seated Truck.withWatch
      split_ifs <;> rfl
    · rw [Prompted, if_pos hroom]
      exact ⟨r, hsubject ▸ hrec, hcontent, hattempts, hflight⟩
  · have hrefused : give u n (.prompt c) = u :=
      give_refused (by rw [hsubject, h.canGive]; exact Bool.eq_false_iff.mpr hroom)
    refine ⟨t.seated seat t.queue w, by rw [hrefused]; exact h.truck, ?_, ?_⟩
    · unfold Truck.seated Truck.withWatch
      split_ifs <;> rfl
    · rw [Prompted, if_neg hroom, Truck.seated_queue]

end

/-! ## Entry into WARN (R52) -/

/-- A context as the warning leaves it (R52). -/
def Watch.warned (w : Watch) : Watch :=
  { w with state := .warn, warnCount := min (w.warnCount + 1) 255, flags := { w.flags with warned := true } }

/-- The WARN notice (R64). -/
def warnNotice (s : State) (n seat : Nat) (t : Truck) : NoticeBody :=
  .warn n seat (t.watch seat).set.timer (stampOpt s (t.watch seat).deadline) (min ((t.watch seat).warnCount + 1) 255)
    (t.canTake (.prompt seat))

/-- What an entry into WARN does: the context, the PROMPT DUE in its truck's queue, and the notice (R52). -/
theorem enterWarn_spec {s : State} {n : Nat} {t : Truck} (hk : truckOf s n = some t) (seat : Nat) :
    ∃ t', truckOf (enterWarn s n seat) n = some t' ∧
      t' = ({ t with queue := t'.queue, seqCtr := t'.seqCtr }).withWatch seat (t.watch seat).warned ∧
      Prompted t t' seat { seat := seat, kind := .due, deadline := (t.watch seat).deadline, cause := none } ∧
      (∀ m, m ≠ n → truckOf (enterWarn s n seat) m = truckOf s m) ∧
      enterWarn s n seat = { posted s [warnNotice s n seat t] with
        trucks := (enterWarn s n seat).trucks, askArb := (enterWarn s n seat).askArb } := by
  let p : PromptContent := { seat := seat, kind := .due, deadline := (t.watch seat).deadline, cause := none }
  have hseat := (SeatState.start hk seat).mod fun w =>
    { w with state := .warn, warnCount := min ((t.watch seat).warnCount + 1) 255, flags := { w.flags with warned := true } }
  obtain ⟨t', htruck, hframe, hprompt⟩ := hseat.prompted (c := p) rfl
  have henter : enterWarn s n seat = post (give (modWatch s n seat fun w =>
      { w with state := .warn, warnCount := min ((t.watch seat).warnCount + 1) 255
               flags := { w.flags with warned := true } }) n (.prompt p)) (warnNotice s n seat t) := by
    simp only [enterWarn, watchOf_truck hk, hseat.canGive, warnNotice]
    rfl
  rw [henter]
  refine ⟨t', (truckOf_of_keeps (post_keeps _ _) n).trans htruck, hframe, hprompt, fun m hm => ?_, ?_⟩
  · rw [truckOf_of_keeps (post_keeps _ _), truckOf_give_ne _ _ hm, hseat.others m hm]
  · exact eq_of_keeps_trucksArb ((hseat.keeps.to.trans (give_keeps _ n (.prompt p))).post _)

theorem watchOf_enterWarn {s : State} {n : Nat} {t : Truck} (hk : truckOf s n = some t) (seat : Nat) :
    watchOf (enterWarn s n seat) n seat = some (t.watch seat).warned := by
  obtain ⟨t', htruck, hframe, -⟩ := enterWarn_spec hk seat
  rw [watchOf_truck htruck, hframe, Truck.withWatch_watch]

/-! ## A context started (R43) -/

theorem Watch.compute_startedBy (g a now : Nat) (w : Watch) : (w.compute g a now).startedBy = w.startedBy := by
  by_cases h : w.set.timer = .stillness
  · rw [Watch.compute_still h]
  · rw [Watch.compute_due h]

/-- The context a start leaves, but for a warning reached at once (R43, R45). -/
def Watch.begun (s : State) (t : Truck) (order : Option Nat) (w : Watch) : Watch :=
  Watch.compute (truckGrace s t) (bandEntryInForce s).allowance s.now
    { w.started s.now with warnCount := 0, startedBy := order }

theorem Watch.begun_of_keeps {l : List Field} {s u : State} (h : Keeps l s u) (t : Truck) (order : Option Nat) (w : Watch)
    (hclock : .clock ∉ l := by decide) (hgraces : .graces ∉ l := by decide) (hload : .load ∉ l := by decide) :
    Watch.begun u t order w = Watch.begun s t order w := by
  simp only [Watch.begun, truckGrace_of_keeps h t hgraces, bandEntryInForce_of_keeps h hload, now_of_keeps h hclock]

/-- A warning time that `now` has reached (R46). -/
def Watch.atOnce (now : Nat) (w : Watch) : Bool := w.warnTime.any fun x => decide (x ≤ (now : Int))

theorem SeatState.warnAtOnce_of_watch {s : State} {n seat : Nat} {t : Truck} {u : State} {q : List Rec} {w : Watch}
    {l : List NoticeBody} (h : SeatState s n seat t u q w l) (hw : w.state = .watch) :
    warnAtOnce u n seat = if w.atOnce s.now = true then enterWarn u n seat else u := by
  rw [Machine.warnAtOnce_of_watch h.watch, now_of_keeps h.all]
  simp only [hw, true_and, Watch.atOnce]
  rfl

/-- A start: the context, WATCH_STATE, and a warning reached at once (R43, R46). -/
theorem startContext_spec {s : State} {n seat : Nat} {t : Truck} {u : State} {q : List Rec} {w : Watch}
    {l : List NoticeBody} (h : SeatState s n seat t u q w l) (order : Option Nat) (why : WatchReason) :
    ∃ v, SeatState s n seat t v q (Watch.begun s t order w)
        (l ++ [.watchState n seat .watch why (stampOpt s (Watch.begun s t order w).deadline) order]) ∧
      startContext u n seat order why =
        if (Watch.begun s t order w).atOnce s.now = true then enterWarn v n seat else v := by
  have hbegun : SeatState s n seat t (computeWatch (modWatch u n seat fun w =>
      { w.started u.now with warnCount := 0, startedBy := order }) n seat) q (Watch.begun s t order w) l := by
    rw [now_of_keeps h.all]
    exact (h.mod _).compute
  have hstart := hbegun.postWatchState why
  have hstate : (Watch.begun s t order w).state = .watch := compute_state _ _ _ _
  have hby : (Watch.begun s t order w).startedBy = order := Watch.compute_startedBy _ _ _ _
  rw [hstate, hby] at hstart
  refine ⟨_, hstart, ?_⟩
  rw [← hstart.warnAtOnce_of_watch hstate]
  rfl

/-- START_WATCH's report: the times of the context as it starts, whether or not it warns at once. -/
theorem startReport_startContext {s : State} {n : Nat} {t : Truck} (hk : truckOf s n = some t) (seat : Nat)
    (order : Option Nat) (why : WatchReason) :
    startReport (startContext s n seat order why) n seat =
      .started (stampOpt s (Watch.begun s t order (t.watch seat)).deadline)
        ((Watch.begun s t order (t.watch seat)).warnTime.map (stampInt s)) := by
  have hkeeps := startContext_keeps (s := s) n seat order why
  obtain ⟨v, hv, hstart⟩ := startContext_spec (SeatState.start hk seat) order why
  unfold startReport
  rw [stampOpt_of_keeps hkeeps, stampInt_of_keeps hkeeps, hstart]
  split_ifs
  · rw [watchOf_enterWarn hv.truck, Truck.seated_watch]
    rfl
  · rw [hv.watch]

/-! ## START_WATCH (R43) -/

section
variable {s : State} (h : Ready s) (tag n seat : Nat)
include h

theorem exec_startWatch {t : Truck} (hk : truckOf s n = some t) (hidle : (t.watch (seatOf seat)).state = .idle) :
    exec (.startWatch tag n seat) s = .next (settleEvent (startContext (answered s 0x0C tag (seatCode seat)
      (.started (stampOpt s (Watch.begun s t none (t.watch (seatOf seat))).deadline)
        ((Watch.begun s t none (t.watch (seatOf seat))).warnTime.map (stampInt s)))) n (seatOf seat) none .start)) := by
  refine request_carried (f := startWatch n seat) (g := fun u => startContext u n (seatOf seat) none .start) h fun u hu => ?_
  have htruck : truckOf u n = some t := (truckOf_of_keeps hu n).trans hk
  simp only [startWatch, watchOf_truck htruck, hidle, ne_eq, not_true_eq_false, if_false, startReport_startContext htruck,
    Watch.begun_of_keeps hu, stampOpt_of_keeps hu, stampInt_of_keeps hu]

theorem startWatch_notFound (hn : truckOf s n = none) : Refuses (.startWatch tag n seat) s .notFound :=
  refuses_of_refuse h rfl rfl fun u hu => by
    simp only [startWatch, watchOf_of_missing ((truckOf_of_keeps hu n).trans hn)]

theorem startWatch_wrongState {t : Truck} (hk : truckOf s n = some t) (hidle : (t.watch (seatOf seat)).state ≠ .idle) :
    Refuses (.startWatch tag n seat) s .wrongState :=
  refuses_of_refuse h rfl rfl fun u hu => by
    simp only [startWatch, watchOf_truck ((truckOf_of_keeps hu n).trans hk), hidle, ne_eq, not_false_eq_true, if_true]

end

theorem Watch.begun_still {w : Watch} (hw : w.set.timer = .stillness) (s : State) (t : Truck) (order : Option Nat) :
    Watch.begun s t order w = { w with
      state := .watch, lastContact := some s.now, startTime := some s.now, warnCount := 0, stillAcc := 0
      stillSince := none, startedBy := order, grace := 0, allowance := 0, deadline := none, warnTime := none } :=
  Watch.compute_still (w := { w.started s.now with warnCount := 0, startedBy := order }) hw _ _ _

theorem Watch.begun_due {w : Watch} (hw : w.set.timer ≠ .stillness) (s : State) (t : Truck) (order : Option Nat) :
    let d := w.due (truckGrace s t) (bandEntryInForce s).allowance s.now
    Watch.begun s t order w = { w with
      state := .watch, lastContact := some s.now, startTime := some s.now, warnCount := 0, stillAcc := 0
      stillSince := none, startedBy := order, grace := truckGrace s t, allowance := (bandEntryInForce s).allowance
      deadline := some d, warnTime := some ((d : Int) - (w.set.lead : Int)) } :=
  Watch.compute_due (w := { w.started s.now with warnCount := 0, startedBy := order }) hw _ _ _

/-- START_WATCH from IDLE: the start behind its reply, and a warning reached at once behind WATCH_STATE (R43, R46). -/
theorem startWatch_starts {s : State} (h : Ready s) (tag n seat : Nat) {t : Truck} (hk : truckOf s n = some t)
    (hidle : (t.watch (seatOf seat)).state = .idle) :
    let w' := Watch.begun s t none (t.watch (seatOf seat))
    ∃ u v, exec (.startWatch tag n seat) s = .next (settleEvent u) ∧
      truckOf v n = some (t.withWatch (seatOf seat) w') ∧ (∀ m, m ≠ n → truckOf v m = truckOf s m) ∧
      v = { posted
          (answered s 0x0C tag (if seatOf seat = seat then .ok else .clamped)
            (.started (stampOpt s w'.deadline) (w'.warnTime.map (stampInt s))))
          [.watchState n (seatOf seat) .watch .start (stampOpt s w'.deadline) none] with trucks := v.trucks } ∧
      u = if w'.atOnce s.now = true then enterWarn v n (seatOf seat) else v := by
  intro w'
  have hexec := exec_startWatch h tag n seat hk hidle
  have hkeeps := answered_keeps s 0x0C tag (seatCode seat) (.started (stampOpt s w'.deadline) (w'.warnTime.map (stampInt s)))
  obtain ⟨v, hv, hstart⟩ :=
    startContext_spec (SeatState.start ((truckOf_of_keeps hkeeps n).trans hk) (seatOf seat)) none .start
  rw [Watch.begun_of_keeps hkeeps, stampOpt_of_keeps hkeeps] at hv
  rw [Watch.begun_of_keeps hkeeps, now_of_keeps hkeeps] at hstart
  refine ⟨_, v, hexec, hv.truck, fun m hm => (hv.others m hm).trans (truckOf_of_keeps hkeeps m), ?_, hstart⟩
  exact (seatCode_eq seat) ▸ hv.eq

theorem applyProfile_idle {s : State} {n : Nat} {t : Truck} (hk : truckOf s n = some t) {p : Profile}
    (hidle : (t.watch p.seat).state = .idle) (order : Nat) :
    applyProfile s n order p =
      startContext (modWatch s n p.seat fun w => { w with set := p.set }) n p.seat (some order) .orderStart := by
  simp only [applyProfile, watchOf_truck hk, hidle, if_true]

theorem applyProfile_staged {s : State} {n : Nat} {t : Truck} (hk : truckOf s n = some t) {p : Profile}
    (hidle : (t.watch p.seat).state ≠ .idle) (order : Nat) :
    applyProfile s n order p = modWatch s n p.seat fun w => { w with staged := some p.set } := by
  simp only [applyProfile, watchOf_truck hk, hidle, if_false]

/-- Settles O24: a start is one chain of changes to its context, at START_WATCH and at ON_SITE. -/
theorem startWatchComputesDeadline : Obligations.StartWatchComputesDeadline := by
  unfold Obligations.StartWatchComputesDeadline
  refine ⟨fun s e he => by simp [bandEntryInForce, List.getD_eq_getElem?_getD, he],
    fun s t => ⟨fun z hz => by simp only [truckGrace, hz], fun hz => by simp only [truckGrace, hz]⟩,
    fun s tag n seat h => ?_, fun g a now w => ?_, fun s n order p t hk _ => ?_⟩
  · intro k
    cases hk : truckOf s n with
    | none => exact startWatch_notFound h tag n seat hk
    | some t =>
      change if (t.watch k).state ≠ .idle then _ else _
      by_cases hidle : (t.watch k).state = .idle
      · rw [if_neg (not_not_intro hidle)]
        intro w g a half d w'
        have hhalf : half = w.span := by
          simp only [half, Watch.span]
          cases w.set.timer <;> rfl
        have hd : d = w.due (truckGrace s t) (bandEntryInForce s).allowance s.now := by
          simp only [d, hhalf]
          rfl
        have hbegun : w' = Watch.begun s t none w := by
          by_cases hstill : w.set.timer = .stillness
          · rw [Watch.begun_still hstill]
            exact if_pos hstill
          · rw [Watch.begun_due hstill, ← hd]
            exact if_neg hstill
        have hreached : (w.set.timer ≠ .stillness ∧ (d : Int) - (w.set.lead : Int) ≤ (s.now : Int)) ↔
            w'.atOnce s.now = true := by
          by_cases hstill : w.set.timer = .stillness
          · rw [hbegun, Watch.begun_still hstill]
            simp [Watch.atOnce, hstill]
          · rw [hbegun, Watch.begun_due hstill, ← hd]
            simp [Watch.atOnce, hstill]
        simp only [hreached]
        rw [hbegun]
        exact startWatch_starts h tag n seat hk hidle
      · rw [if_pos hidle]
        exact startWatch_wrongState h tag n seat hk hidle
  · dsimp only
    by_cases hstill : w.set.timer = .stillness
    · rw [if_pos hstill, Watch.compute_still hstill]
    · rw [if_neg hstill, Watch.compute_due hstill]
      rfl
  · dsimp only
    by_cases hidle : (t.watch p.seat).state = .idle
    · obtain ⟨v, hv, hstart⟩ := startContext_spec ((SeatState.start hk p.seat).mod fun w => { w with set := p.set })
        (some order) .orderStart
      refine ⟨v, hv.others, ?_⟩
      rw [if_pos hidle, applyProfile_idle hk hidle]
      exact ⟨hv.truck, hv.eq, hstart⟩
    · have hseat := (SeatState.start hk p.seat).mod fun w => { w with staged := some p.set }
      refine ⟨_, hseat.others, ?_⟩
      rw [if_neg hidle, applyProfile_staged hk hidle]
      exact ⟨hseat.truck, hseat.eq, rfl⟩

end Sys2Proof.Machine

/-!
PROOFS. A context stopped or closed (R31, R44, R58): STOP_WATCH, CLOSE_ALARM and the end of an order.
-/
namespace Sys2Proof.Machine

-- The proofs are taken one after another: side by side they wait for each other in more threads than the check can hold.
set_option Elab.async false

/-- The staged settings put in force (R42). -/
theorem Watch.applyStaged_eq (w : Watch) : w.applyStaged = { w with
    set := w.staged.getD w.set, staged := none
    flags := if w.staged.isSome = true then { w.flags with stagedApplied := true } else w.flags } := by
  obtain ⟨_, _, staged, _, _, _, _, _, _, _, _, _, _, _, _⟩ := w
  cases staged <;> rfl

/-- A context as a stop leaves it (R44). -/
def Watch.stopped (w : Watch) : Watch :=
  { w.applyStaged.noDeadline with
    state := .idle, startTime := none, stillSince := none, stillAcc := 0, startedBy := none }

theorem Watch.stopped_eq (w : Watch) : w.stopped = { w with
    set := w.staged.getD w.set, staged := none
    flags := if w.staged.isSome = true then { w.flags with stagedApplied := true } else w.flags
    state := .idle, deadline := none, warnTime := none, startTime := none, stillSince := none, stillAcc := 0
    startedBy := none } := by
  rw [Watch.stopped, w.applyStaged_eq]
  rfl

theorem Watch.closed_eq (w : Watch) : w.closed = { w with
    set := w.staged.getD w.set, staged := none
    flags := if w.staged.isSome = true then { w.flags with stagedApplied := true } else w.flags
    state := .idle, alarm := none, deadline := none, warnTime := none, startTime := none, stillSince := none
    stillAcc := 0, startedBy := none } := by
  rw [Watch.closed, w.applyStaged_eq]
  rfl

section
variable {s : State} {n seat : Nat} {t : Truck} {u : State} {q : List Rec} {w : Watch} {l : List NoticeBody}

/-- A stop: the context, its PROMPT DUE and WATCH_STATE (R44). -/
theorem SeatState.stopContext (h : SeatState s n seat t u q w l) (why : WatchReason) :
    SeatState s n seat t (stopContext u n seat why) (withoutPrompt q seat .due) w.stopped
      (l ++ [.watchState n seat .idle why none none]) :=
  ((h.mod Watch.stopped).removePrompt .due).postWatchState why

/-- An alarm closed: the context, its PROMPT ALARMED and WATCH_STATE; then the assist lists (R58). -/
theorem SeatState.closeContext (h : SeatState s n seat t u q w l) :
    ∃ v, SeatState s n seat t v (withoutPrompt q seat .alarmed) w.closed
        (l ++ [.watchState n seat .idle .close none none]) ∧
      closeContext u n seat = assistFor v n :=
  ⟨_, ((h.mod Watch.closed).removePrompt .alarmed).postWatchState .close, rfl⟩

end

/-! ## STOP_WATCH and CLOSE_ALARM -/

section
variable {s : State} (h : Ready s) (tag n seat : Nat)
include h

theorem stopWatch_notFound (hn : truckOf s n = none) : Refuses (.stopWatch tag n seat) s .notFound :=
  refuses_of_refuse h rfl rfl fun u hu => by
    simp only [stopWatch, watchOf_of_missing ((truckOf_of_keeps hu n).trans hn)]

theorem closeAlarm_notFound (hn : truckOf s n = none) : Refuses (.closeAlarm tag n seat) s .notFound :=
  refuses_of_refuse h rfl rfl fun u hu => by
    simp only [closeAlarm, watchOf_of_missing ((truckOf_of_keeps hu n).trans hn)]

variable {t : Truck} (hk : truckOf s n = some t)
include hk

theorem stopWatch_wrongState (hw : ¬((t.watch (seatOf seat)).state = .watch ∨ (t.watch (seatOf seat)).state = .warn)) :
    Refuses (.stopWatch tag n seat) s .wrongState :=
  refuses_of_refuse h rfl rfl fun u hu => by
    simp only [stopWatch, watchOf_truck ((truckOf_of_keeps hu n).trans hk), if_neg hw]

theorem closeAlarm_wrongState (hw : (t.watch (seatOf seat)).state ≠ .alarm) :
    Refuses (.closeAlarm tag n seat) s .wrongState :=
  refuses_of_refuse h rfl rfl fun u hu => by
    simp only [closeAlarm, watchOf_truck ((truckOf_of_keeps hu n).trans hk), if_neg hw]

theorem exec_stopWatch (hw : (t.watch (seatOf seat)).state = .watch ∨ (t.watch (seatOf seat)).state = .warn) :
    exec (.stopWatch tag n seat) s =
      .next (stopContext (answered s 0x0D tag (seatCode seat) .none) n (seatOf seat) .stop) :=
  request_carried_quiet (f := stopWatch n seat) (g := fun u => stopContext u n (seatOf seat) .stop) h
    (fun u hu => by simp only [stopWatch, watchOf_truck ((truckOf_of_keeps hu n).trans hk), if_pos hw])
    fun u => stopContext_keeps (s := u) n (seatOf seat) .stop .askArb (by decide)

theorem exec_closeAlarm (hw : (t.watch (seatOf seat)).state = .alarm) :
    exec (.closeAlarm tag n seat) s =
      .next (settleEvent (closeContext (answered s 0x0E tag (seatCode seat) .none) n (seatOf seat))) :=
  request_carried (f := closeAlarm n seat) (g := fun u => closeContext u n (seatOf seat)) h fun u hu => by
    simp only [closeAlarm, watchOf_truck ((truckOf_of_keeps hu n).trans hk), if_pos hw]

end

/-! ## The end of an order (R31) -/

theorem stopIfStarted_other {s : State} {n seat order : Nat} {t : Truck} (hk : truckOf s n = some t)
    (h : (t.watch seat).startedBy ≠ some order ∨ (t.watch seat).state = .idle) : stopIfStarted s n seat order = s := by
  simp only [stopIfStarted, watchOf_truck hk]
  rcases h with hby | hidle
  · rw [if_neg hby]
  · simp only [hidle, ite_self]

theorem stopIfStarted_alarm {s : State} {n seat order : Nat} {t : Truck} (hk : truckOf s n = some t)
    (hby : (t.watch seat).startedBy = some order) (hw : (t.watch seat).state = .alarm) :
    stopIfStarted s n seat order = modWatch s n seat fun w => { w with startedBy := none } := by
  simp only [stopIfStarted, watchOf_truck hk, hby, hw, if_true]

theorem stopIfStarted_running {s : State} {n seat order : Nat} {t : Truck} (hk : truckOf s n = some t)
    (hby : (t.watch seat).startedBy = some order) (hw : (t.watch seat).state = .watch ∨ (t.watch seat).state = .warn) :
    stopIfStarted s n seat order = stopContext s n seat .orderStop := by
  rcases hw with hw | hw <;> simp only [stopIfStarted, watchOf_truck hk, hby, hw, if_true]

/-- Settles O25: a stop and a close are one chain of changes to their context. -/
theorem stopAndCloseReturnToIdle : Obligations.StopAndCloseReturnToIdle := by
  unfold Obligations.StopAndCloseReturnToIdle
  refine ⟨fun s tag n seat h => ?_, fun s n order => rfl, fun s n seat order t hk _ => ?_⟩
  · intro k
    cases hk : truckOf s n with
    | none => exact ⟨stopWatch_notFound h tag n seat hk, closeAlarm_notFound h tag n seat hk⟩
    | some t =>
      have hkeeps := fun i => answered_keeps s i tag (seatCode seat) .none
      have hstart := fun i => SeatState.start ((truckOf_of_keeps (hkeeps i) n).trans hk) k
      dsimp only
      constructor
      · by_cases hw : (t.watch k).state = .watch ∨ (t.watch k).state = .warn
        · have hv := (hstart 0x0D).stopContext .stop
          obtain ⟨hgone, hkept⟩ := withoutPrompt_gone t.queue k .due
          rw [if_pos hw]
          refine ⟨_, _, exec_stopWatch h tag n seat hk hw, hv.truck, ?_, ⟨?_, ?_⟩, fun m hm =>
            (hv.others m hm).trans (truckOf_of_keeps (hkeeps 0x0D) m), ?_⟩
          · rw [← Watch.stopped_eq]
            exact t.seated_eq _ _ _
          · rw [Truck.seated_queue]
            exact hgone
          · rw [Truck.seated_queue]
            exact hkept
          · exact (seatCode_eq seat) ▸ hv.eq
        · rw [if_neg hw]
          exact stopWatch_wrongState h tag n seat hk hw
      · by_cases hw : (t.watch k).state = .alarm
        · obtain ⟨v, hv, hclose⟩ := (hstart 0x0E).closeContext
          obtain ⟨hgone, hkept⟩ := withoutPrompt_gone t.queue k .alarmed
          rw [if_pos hw]
          refine ⟨v, _, (exec_closeAlarm h tag n seat hk hw).trans (congrArg (fun x => Host.Outcome.next (settleEvent x)) hclose), hv.truck, ?_, ⟨?_, ?_⟩, fun m hm =>
            (hv.others m hm).trans (truckOf_of_keeps (hkeeps 0x0E) m), ?_⟩
          · rw [← Watch.closed_eq]
            exact t.seated_eq _ _ _
          · rw [Truck.seated_queue]
            exact hgone
          · rw [Truck.seated_queue]
            exact hkept
          · exact (seatCode_eq seat) ▸ hv.eq
        · rw [if_neg hw]
          exact closeAlarm_wrongState h tag n seat hk hw
  · refine ⟨stopIfStarted_other hk, fun hby hw => ?_, fun hby hw => ?_⟩
    · have hv := (SeatState.start hk seat).mod fun w => { w with startedBy := none }
      exact ⟨_, stopIfStarted_alarm hk hby hw, hv.truck, hv.others, hv.eq⟩
    · have hv := (SeatState.start hk seat).stopContext .orderStop
      obtain ⟨hgone, hkept⟩ := withoutPrompt_gone t.queue seat .due
      refine ⟨_, _, stopIfStarted_running hk hby hw, hv.truck, ?_, ?_, ?_, hv.others, hv.eq⟩
      · rw [← Watch.stopped_eq]
        exact t.seated_eq _ _ _
      · rw [Truck.seated_queue]
        exact hgone
      · rw [Truck.seated_queue]
        exact hkept

end Sys2Proof.Machine

/-!
PROOFS. The items of a seat (R40, R47 to R51, R54, R56, R57): CHECK_IN, MOTION, TASK_DONE and EMERGENCY, each a chain of
changes to the context of its seat, in every timer and alarm mode.
-/
namespace Sys2Proof.Machine

-- The proofs are taken one after another: side by side they wait for each other in more threads than the check can hold.
set_option Elab.async false

section
variable {s : State} {n seat : Nat} {t : Truck} {u : State} {q : List Rec} {w : Watch} {l : List NoticeBody}

/-! ## Back to WATCH (R47, R48, R50) -/

/-- The notice of a context taken back from WARN, whose state and starter are those of `w₀` (R47, R64). -/
def backNotice (s : State) (n seat : Nat) (w₀ : Watch) (deadline : Option Nat) (why : WatchReason) : List NoticeBody :=
  if w₀.state = .warn then [.watchState n seat .watch why (stampOpt s deadline) w₀.startedBy] else []

/-- The queue behind it: a context in WARN leaves its PROMPT DUE (R53). -/
def backQueue (q : List Rec) (seat : Nat) (w₀ : Watch) : List Rec :=
  if w₀.state = .warn then withoutPrompt q seat .due else q

/-- A running context back in WATCH: from WARN with its notice and without its PROMPT DUE. -/
theorem SeatState.warnToWatch (h : SeatState s n seat t u q w l) {w₀ : Watch} {d : Option Nat}
    (hstate : w.state = w₀.state) (hby : w.startedBy = w₀.startedBy) (hd : w.deadline = d) (hw : w₀.state = .watch ∨ w₀.state = .warn) (why : WatchReason) :
    SeatState s n seat t (warnToWatch u n seat why) (backQueue q seat w₀) { w with state := .watch }
      (l ++ backNotice s n seat w₀ d why) := by
  simp only [Machine.warnToWatch, h.watch, backQueue, backNotice]
  rw [hstate, ← hby, ← hd]
  by_cases hwarn : w₀.state = .warn
  · simp only [hwarn, if_true]
    exact ((h.mod fun w => { w with state := .watch }).postWatchState why).removePrompt .due
  · have hsame : { w with state := .watch } = w := by rw [← hw.resolve_right hwarn, ← hstate]
    simp only [if_neg hwarn, List.append_nil, hsame]
    exact h

theorem backQueue_withoutPrompt (q : List Rec) (seat : Nat) (w₀ : Watch) :
    withoutPrompt (backQueue q seat w₀) seat .due = withoutPrompt q seat .due := by
  unfold backQueue
  split_ifs
  · exact withoutPrompt_twice q seat .due
  · rfl

/-- The assist lists leave the context alone. -/
theorem SeatState.watchOf_assistFor (h : SeatState s n seat t u q w l) : watchOf (assistFor u n) n seat = some w :=
  ((assistFor_path (A := fun _ => False) u n).watchOf_eq n seat).trans h.watch

/-! ## Which item is taken (R40, R50) -/

theorem takeContact_elsewhere (hne1 : seat ≠ 1) (hne2 : seat ≠ 2) (item : ItemKind) (still : Bool) :
    takeContact s n seat item still = s :=
  if_neg (by simp [hne1, hne2])

variable (hw : watchOf s n seat = some w)
include hw

variable (hseat : seat = 1 ∨ seat = 2)
include hseat

theorem takeContact_idle (hidle : w.state = .idle) (item : ItemKind) (still : Bool) :
    takeContact s n seat item still = s := by
  simp only [takeContact, if_pos hseat, hw, hidle]

theorem takeContact_alarm (halarm : w.state = .alarm) (item : ItemKind) (still : Bool) :
    takeContact s n seat item still = contactAfterAlarm s n seat item still := by
  simp only [takeContact, if_pos hseat, hw, halarm]

/-- A running context takes the item, but for a MOVING at the deadline in STILLNESS mode. -/
theorem takeContact_running (hrun : w.state = .watch ∨ w.state = .warn) {item : ItemKind} {still : Bool}
    (h : ¬(item = .motion ∧ still = false ∧ w.set.timer = .stillness ∧ w.deadlineReached s.now = true)) :
    takeContact s n seat item still = takeRunning s n seat item still := by
  rcases hrun with hstate | hstate <;> simp only [takeContact, if_pos hseat, hw, hstate, if_neg h]

theorem takeContact_overdue (hrun : w.state = .watch ∨ w.state = .warn) (htimer : w.set.timer = .stillness)
    (hdue : w.deadlineReached s.now = true) :
    takeContact s n seat .motion false = contactAfterAlarm (deadlineAlarm s n seat) n seat .motion false := by
  rcases hrun with hstate | hstate <;> simp [takeContact, hseat, hw, hstate, htimer, hdue]

/-- A CHECK_IN, and a TASK_DONE in another mode than TASK, are check-ins. -/
theorem takeContact_checkIn (hrun : w.state = .watch ∨ w.state = .warn) (still : Bool) :
    takeContact s n seat .checkIn still = checkIn s n seat := by
  rw [takeContact_running hw hseat hrun (by simp)]
  simp only [takeRunning, hw]

theorem takeContact_taskDone (hrun : w.state = .watch ∨ w.state = .warn) (still : Bool) :
    takeContact s n seat .taskDone still = if w.set.timer = .task then endTask s n seat else checkIn s n seat := by
  rw [takeContact_running hw hseat hrun (by simp)]
  simp only [takeRunning, hw]

/-- A MOTION in time. -/
theorem takeContact_motion (hrun : w.state = .watch ∨ w.state = .warn) {still : Bool}
    (h : still = true ∨ w.set.timer ≠ .stillness ∨ ∀ d, w.deadline = some d → s.now < d) :
    takeContact s n seat .motion still =
      if w.set.timer = .stillness then (if still = true then motionStill s n seat else motionMoving s n seat) else s := by
  have htime : ¬(ItemKind.motion = .motion ∧ still = false ∧ w.set.timer = .stillness ∧
      w.deadlineReached s.now = true) := by
    rintro ⟨-, hstill, htimer, hdue⟩
    obtain ⟨d, hd, hle⟩ := ((Watch.deadlineReached_iff w s.now).mp hdue).2
    rcases h with h | h | h
    · simp [h] at hstill
    · exact h htimer
    · exact absurd hle (Nat.not_le.mpr (h d hd))
  rw [takeContact_running hw hseat hrun htime]
  simp only [takeRunning, hw]

end

/-! ## Check-in (R42, R47, R48) -/

/-- The staged settings do not change the timer mode. -/
theorem Watch.modeChanges_false {w : Watch} (h : ∀ x, w.staged = some x → x.timer = w.set.timer) :
    w.modeChanges = false ∧ (w.staged.getD w.set).timer = w.set.timer := by
  unfold Watch.modeChanges
  cases hstaged : w.staged with
  | none => exact ⟨rfl, rfl⟩
  | some x => simp [h x hstaged]

theorem Watch.modeChanges_true {w : Watch} {x : Settings} (hstaged : w.staged = some x) (h : x.timer ≠ w.set.timer) :
    w.modeChanges = true := by
  simp [Watch.modeChanges, hstaged, h]

/-- The running time of a worker who is still, begun anew (R48). -/
def Watch.stillAfresh (now : Nat) (w : Watch) : Watch := if w.stillSince.isSome then w.becomesStill now else w

theorem Watch.stillAfresh_kept (now : Nat) (w : Watch) :
    (w.stillAfresh now).state = w.state ∧ (w.stillAfresh now).startedBy = w.startedBy := by
  unfold Watch.stillAfresh
  split_ifs <;> exact ⟨rfl, rfl⟩

section
variable {s : State} {n seat : Nat} {t : Truck} (hk : truckOf s n = some t)
include hk

theorem checkIn_task (htimer : (t.watch seat).set.timer = .task) :
    checkIn s n seat = modWatch s n seat fun w => { w with lastContact := some s.now } := by
  simp only [checkIn, watchOf_truck hk, htimer]

/-- What stands after a check-in in INTERVAL mode, but for a warning reached at once (R47). -/
theorem checkIn_interval (hrun : (t.watch seat).state = .watch ∨ (t.watch seat).state = .warn)
    (htimer : (t.watch seat).set.timer = .interval) (hsame : (t.watch seat).modeChanges = false) :
    let w := t.watch seat
    let w' : Watch := { Watch.compute (truckGrace s t) (bandEntryInForce s).allowance s.now
      { w.applyStaged with lastContact := some s.now } with state := .watch }
    ∃ u, SeatState s n seat t u (withoutPrompt t.queue seat .due) w' (backNotice s n seat w w'.deadline .checkIn) ∧
      checkIn s n seat = if w'.atOnce s.now = true then enterWarn u n seat else u := by
  intro w w'
  have hcomputed := ((SeatState.start hk seat).mod fun w => { w.applyStaged with lastContact := some s.now }).compute
  have hback := (hcomputed.warnToWatch (w₀ := w) (by rw [compute_state, Watch.applyStaged_eq])
    (by rw [Watch.compute_startedBy, Watch.applyStaged_eq]) rfl hrun .checkIn).removePrompt .due
  rw [backQueue_withoutPrompt] at hback
  refine ⟨_, hback, ?_⟩
  rw [← hback.warnAtOnce_of_watch rfl]
  simp only [checkIn, watchOf_truck hk, htimer, hsame, Bool.false_eq_true, if_false]

/-- A check-in whose staged settings change the timer mode (R42). -/
theorem checkIn_restarts (hrun : (t.watch seat).state = .watch ∨ (t.watch seat).state = .warn)
    (htimer : (t.watch seat).set.timer ≠ .task) (hchange : (t.watch seat).modeChanges = true) :
    let w := t.watch seat
    let w' := Watch.compute (truckGrace s t) (bandEntryInForce s).allowance s.now (w.applyStaged.started s.now)
    ∃ u, SeatState s n seat t u (backQueue t.queue seat w) w' (backNotice s n seat w w.deadline .checkIn) ∧
      checkIn s n seat = if w'.atOnce s.now = true then enterWarn u n seat else u := by
  intro w w'
  have hback := ((SeatState.start hk seat).mod Watch.applyStaged).warnToWatch (w₀ := w) (by rw [Watch.applyStaged_eq])
    (by rw [Watch.applyStaged_eq]) (d := w.deadline) (by rw [Watch.applyStaged_eq]) hrun .checkIn
  have hcomputed : SeatState s n seat t _ _ w' _ := (hback.mod (Watch.started s.now)).compute
  refine ⟨_, hcomputed, ?_⟩
  rw [← hcomputed.warnAtOnce_of_watch (compute_state _ _ _ _)]
  cases hmode : (t.watch seat).set.timer with
  | task => exact absurd hmode htimer
  | interval => simp only [checkIn, watchOf_truck hk, hmode, hchange, if_true, restartUnderStaged]
  | stillness => simp only [checkIn, watchOf_truck hk, hmode, hchange, if_true, restartUnderStaged]

/-- A check-in in STILLNESS mode: the running time starts afresh (R48). -/
theorem checkIn_stillness (hrun : (t.watch seat).state = .watch ∨ (t.watch seat).state = .warn)
    (htimer : (t.watch seat).set.timer = .stillness) (hsame : (t.watch seat).modeChanges = false) :
    let w := t.watch seat
    let w' : Watch := { Watch.stillAfresh s.now { w.applyStaged with lastContact := some s.now, stillAcc := 0 } with
      state := .watch }
    ∃ u, SeatState s n seat t u (backQueue t.queue seat w) w' (backNotice s n seat w w'.deadline .checkIn) ∧
      checkIn s n seat =
        if w.stillSince.isSome = true then (if w'.atOnce s.now = true then enterWarn u n seat else u) else u := by
  intro w w'
  have hkept := Watch.stillAfresh_kept s.now { w.applyStaged with lastContact := some s.now, stillAcc := 0 }
  have hback : SeatState s n seat t _ _ w' _ := ((SeatState.start hk seat).mod fun w =>
    Watch.stillAfresh s.now { w.applyStaged with lastContact := some s.now, stillAcc := 0 }).warnToWatch (w₀ := w)
    (hkept.1.trans (by rw [Watch.applyStaged_eq])) (hkept.2.trans (by rw [Watch.applyStaged_eq])) rfl hrun .checkIn
  refine ⟨_, hback, ?_⟩
  rw [← hback.warnAtOnce_of_watch rfl]
  simp only [checkIn, watchOf_truck hk, htimer, hsame, Bool.false_eq_true, if_false]
  rfl

/-! ## Motion (R49, R50) and task end (R51) -/

omit hk in
theorem Watch.becomesStill_eq {w : Watch} (htimer : w.set.timer = .stillness) (now : Nat) :
    w.becomesStill now = { w with
      lastContact := some now, stillSince := some now, deadline := some (now + (w.set.still - w.stillAcc))
      warnTime := some (((now + (w.set.still - w.stillAcc) : Nat) : Int) - (min w.set.lead (w.set.still / 2) : Nat)) } := by
  simp only [Watch.becomesStill, Watch.withDeadline, Settings.warnLead, htimer]

theorem motionStill_first (hstill : (t.watch seat).stillSince = none) :
    let w' := (t.watch seat).becomesStill s.now
    ∃ u, SeatState s n seat t u t.queue w' [] ∧
      motionStill s n seat = if w'.state = .watch ∧ w'.atOnce s.now = true then enterWarn u n seat else u := by
  intro w'
  have hseat := (SeatState.start hk seat).mod (Watch.becomesStill s.now)
  refine ⟨_, hseat, ?_⟩
  simp only [motionStill, watchOf_truck hk, hstill, Option.isSome_none, Bool.false_eq_true, if_false]
  rw [Machine.warnAtOnce_of_watch hseat.watch, now_of_keeps hseat.all]
  rfl

theorem motionStill_again {b : Nat} (hstill : (t.watch seat).stillSince = some b) :
    motionStill s n seat = modWatch s n seat fun w => { w with lastContact := some s.now } := by
  simp only [motionStill, watchOf_truck hk, hstill, Option.isSome_some, if_true]

theorem motionMoving_still {b : Nat} (hrun : (t.watch seat).state = .watch ∨ (t.watch seat).state = .warn)
    (hstill : (t.watch seat).stillSince = some b) :
    let w := t.watch seat
    SeatState s n seat t (motionMoving s n seat) (backQueue t.queue seat w)
      { w with
        state := .watch, lastContact := some s.now, stillAcc := w.stillAcc + (s.now - b), stillSince := none
        deadline := none, warnTime := none } (backNotice s n seat w none .motion) := by
  intro w
  have hback := ((SeatState.start hk seat).mod fun w =>
    { w.noDeadline with lastContact := some s.now, stillAcc := w.stillAcc + (s.now - b), stillSince := none }).warnToWatch
    (w₀ := w) rfl rfl rfl hrun .motion
  simp only [motionMoving, watchOf_truck hk, hstill]
  exact hback

theorem motionMoving_again (hstill : (t.watch seat).stillSince = none) :
    motionMoving s n seat = modWatch s n seat fun w => { w with lastContact := some s.now } := by
  simp only [motionMoving, watchOf_truck hk, hstill]

theorem endTask_spec :
    let w := t.watch seat
    SeatState s n seat t (endTask s n seat) (withoutPrompt t.queue seat .due)
      { w.applyStaged.noDeadline with
        state := .idle, startTime := none, stillSince := none, startedBy := none, lastContact := some s.now }
      [.taskEnded n seat (stampOpt s w.startTime)] := by
  intro w
  simp only [endTask, watchOf_truck hk]
  exact (((SeatState.start hk seat).mod fun w => { w.applyStaged.noDeadline with
    state := .idle, startTime := none, stillSince := none, startedBy := none
    lastContact := some s.now }).removePrompt .due).post _

/-! ## Contact after alarm (R56, R57) -/

omit hk in
theorem SeatState.contactLatched {u : State} {q : List Rec} {w : Watch} (h : SeatState s n seat t u q w [])
    (item : ItemKind) :
    ∃ v, contactLatched u n seat item = assistFor v n ∧
      SeatState s n seat t v q { w with lastContact := some s.now, flags := { w.flags with contactAfterAlarm := true } }
        [.contact n seat item (some (stamp s s.now))] := by
  have hseat := (h.mod fun w =>
    { w with lastContact := some s.now, flags := { w.flags with contactAfterAlarm := true } }).post
    (.contact n seat item (some (stamp s s.now)))
  refine ⟨_, ?_, hseat⟩
  simp only [Machine.contactLatched, stamp_of_keeps h.all, now_of_keeps h.all]

/-- A recovery: the context started anew, RECOVERED, its PROMPT ALARMED gone; then the assist lists, and a warning reached
at once (R46, R57). -/
theorem recover_spec (item : ItemKind) :
    let w' := Watch.compute (truckGrace s t) (bandEntryInForce s).allowance s.now
      { (t.watch seat).applyStaged.started s.now with alarm := none }
    ∃ u, SeatState s n seat t u (withoutPrompt t.queue seat .alarmed) w'
        [.recovered n seat item (stampOpt s w'.deadline)] ∧
      recover s n seat item =
        if w'.atOnce s.now = true then enterWarn (assistFor u n) n seat else assistFor u n := by
  intro w'
  have hcomputed : SeatState s n seat t _ _ w' _ :=
    ((SeatState.start hk seat).mod fun w => { w.applyStaged.started s.now with alarm := none }).compute
  have hseat := (hcomputed.post (.recovered n seat item (stampOpt s w'.deadline))).removePrompt .alarmed
  refine ⟨_, hseat, ?_⟩
  have hassist := hseat.watchOf_assistFor
  have hstate : w'.state = .watch := compute_state _ _ _ _
  have hnow := (now_of_keeps (assistFor_keeps _ n)).trans (now_of_keeps hseat.all)
  simp only [recover, hcomputed.watch, Option.bind_some]
  rw [Machine.warnAtOnce_of_watch hassist, hnow, hstate]
  simp only [true_and]
  rfl

/-- A recovered context runs, and in STILLNESS mode it has no deadline: it takes the item (R57). -/
theorem takeContact_recover (hseat : seat = 1 ∨ seat = 2) (item : ItemKind) (still : Bool) :
    takeContact (recover s n seat item) n seat item still = takeRunning (recover s n seat item) n seat item still := by
  obtain ⟨u, hu, hrecover⟩ := recover_spec (seat := seat) hk item
  let w' := Watch.compute (truckGrace s t) (bandEntryInForce s).allowance s.now
    { (t.watch seat).applyStaged.started s.now with alarm := none }
  have htime : w'.set.timer = .stillness → w'.deadline = none := fun htimer => by
    rw [show w' = _ from Watch.compute_still (compute_set _ _ _ _ ▸ htimer) _ _ _]
  have hwatch : ∃ x, watchOf (recover s n seat item) n seat = some x ∧ (x.state = .watch ∨ x.state = .warn) ∧
      (x.set.timer = .stillness → x.deadline = none) := by
    rw [hrecover]
    split_ifs
    · obtain ⟨k, hk', hwatch⟩ := watchOf_eq_some hu.watchOf_assistFor
      exact ⟨_, watchOf_enterWarn hk' seat, .inr rfl, by rw [hwatch]; exact htime⟩
    · exact ⟨w', hu.watchOf_assistFor, .inl (compute_state _ _ _ _), htime⟩
  obtain ⟨x, hx, hrun, hnone⟩ := hwatch
  refine takeContact_running hx hseat hrun ?_
  rintro ⟨-, -, htimer, hdue⟩
  obtain ⟨d, hd, -⟩ := ((Watch.deadlineReached_iff x _).mp hdue).2
  rw [hnone htimer] at hd
  exact absurd hd (by simp)

/-! ## Emergency (R54) -/

theorem takeEmergency_eq (seat0 : Nat) (hseat0 : (if seat0 = 2 then 2 else 1) = seat) :
    takeEmergency s n seat0 =
      if (t.watch seat).state = .alarm then
        contactLatched (modWatch s n seat fun w => { w with alarm := w.alarm.map fun a => { a with cause := .emergency } })
          n seat .emergency
      else enterAlarm (modWatch s n seat fun w => { w with lastContact := some s.now }) n seat .emergency := by
  subst hseat0
  simp only [takeEmergency, watchOf_truck hk]

/-! ## Every item -/

/-- A context of which the last contact alone has moved. -/
theorem touched_spec (seat : Nat) {f : State → State}
    (hf : f s = modWatch s n seat fun w => { w with lastContact := some s.now }) :
    truckOf (f s) n = some (t.withWatch seat { t.watch seat with lastContact := some s.now }) ∧
      (∀ m, m ≠ n → truckOf (f s) m = truckOf s m) ∧ f s = { s with trucks := (f s).trucks } := by
  have hseat := (SeatState.start hk seat).mod fun w => { w with lastContact := some s.now }
  rw [hf]
  exact ⟨hseat.truck, hseat.others, hseat.eq⟩

end

/-- The PROMPT DUE of a context taken back from WARN is gone; from WATCH the queue is as it was. -/
theorem backQueue_spec (t : Truck) (seat : Nat) (w : Watch) (w' : Watch) :
    let t' := t.seated seat (backQueue t.queue seat w) w'
    (w.state = .warn → recFor t'.queue (.prompt seat) =
        (match recFor t.queue (.prompt seat) with
         | some r => if r.content.summary = .prompt .due then none else some r
         | none => none) ∧
        ∀ x, x ≠ .prompt seat → recFor t'.queue x = recFor t.queue x) ∧
      (w.state = .watch → t'.queue = t.queue) := by
  intro t'
  rw [Truck.seated_queue]
  unfold backQueue
  refine ⟨fun hwarn => ?_, fun hwatch => ?_⟩
  · rw [if_pos hwarn]
    exact withoutPrompt_gone t.queue seat .due
  · rw [if_neg (by rw [hwatch]; decide)]

/-- The same where its PROMPT is removed in either state. -/
theorem withoutPrompt_spec (t : Truck) (seat : Nat) (k : PromptKind) (w' : Watch) :
    let t' := t.seated seat (withoutPrompt t.queue seat k) w'
    recFor t'.queue (.prompt seat) =
        (match recFor t.queue (.prompt seat) with
         | some r => if r.content.summary = .prompt k then none else some r
         | none => none) ∧
        ∀ x, x ≠ .prompt seat → recFor t'.queue x = recFor t.queue x := by
  intro t'
  rw [Truck.seated_queue]
  exact withoutPrompt_gone t.queue seat k

/-- Settles O26: each item of a seat is one chain of changes to its context. -/
theorem seatItemsActOnContext : Obligations.SeatItemsActOnContext := by
  unfold Obligations.SeatItemsActOnContext
  refine ⟨fun s n seat item still h1 h2 => takeContact_elsewhere h1 h2 item still, fun s n seat t hk hseat => ?_⟩
  intro w running set flags computed reached touched gone others
  have hwatch : watchOf s n seat = some w := watchOf_truck hk seat
  have happlied : w.applyStaged = { w with set := set, staged := none, flags := flags } := w.applyStaged_eq
  refine ⟨takeContact_idle hwatch hseat, fun halarm hmode item still => ?_, fun hrun htimer hstaged => ?_,
    fun hrun htimer hstill => ?_, fun b hrun htimer hstill hdue => ?_, fun hrun htimer => ?_, fun hrun htimer still => ?_,
    fun hrun htimer still still' => ?_, fun hrun htimer still => ?_, fun hrun htimer hstaged still => ?_,
    fun x hrun htimer hstaged hne still => ?_, fun b hrun htimer hstill => ?_, fun hrun htimer hstill hdue => ?_,
    fun d hrun htimer hd hle => ?_, fun halarm hmode item still => ?_, fun seat0 hseat0 => ⟨fun hne => ?_, fun halarm => ?_⟩⟩
  · -- a LATCHED alarm
    obtain ⟨u, hcontact, hu⟩ := (SeatState.start hk seat).contactLatched item
    refine ⟨u, ?_, hu.others, hu.truck, hu.eq⟩
    rw [takeContact_alarm hwatch hseat halarm, ← hcontact]
    simp only [contactAfterAlarm, hwatch]
    exact if_pos hmode
  · -- CHECK_IN, INTERVAL mode
    intro _ g a d
    obtain ⟨hsame, hset⟩ := Watch.modeChanges_false fun x hx => (hstaged x hx).trans htimer.symm
    have hmode : set.timer = .interval := hset.trans htimer
    have hstill : set.timer ≠ .stillness := by rw [hmode]; decide
    have hdue : Watch.due (truckGrace s t) (bandEntryInForce s).allowance s.now
        { w with set := set, staged := none, flags := flags, lastContact := some s.now } = d := by
      simp only [Watch.due, Watch.span, hmode]
      rfl
    obtain ⟨u, hu, hcheck⟩ := checkIn_interval hk hrun htimer hsame
    rw [happlied, Watch.compute_due hstill, hdue] at hu hcheck
    refine ⟨u, _, hu.truck, hu.others, withoutPrompt_spec t seat .due _, t.seated_eq _ _ _, hu.eq, ?_⟩
    rw [takeContact_checkIn hwatch hseat hrun, hcheck]
    simp only [Watch.atOnce, Option.any_some, decide_eq_true_eq]
    rfl
  · -- STILL, the first
    obtain ⟨u, hu, hmotion⟩ := motionStill_first hk hstill
    rw [Watch.becomesStill_eq htimer] at hu hmotion
    refine ⟨u, hu.truck, hu.others, hu.eq, ?_⟩
    rw [takeContact_motion hwatch hseat hrun (.inl rfl), if_pos htimer, if_pos rfl, hmotion]
    simp [Watch.atOnce, w]
  · -- MOVING after STILL
    have hu := motionMoving_still hk hrun hstill
    obtain ⟨hwarn, hkept⟩ := backQueue_spec t seat w { w with
        state := .watch, lastContact := some s.now, stillAcc := w.stillAcc + (s.now - b), stillSince := none
        deadline := none, warnTime := none }
    refine ⟨_, _, ?_, hu.truck, hu.others, hwarn, hkept, t.seated_eq _ _ _, hu.eq⟩
    rw [takeContact_motion hwatch hseat hrun (.inr (.inr hdue)), if_pos htimer, if_neg Bool.false_ne_true]
  · -- TASK_DONE, TASK mode
    have hu := endTask_spec (seat := seat) hk
    refine ⟨_, _, by rw [takeContact_taskDone hwatch hseat hrun, if_pos htimer], hu.truck, hu.others,
      withoutPrompt_spec t seat .due _, ?_, hu.eq⟩
    rw [happlied]
    exact t.seated_eq _ _ _
  · -- CHECK_IN, TASK mode
    exact touched_spec hk seat ((takeContact_checkIn hwatch hseat hrun still).trans (checkIn_task hk htimer))
  · rw [takeContact_taskDone hwatch hseat hrun, if_neg htimer, takeContact_checkIn hwatch hseat hrun]
  · rw [takeContact_motion hwatch hseat hrun (.inr (.inl htimer)), if_neg htimer]
  · -- CHECK_IN, STILLNESS mode
    intro d w'
    obtain ⟨hsame, hset⟩ := Watch.modeChanges_false fun x hx => (hstaged x hx).trans htimer.symm
    obtain ⟨u, hu, hcheck⟩ := checkIn_stillness hk hrun htimer hsame
    rw [happlied] at hu hcheck
    have hafresh : Watch.stillAfresh s.now
        { w with set := set, staged := none, flags := flags, lastContact := some s.now, stillAcc := 0 } =
        { w' with state := w.state } := by
      unfold Watch.stillAfresh
      rw [Watch.becomesStill_eq (hset.trans htimer)]
      simp only [w']
      split_ifs with hsince
      · rfl
      · rw [show w.stillSince = none by simpa using hsince]
    rw [hafresh] at hu hcheck
    obtain ⟨hwarn, hkept⟩ := backQueue_spec t seat w w'
    refine ⟨u, _, hu.truck, hu.others, t.seated_eq _ _ _, hwarn, hkept, hu.eq, fun hlater => ?_⟩
    rw [takeContact_checkIn hwatch hseat hrun, hcheck]
    refine ite_eq_right_iff.mpr fun hsince => if_neg fun hreached => ?_
    have hlong : 0 < set.still := hlater.resolve_left fun hnone => by
      change w.stillSince.isSome = true at hsince
      rw [hnone] at hsince
      exact absurd hsince (by simp)
    have hwarnTime : w'.warnTime = some ((d : Int) - (min set.lead (set.still / 2) : Nat)) := if_pos hsince
    change (w'.warnTime.any fun x => decide (x ≤ (s.now : Int))) = true at hreached
    rw [hwarnTime, Option.any_some, decide_eq_true_eq] at hreached
    omega
  · -- CHECK_IN, another timer mode staged
    obtain ⟨u, hu, hcheck⟩ := checkIn_restarts hk hrun htimer (Watch.modeChanges_true hstaged hne)
    obtain ⟨hwarn, hkept⟩ := backQueue_spec t seat w (computed
        { w with
          state := .watch, set := x, staged := none, flags := flags, lastContact := some s.now
          startTime := some s.now, stillAcc := 0, stillSince := none })
    have hset : set = x := by simp only [set, hstaged, Option.getD_some]
    rw [happlied, hset] at hu hcheck
    exact ⟨u, _, hu.truck, hu.others, t.seated_eq _ _ _, hwarn, hkept, hu.eq,
      (takeContact_checkIn hwatch hseat hrun still).trans hcheck⟩
  · -- STILL again
    refine touched_spec hk seat (f := fun s => takeContact s n seat .motion true) ?_
    rw [takeContact_motion hwatch hseat hrun (.inl rfl), if_pos htimer, if_pos rfl, motionStill_again hk hstill]
  · -- MOVING without STILL
    refine touched_spec hk seat (f := fun s => takeContact s n seat .motion false) ?_
    rw [takeContact_motion hwatch hseat hrun (.inr (.inr hdue)), if_pos htimer, if_neg Bool.false_ne_true,
      motionMoving_again hk hstill]
  · -- MOVING at the deadline
    have hdue := (Watch.deadlineReached_iff w s.now).mpr ⟨hrun, d, hd, hle⟩
    have halarm : watchOf (enterAlarm s n seat .stillness) n seat = some (w.alarmed s.now .stillness) := by
      rw [watchOf_enterAlarm, hwatch]
      rfl
    rw [takeContact_overdue hwatch hseat hrun htimer hdue, takeContact_alarm halarm hseat rfl]
    simp only [deadlineAlarm, hwatch, htimer, TimerMode.alarmCause]
  · -- recovery
    obtain ⟨u, hu, hrecover⟩ := recover_spec (seat := seat) hk item
    have htake : takeContact s n seat item still = takeContact (recover s n seat item) n seat item still := by
      rw [takeContact_alarm hwatch hseat halarm, takeContact_recover hk hseat]
      simp only [contactAfterAlarm, hwatch]
      exact if_neg hmode
    obtain ⟨hgone, hkept⟩ := withoutPrompt_spec t seat .alarmed (computed
        { w with
          state := .watch, set := set, staged := none, flags := flags, lastContact := some s.now
          startTime := some s.now, stillAcc := 0, stillSince := none, alarm := none })
    rw [happlied] at hu hrecover
    exact ⟨u, recover s n seat item, _, hu.truck, hu.others, t.seated_eq _ _ _, hgone, hkept, hu.eq, hrecover, htake⟩
  · rw [takeEmergency_eq hk seat0 hseat0, if_neg hne]
  · obtain ⟨u, hcontact, hu⟩ := ((SeatState.start hk seat).mod fun w =>
      { w with alarm := w.alarm.map fun a => { a with cause := .emergency } }).contactLatched .emergency
    exact ⟨u, by rw [takeEmergency_eq hk seat0 hseat0, if_pos halarm, hcontact], hu.others, hu.truck, hu.eq⟩

end Sys2Proof.Machine

/-!
PROOFS. A warning and a deadline reached (R46, R52, R54, R55), and the assist lists (R60, R62): their order is that of a stable
insertion by raised time.
-/
namespace Sys2Proof.Machine

-- The proofs are taken one after another: side by side they wait for each other in more threads than the check can hold.
set_option Elab.async false

/-! ## The order of an assist list (R60) -/

/-- The order of the table and the seats. -/
def seatedBefore (a b : Nat × AssistEntry) : Prop :=
  a.2.truck < b.2.truck ∨ a.2.truck = b.2.truck ∧ a.2.seat < b.2.seat

/-- The order of an assist list: by raised time, then of the table and the seats. -/
def raisedBefore (a b : Nat × AssistEntry) : Prop := a.1 < b.1 ∨ a.1 = b.1 ∧ seatedBefore a b

theorem insertAlarm_perm (a : Nat × AssistEntry) (l : List (Nat × AssistEntry)) : (insertAlarm a l).Perm (a :: l) := by
  induction l with
  | nil => exact .refl _
  | cons b l ih =>
    unfold insertAlarm
    split_ifs
    · exact .refl _
    · exact (ih.cons b).trans (.swap a b l)

theorem insertAlarm_sorted {a : Nat × AssistEntry} {l : List (Nat × AssistEntry)} (hl : l.Pairwise raisedBefore)
    (ha : ∀ b ∈ l, seatedBefore b a) : (insertAlarm a l).Pairwise raisedBefore := by
  induction l with
  | nil => exact List.pairwise_singleton _ _
  | cons b l ih =>
    obtain ⟨hb, hl'⟩ := List.pairwise_cons.mp hl
    unfold insertAlarm
    split_ifs with hlt
    · refine List.pairwise_cons.mpr ⟨fun c hc => .inl ?_, hl⟩
      rcases List.mem_cons.mp hc with rfl | hc
      · exact hlt
      · rcases hb c hc with hbc | ⟨hbc, -⟩ <;> omega
    · refine List.pairwise_cons.mpr ⟨fun c hc => ?_, ih hl' fun c hc => ha c (List.mem_cons_of_mem _ hc)⟩
      rcases List.mem_cons.mp ((insertAlarm_perm a l).mem_iff.mp hc) with rfl | hc
      · have hba := ha b List.mem_cons_self
        rcases Nat.lt_or_eq_of_le (Nat.le_of_not_lt hlt) with h | h
        · exact .inl h
        · exact .inr ⟨h, hba⟩
      · exact hb c hc

theorem foldl_insertAlarm_perm (l acc : List (Nat × AssistEntry)) :
    (l.foldl (fun acc a => insertAlarm a acc) acc).Perm (acc ++ l) := by
  induction l generalizing acc with
  | nil => rw [List.append_nil]; exact .refl _
  | cons a l ih =>
    refine (ih _).trans (((insertAlarm_perm a acc).append_right l).trans ?_)
    exact List.perm_middle.symm

theorem sortAlarms_perm (l : List (Nat × AssistEntry)) : (sortAlarms l).Perm l := foldl_insertAlarm_perm l []

theorem foldl_insertAlarm_sorted {l acc : List (Nat × AssistEntry)} (hacc : acc.Pairwise raisedBefore)
    (hl : l.Pairwise seatedBefore) (h : ∀ a ∈ acc, ∀ b ∈ l, seatedBefore a b) :
    (l.foldl (fun acc a => insertAlarm a acc) acc).Pairwise raisedBefore := by
  induction l generalizing acc with
  | nil => exact hacc
  | cons a l ih =>
    obtain ⟨ha, hl'⟩ := List.pairwise_cons.mp hl
    refine ih (insertAlarm_sorted hacc fun b hb => h b hb a List.mem_cons_self) hl' fun c hc b hb => ?_
    rcases List.mem_cons.mp ((insertAlarm_perm a acc).mem_iff.mp hc) with rfl | hc
    · exact ha b hb
    · exact h c hc b (List.mem_cons_of_mem _ hb)

theorem sortAlarms_sorted {l : List (Nat × AssistEntry)} (hl : l.Pairwise seatedBefore) :
    (sortAlarms l).Pairwise raisedBefore :=
  foldl_insertAlarm_sorted .nil hl fun _ ha => absurd ha List.not_mem_nil

/-! ## The open alarms of a truck (R60) -/

/-- The alarm of a seat as an assist entry. -/
def alarmEntry (t : Truck) (z seat : Nat) : Nat × AssistEntry :=
  (((t.watch seat).alarm.map Alarm.raised).getD 0,
   { truck := t.num, seat := seat, zone := z, lastContact := (t.watch seat).lastContact })

theorem openAlarms_some {t : Truck} {z : Nat} (hz : t.zone = some z) :
    openAlarms t = (if (t.watch 1).state = .alarm then [alarmEntry t z 1] else []) ++
      (if (t.watch 2).state = .alarm then [alarmEntry t z 2] else []) := by
  cases h1 : t.w1.alarm <;> cases h2 : t.w2.alarm <;> simp [openAlarms, hz, alarmEntry, h1, h2]

theorem mem_openAlarms (t : Truck) (raised : Nat) (y : AssistEntry) :
    (raised, y) ∈ openAlarms t ↔ (y.seat = 1 ∨ y.seat = 2) ∧ (t.watch y.seat).state = .alarm ∧
      raised = ((t.watch y.seat).alarm.map Alarm.raised).getD 0 ∧ y.truck = t.num ∧ t.zone = some y.zone ∧
      y.lastContact = (t.watch y.seat).lastContact := by
  cases hz : t.zone with
  | none => simp [openAlarms, hz]
  | some z =>
    obtain ⟨truck, seat, zone, lastContact⟩ := y
    rw [openAlarms_some hz, List.mem_append]
    constructor
    · rintro (h | h) <;> split_ifs at h with halarm <;> simp_all [alarmEntry]
    · rintro ⟨hseat, halarm, hraised, htruck, hzone, hcontact⟩
      rcases hseat with rfl | rfl <;> simp_all [alarmEntry]

theorem openAlarms_seated (t : Truck) : (openAlarms t).Pairwise seatedBefore := by
  cases hz : t.zone with
  | none => simp [openAlarms, hz]
  | some z =>
    rw [openAlarms_some hz]
    split_ifs <;> simp [seatedBefore, alarmEntry]

/-- The open alarms of trucks in ascending number stand in the order of the table and the seats. -/
theorem flatMap_openAlarms_seated {l : List Truck} (h : ascending Truck.num l) : (l.flatMap openAlarms).Pairwise seatedBefore := by
  refine List.pairwise_flatMap.mpr ⟨fun t _ => openAlarms_seated t,
    (List.pairwise_map.mp h).imp fun {a b} hab x hx y hy => Or.inl ?_⟩
  obtain ⟨-, -, -, hxa, -⟩ := (mem_openAlarms a x.1 x.2).mp hx
  obtain ⟨-, -, -, hyb, -⟩ := (mem_openAlarms b y.1 y.2).mp hy
  rw [hxa, hyb]
  exact hab

/-- The trucks whose alarms concern recipient `r`: the others under its serving site (R60). -/
def assisted (s : State) (r : Truck) (site : Nat) : List Truck :=
  s.trucks.filter fun t => t.num != r.num && servingOf s t == some site

theorem assistList_spec {s : State} (h : ascending Truck.num s.trucks) (r : Truck) :
    ∃ l : List (Nat × AssistEntry), assistList s r = (l.take 4).map Prod.snd ∧ l.Pairwise raisedBefore ∧
      ∀ raised y, (raised, y) ∈ l ↔ ∃ t ∈ s.trucks, t.num ≠ r.num ∧ r.zone.isSome = true ∧ servingOf s t = servingOf s r ∧
        (raised, y) ∈ openAlarms t := by
  cases hsite : servingOf s r with
  | none =>
    have hzone : r.zone = none := by simpa [servingOf] using hsite
    exact ⟨[], by simp [assistList, hsite], .nil, by simp [hzone]⟩
  | some site =>
    have hzone : r.zone.isSome = true := by
      unfold servingOf at hsite
      cases hz : r.zone <;> simp [hz] at hsite ⊢
    refine ⟨sortAlarms ((assisted s r site).flatMap openAlarms), by simp [assistList, hsite, assisted],
      sortAlarms_sorted (flatMap_openAlarms_seated (h.sublist (List.filter_sublist.map _))), fun raised y => ?_⟩
    rw [(sortAlarms_perm _).mem_iff]
    simp [assisted, hzone, and_assoc]

/-! ## The recomputation (R62) -/

theorem assistOne_some {s : State} {n : Nat} {t : Truck} (hk : truckOf s n = some t) {r : Rec}
    (hr : recFor t.queue .assist = some r) :
    assistOne s n = if assistList s t = [] then dropRec s n .assist
      else if r.content = .assist (assistList s t) then s else give s n (.assist (assistList s t)) := by
  simp only [assistOne, hk, hr, List.isEmpty_iff]

theorem assistOne_none {s : State} {n : Nat} {t : Truck} (hk : truckOf s n = some t)
    (hr : recFor t.queue .assist = none) :
    assistOne s n = if assistList s t = [] then s else give s n (.assist (assistList s t)) := by
  simp only [assistOne, hk, hr, List.isEmpty_iff]

theorem assistFor_eq (s : State) (n : Nat) :
    assistFor s n = match (truckOf s n).bind Truck.zone with
      | some z => if s.sup.console = .unattended then assistSite s (servingSite s z) else s
      | none => s := by
  unfold assistFor servingOf
  cases truckOf s n with
  | none => simp
  | some t => cases hz : t.zone <;> simp [hz]

/-! ## Entry into ALARM (R55) -/

/-- What an alarm raised does before the halts and the assist calls: the context, the notice, and the PROMPT ALARMED. -/
theorem enterAlarm_spec {s : State} {n : Nat} {t : Truck} (hk : truckOf s n = some t) (seat : Nat) (cause : AlarmCause) :
    let w := t.watch seat
    ∃ u t', enterAlarm s n seat cause = assistFor (if w.set.alarm = .reportOnly then u else haltForAlarm u n) n ∧
      truckOf u n = some t' ∧
      t' = ({ t with queue := t'.queue, seqCtr := t'.seqCtr }).withWatch seat (w.alarmed s.now cause) ∧
      Prompted t t' seat { seat := seat, kind := .alarmed, deadline := none, cause := some cause } ∧
      (∀ m, m ≠ n → truckOf u m = truckOf s m) ∧
      u = { posted s [.alarm n seat cause w.set.alarm t.zone (stampOpt s w.lastContact) (t.canTake (.prompt seat))] with
        trucks := u.trucks, askArb := u.askArb } := by
  intro w
  have hmod := (SeatState.start hk seat).mod (Watch.alarmed s.now cause)
  have hseat := hmod.post (.alarm n seat cause w.set.alarm t.zone (stampOpt s w.lastContact) (t.canTake (.prompt seat)))
  obtain ⟨t', htruck, hframe, hprompt⟩ := hseat.prompted
    (c := { seat := seat, kind := .alarmed, deadline := none, cause := some cause }) rfl
  refine ⟨_, t', ?_, htruck, hframe, hprompt, fun m hm => ?_, ?_⟩
  · rw [enterAlarm_eq hk, afterAlarm, hmod.canGive, stampOpt_of_keeps hmod.all]
  · rw [truckOf_give_ne _ _ hm, hseat.others m hm]
  · exact eq_of_keeps_trucksArb (hseat.keeps.to.trans (give_keeps _ n _))

section
variable {s : State} (h : Live s) {n seat : Nat} {t : Truck} (hk : truckOf s n = some t)
include h hk

theorem exec_warning : exec (.warning n seat) s =
    .next (if (t.watch seat).warnReached s.now = true then settleEvent (enterWarn s n seat) else s) := by
  change execWarning n seat s = _
  unfold execWarning
  rw [event_live _ h.1]
  simp only [watchOf_truck hk]
  split_ifs
  · rfl
  · rw [settleEvent_of_quiet h.2]

theorem exec_deadline : exec (.deadline n seat) s =
    .next (if (t.watch seat).deadlineReached s.now = true then
      settleEvent (enterAlarm s n seat (t.watch seat).set.timer.alarmCause) else s) := by
  change execDeadline n seat s = _
  unfold execDeadline
  rw [event_live _ h.1]
  simp only [watchOf_truck hk, deadlineAlarm]
  split_ifs
  · rfl
  · rw [settleEvent_of_quiet h.2]

end

/-- Settles O27: the warning and the deadline by their moments, the entry into ALARM, and the assist lists. -/
theorem warningAndDeadlineReached : Obligations.WarningAndDeadlineReached := by
  unfold Obligations.WarningAndDeadlineReached
  refine ⟨fun s n seat t h hk _ => ⟨?_, ?_, fun cause => enterAlarm_spec hk seat cause⟩, fun s r h => ?_,
    fun s n t hk => ?_, fun s site => rfl, assistFor_eq⟩
  · dsimp only
    by_cases hdue : (t.watch seat).state = .watch ∧ ∃ x, (t.watch seat).warnTime = some x ∧ x ≤ (s.now : Int)
    · obtain ⟨t', htruck, hframe, hprompt, hothers, heq⟩ := enterWarn_spec hk seat
      rw [if_pos hdue]
      exact ⟨_, t', by rw [exec_warning h hk, if_pos ((Watch.warnReached_iff _ _).mpr hdue)], rfl, htruck, hframe, hprompt,
        hothers, heq⟩
    · rw [if_neg hdue, exec_warning h hk, if_neg (mt (Watch.warnReached_iff _ _).mp hdue)]
  · dsimp only
    by_cases hdue : ((t.watch seat).state = .watch ∨ (t.watch seat).state = .warn) ∧
        ∃ d, (t.watch seat).deadline = some d ∧ d ≤ s.now
    · rw [if_pos hdue, exec_deadline h hk, if_pos ((Watch.deadlineReached_iff _ _).mpr hdue)]
      rfl
    · rw [if_neg hdue, exec_deadline h hk, if_neg (mt (Watch.deadlineReached_iff _ _).mp hdue)]
  · obtain ⟨l, hl, hsorted, hmem⟩ := assistList_spec h r
    refine ⟨l, hl, hsorted, fun raised y => (hmem raised y).trans ?_⟩
    simp only [mem_openAlarms]
    rfl
  · dsimp only
    cases hr : recFor t.queue .assist with
    | some r =>
      dsimp only
      rw [assistOne_some hk hr]
      split_ifs <;> rfl
    | none =>
      dsimp only
      rw [assistOne_none hk hr]
      split_ifs <;> rfl

end Sys2Proof.Machine

/-!
PROOFS. RETIRE_PERMIT (R86): the records, the slot, the references and the link of a permit that has ended.
-/
namespace Sys2Proof.Machine

-- The proofs are taken one after another: side by side they wait for each other in more threads than the check can hold.
set_option Elab.async false

/-- A PERMIT record that leaves, with the ANSWER it may move, leaves the records of other subjects (R118). -/
theorem recFor_afterLeaving_permit (q : List Rec) (n : Nat) :
    recFor (afterLeaving q (.permit n)) (.permit n) = none ∧
    ∀ x, x ≠ .permit n → x ≠ .answer n → recFor (afterLeaving q (.permit n)) x = recFor q x := by
  have hrest : ∀ x, recFor (without q (.permit n)) x = if x = .permit n then none else recFor q x := recFor_without q _
  unfold afterLeaving
  dsimp only
  split
  · split
    · rename_i a ha
      have hsubject : a.subject = .answer n := (recFor_some ha).1
      have hgone : recFor (without (without q (.permit n)) (.answer n)) a.subject = none := by
        rw [hsubject, recFor_without, if_pos rfl]
      have hmoved : ∀ x, x ≠ .answer n → recFor (behindRun (without (without q (.permit n)) (.answer n)) a) x =
          if x = .permit n then none else recFor q x := fun x hx => by
        rw [recFor_behindRun hgone, if_neg (hsubject ▸ hx), recFor_without, if_neg hx, hrest]
      exact ⟨(hmoved _ (by simp)).trans (if_pos rfl), fun x hx hx' => (hmoved x hx').trans (if_neg hx)⟩
    · exact ⟨(hrest _).trans (if_pos rfl), fun x hx _ => (hrest x).trans (if_neg hx)⟩
  · exact ⟨(hrest _).trans (if_pos rfl), fun x hx _ => (hrest x).trans (if_neg hx)⟩

/-! ## What retiring leaves -/

/-- The queue of a retired permit's holder. -/
def retiredQueue (q : List Rec) (n : Nat) : List Rec := without (afterLeaving q (.permit n)) (.answer n)

theorem recFor_retiredQueue (q : List Rec) (n : Nat) :
    recFor (retiredQueue q n) (.permit n) = none ∧ recFor (retiredQueue q n) (.answer n) = none ∧
      ∀ x, x ≠ .permit n → x ≠ .answer n → recFor (retiredQueue q n) x = recFor q x := by
  obtain ⟨hgone, hkept⟩ := recFor_afterLeaving_permit q n
  refine ⟨?_, ?_, fun x hx hx' => ?_⟩
  · rw [retiredQueue, recFor_without, if_neg (by simp), hgone]
  · rw [retiredQueue, recFor_without, if_pos rfl]
  · rw [retiredQueue, recFor_without, if_neg hx', hkept x hx hx']

/-- The link an order keeps to a permit, cleared (R86). -/
def clearOrderLink (s : State) : Option Nat → State
  | some m => modOrder s m fun o => { o with linked := none }
  | none => s

theorem clearOrderLink_keeps (s : State) (l : Option Nat) : Keeps [.orders] s (clearOrderLink s l) := by
  cases l with
  | none => exact .refl _ s
  | some m => exact modOrder_keeps s m _

theorem orderOf_clearOrderLink (s : State) (l : Option Nat) (m : Nat) :
    orderOf (clearOrderLink s l) m = (orderOf s m).map fun o => if l = some m then { o with linked := none } else o := by
  cases l with
  | none => simp [clearOrderLink]
  | some k =>
    rw [clearOrderLink, orderOf_modOrder s k m (fun o => { o with linked := none }) fun _ h => h]
    simp only [Option.some.injEq, eq_comm]

/-- The state with the permit's records and slot gone from its holder (R86). -/
def freedHolder (s : State) (p : Permit) : State :=
  freePermitSlot (dropRec (dropRec s p.holder (.permit p.num)) p.holder (.answer p.num)) p.holder p.num

theorem freedHolder_keeps (s : State) (p : Permit) : Keeps [.trucks] s (freedHolder s p) :=
  (dropRec_keeps s _ _).trans ((dropRec_keeps _ _ _).trans (freePermitSlot_keeps _ _ _))

theorem truckOf_freedHolder (s : State) (p : Permit) (m : Nat) :
    truckOf (freedHolder s p) m = (truckOf s m).map fun k => if m = p.holder then
      { k with queue := retiredQueue k.queue p.num, permitSlots := k.permitSlots.filter (· != p.num) } else k := by
  rw [freedHolder, truckOf_freePermitSlot, truckOf_dropRec, truckOf_dropRec, Option.map_map, Option.map_map]
  refine congrArg (Option.map · _) (funext fun k => ?_)
  by_cases hm : m = p.holder
  · simp only [Function.comp_apply, if_pos hm]
    rfl
  · simp only [Function.comp_apply, if_neg hm]

section
variable {s : State} (p : Permit)

theorem applyRetirePermit_eq : applyRetirePermit s p =
    { clearOrderLink (eachOf dropRef p.points (freedHolder s p)) p.linked with
      permits := eraseBy Permit.num p.num (clearOrderLink (eachOf dropRef p.points (freedHolder s p)) p.linked).permits } := by
  unfold applyRetirePermit clearOrderLink
  cases p.linked <;> rfl

theorem retired_keeps : Keeps [.trucks, .orders, .points] s (clearOrderLink (eachOf dropRef p.points (freedHolder s p)) p.linked) :=
  (freedHolder_keeps s p).to.trans ((eachOf_dropRef_keeps _ _).to.trans (clearOrderLink_keeps _ _).to)

theorem permitOf_applyRetirePermit (m : Nat) :
    permitOf (applyRetirePermit s p) m = if m = p.num then none else permitOf s m := by
  have hpermits := retired_keeps (s := s) p .permits (by decide)
  rw [applyRetirePermit_eq]
  refine (findBy_eraseBy p.num m _).trans ?_
  rw [show (clearOrderLink (eachOf dropRef p.points (freedHolder s p)) p.linked).permits = s.permits from hpermits]
  rfl

theorem pointOf_applyRetirePermit (m : Nat) :
    pointOf (applyRetirePermit s p) m = if m ∈ p.points then withoutRef (pointOf s m) else pointOf s m := by
  have hpoints : (applyRetirePermit s p).points = (eachOf dropRef p.points (freedHolder s p)).points := by
    rw [applyRetirePermit_eq]
    exact clearOrderLink_keeps _ p.linked .points (by decide)
  rw [pointOf, hpoints]
  exact (pointOf_eachOf_dropRef p.points_nodup _ m).trans (by rw [pointOf_of_keeps (freedHolder_keeps s p)])

theorem orderOf_applyRetirePermit (m : Nat) : orderOf (applyRetirePermit s p) m =
    (orderOf s m).map fun o => if p.linked = some m then { o with linked := none } else o := by
  rw [applyRetirePermit_eq]
  refine (orderOf_clearOrderLink _ p.linked m).trans ?_
  rw [orderOf_of_keeps (eachOf_dropRef_keeps _ _), orderOf_of_keeps (freedHolder_keeps s p)]

theorem truckOf_applyRetirePermit (m : Nat) :
    truckOf (applyRetirePermit s p) m = (truckOf s m).map fun k => if m = p.holder then
      { k with queue := retiredQueue k.queue p.num, permitSlots := k.permitSlots.filter (· != p.num) } else k := by
  have htrucks : (applyRetirePermit s p).trucks = (freedHolder s p).trucks := by
    rw [applyRetirePermit_eq]
    exact (clearOrderLink_keeps _ p.linked .trucks (by decide)).trans (eachOf_dropRef_keeps _ _ .trucks (by decide))
  exact (congrArg (findBy Truck.num m) htrucks).trans (truckOf_freedHolder s p m)

end

section
variable {s : State} (h : Ready s) (tag n : Nat)
include h

theorem retirePermit_notFound (hp : permitOf s n = none) : Refuses (.retirePermit tag n) s .notFound :=
  refuses_of_refuse h rfl rfl fun u hu => by simp only [retirePermit, permitOf_of_keeps hu, hp]

theorem retirePermit_wrongState {p : Permit} (hp : permitOf s n = some p) (hopen : p.state.isOpen = true) :
    Refuses (.retirePermit tag n) s .wrongState :=
  refuses_of_refuse h rfl rfl fun u hu => by simp only [retirePermit, permitOf_of_keeps hu, hp, hopen, if_true]

theorem exec_retirePermit {p : Permit} (hp : permitOf s n = some p) (hended : p.state.isOpen = false) :
    exec (.retirePermit tag n) s = .next (applyRetirePermit (answered s 0x15 tag .ok .none) p) :=
  request_carried_quiet (f := retirePermit n) (g := (applyRetirePermit · p)) h
    (fun u hu => by simp only [retirePermit, permitOf_of_keeps hu, hp, hended, Bool.false_eq_true, if_false])
    fun u => applyRetirePermit_keeps u p .askArb (by decide)

end

theorem PermitState.isOpen_iff (x : PermitState) : x.isOpen = true ↔ x ≠ .closed ∧ x ≠ .cancelled := by
  cases x <;> decide

/-- Two states that agree outside trucks, orders, permits and points. -/
theorem eq_of_keeps_tables {s v : State} (h : Keeps [.trucks, .orders, .permits, .points] s v) :
    v = { s with trucks := v.trucks, permits := v.permits, points := v.points, orders := v.orders } := by
  obtain ⟨⟩ := v
  simp only [State.mk.injEq, true_and]
  exact ⟨h .clock (by decide), h .held (by decide), h .port (by decide), h .sup (by decide), h .asks (by decide),
    h .timeouts (by decide), h .air (by decide), h .sites (by decide), h .policy (by decide), h .graces (by decide),
    h .load (by decide), h .askArb (by decide), h .choices (by decide), h .pending (by decide)⟩

/-- Settles O33: the retired permit is gone from every table it stood in. -/
theorem retirePermitFreesPoints : Obligations.RetirePermitFreesPoints := by
  unfold Obligations.RetirePermitFreesPoints
  intro s tag n h
  dsimp only
  cases hp : permitOf s n with
  | none => exact retirePermit_notFound h tag n hp
  | some p =>
    dsimp only
    by_cases hopen : p.state ≠ .closed ∧ p.state ≠ .cancelled
    · rw [if_pos hopen]
      exact retirePermit_wrongState h tag n hp ((PermitState.isOpen_iff _).mpr hopen)
    rw [if_neg hopen]
    have hended : p.state.isOpen = false := Bool.eq_false_iff.mpr (mt (PermitState.isOpen_iff _).mp hopen)
    obtain rfl : p.num = n := (findBy_some hp).1
    have hkeeps := answered_keeps s 0x15 tag .ok .none
    refine ⟨_, exec_retirePermit h tag _ hp hended, ?_, fun m hm => ?_, fun m q hm hq => ?_, fun m hm => ?_, fun m hm => ?_,
      fun m hm => ?_, fun m hm => ?_, fun k hk => ?_, eq_of_keeps_tables (applyRetirePermit_keeps _ p)⟩
    · rw [permitOf_applyRetirePermit, if_pos rfl]
    · rw [permitOf_applyRetirePermit, if_neg hm, permitOf_of_keeps hkeeps]
    · rw [pointOf_applyRetirePermit, if_pos hm, pointOf_of_keeps hkeeps, hq]
      rfl
    · rw [pointOf_applyRetirePermit, if_neg hm, pointOf_of_keeps hkeeps]
    · rw [orderOf_applyRetirePermit, orderOf_of_keeps hkeeps]
      simp only [hm, if_true]
    · rw [orderOf_applyRetirePermit, orderOf_of_keeps hkeeps]
      simp only [hm, if_false, Option.map_id']
    · rw [truckOf_applyRetirePermit, truckOf_of_keeps hkeeps]
      simp only [hm, if_false, Option.map_id']
    · refine ⟨_, by rw [truckOf_applyRetirePermit, truckOf_of_keeps hkeeps, hk, Option.map_some, if_pos rfl], rfl,
        recFor_retiredQueue k.queue p.num⟩

end Sys2Proof.Machine

/-!
PROOFS. ISSUE_PERMIT (R70 to R72): its checks, the issue of a LOADED permit, and its record sent again.
-/
namespace Sys2Proof.Machine

-- The proofs are taken one after another: side by side they wait for each other in more threads than the check can hold.
set_option Elab.async false

/-! ## The content of a PERMIT record (R72) -/

theorem named_getElem? (k n : Nat) (l : List StepRec) (i : Nat) :
    (named k n l)[i]? = l[i]?.map fun x => ({ list := k, num := n + i }, x) := by
  induction l generalizing n i with
  | nil => rfl
  | cons x l ih =>
    cases i with
    | zero => rfl
    | succ i =>
      simp only [named, List.getElem?_cons_succ, ih]
      rw [Nat.add_right_comm, Nat.add_assoc]

theorem named_length (k n : Nat) (l : List StepRec) : (named k n l).length = l.length := by
  induction l generalizing n with
  | nil => rfl
  | cons x l ih => simp only [named, List.length_cons, ih]

theorem Permit.steps_length (p : Permit) : p.steps.length = p.iso.length + p.rest.length := by
  rw [Permit.steps, List.length_append, named_length, named_length]

/-- The steps of the isolate list stand ahead of those of the restore list, each under its name. -/
theorem Permit.steps_getElem? {p : Permit} {restore : Bool} {i : Nat} {x : StepRec}
    (hx : (if restore then p.rest else p.iso)[i]? = some x) :
    p.steps[if restore then p.iso.length + i else i]? = some ({ list := if restore then 1 else 0, num := i + 1 }, x) := by
  cases restore with
  | false =>
    have hlt : i < p.iso.length := (List.getElem?_eq_some_iff.mp hx).1
    have hi : p.iso[i]? = some x := hx
    simp only [Permit.steps, Bool.false_eq_true, if_false]
    rw [List.getElem?_append_left (by rw [named_length]; exact hlt), named_getElem?, hi, Nat.add_comm]
    rfl
  | true =>
    have hi : p.rest[i]? = some x := hx
    simp only [Permit.steps, if_true]
    rw [List.getElem?_append_right (by rw [named_length]; omega), named_length, Nat.add_sub_cancel_left, named_getElem?, hi,
      Nat.add_comm]
    rfl

/-! ## The checks (R70) -/

theorem orderMatches_eq_false (s : State) (p : Permit) :
    orderMatches s p = false ↔ (p.linked.any fun m => !((orderOf s m).any fun o =>
      o.assigned == some p.holder && (o.state == .accepted || o.state == .enRoute || o.state == .onSite))) = true := by
  have htaken : ∀ x : OrderState, x.isTaken = (x == .accepted || x == .enRoute || x == .onSite) := by
    intro x
    cases x <;> rfl
  unfold orderMatches
  cases p.linked with
  | none => simp
  | some m =>
    cases ho : orderOf s m with
    | none => simp [ho]
    | some o =>
      simp only [ho, htaken, Option.any_some, Bool.and_eq_false_iff, Bool.not_eq_true']

theorem issueChecks_of_keeps {s u : State} (hu : Keeps [.sup, .port] s u) (p : Permit) : issueChecks u p = issueChecks s p := by
  have htrucks : truckOf u = truckOf s := funext (truckOf_of_keeps hu)
  have horders : orderOf u = orderOf s := funext (orderOf_of_keeps hu)
  unfold issueChecks orderMatches
  rw [htrucks, horders]

section
variable {s : State} {p : Permit}

theorem issueChecks_wrongState (h : p.state ≠ .loaded ∧ p.state ≠ .issued) : issueChecks s p = some .wrongState := if_pos h

variable (h : ¬(p.state ≠ .loaded ∧ p.state ≠ .issued))
include h

theorem issueChecks_notFound (hk : truckOf s p.holder = none) : issueChecks s p = some .notFound := by
  rw [issueChecks, if_neg h, hk]

/-- With the holder in the table, the last three checks in their order. -/
theorem issueChecks_held {k : Truck} (hk : truckOf s p.holder = some k) :
    issueChecks s p = if orderMatches s p = false then some .orderMismatch
      else if p.state = .loaded ∧ 2 ≤ k.permitSlots.length then some .limit
      else if k.canTake (.permit p.num) = false then some .queueFull else none := by
  rw [issueChecks, if_neg h, hk]

end

/-! ## The effects (R70, R71) -/

/-- A permit as ISSUE_PERMIT leaves it: a LOADED one issued now. -/
def Permit.issuedAt (p : Permit) (now : Nat) : Permit :=
  if p.state = .loaded then { p with state := .issued, issueTime := some now } else p

/-- The state before the record is sent: a LOADED permit has its slot and its state. -/
def issuing (s : State) (p : Permit) : State :=
  if p.state = .loaded then
    modPermit (takePermitSlot s p.holder p.num) p.num fun p => { p with state := .issued, issueTime := some s.now }
  else s

/-- The slots of the holder then. -/
def issuedSlots (l : List Nat) (p : Permit) : List Nat := if p.state = .loaded ∧ p.num ∉ l then l ++ [p.num] else l

theorem issuing_keeps (s : State) (p : Permit) : Keeps [.trucks, .permits] s (issuing s p) := by
  unfold issuing
  split_ifs
  · exact (takePermitSlot_keeps _ _ _).to.trans (modPermit_keeps _ _ _).to
  · exact .refl _ s

theorem truckOf_takePermitSlot (s : State) (t n m : Nat) :
    truckOf (takePermitSlot s t n) m = (truckOf s m).map fun k =>
      if m = t then { k with permitSlots := if n ∉ k.permitSlots then k.permitSlots ++ [n] else k.permitSlots } else k := by
  refine (truckOf_modTruck s t m _ fun k hk => ?_).trans (congrArg (Option.map · _) (funext fun k => ?_))
  · split_ifs <;> exact hk
  · by_cases hm : m = t
    · rw [if_pos hm, if_pos hm]
      by_cases hn : n ∈ k.permitSlots
      · rw [if_pos (by simpa using hn), if_neg (not_not_intro hn)]
      · rw [if_neg (by simpa using hn), if_pos hn]
    · rw [if_neg hm, if_neg hm]

theorem truckOf_issuing (s : State) (p : Permit) (m : Nat) :
    truckOf (issuing s p) m = (truckOf s m).map fun k =>
      if m = p.holder then { k with permitSlots := issuedSlots k.permitSlots p } else k := by
  unfold issuing issuedSlots
  by_cases hloaded : p.state = .loaded
  · rw [if_pos hloaded, truckOf_of_keeps (modPermit_keeps _ _ _), truckOf_takePermitSlot]
    simp only [hloaded, true_and]
  · rw [if_neg hloaded]
    simp only [hloaded, false_and, if_false, ite_self, Option.map_id']

theorem permitOf_issuing {s : State} {p : Permit} (hp : permitOf s p.num = some p) (m : Nat) :
    permitOf (issuing s p) m = if m = p.num then some (p.issuedAt s.now) else permitOf s m := by
  unfold issuing Permit.issuedAt
  by_cases hloaded : p.state = .loaded
  · rw [if_pos hloaded, if_pos hloaded, permitOf_modPermit _ p.num m
      (fun p => { p with state := .issued, issueTime := some s.now }) fun _ h => h, permitOf_of_keeps (takePermitSlot_keeps _ _ _)]
    by_cases hm : m = p.num
    · rw [if_pos hm, hm, hp, Option.map_some, if_pos rfl]
    · simp only [if_neg hm, Option.map_id']
  · rw [if_neg hloaded, if_neg hloaded]
    by_cases hm : m = p.num
    · rw [if_pos hm, hm, hp]
    · rw [if_neg hm]

theorem Permit.issuedAt_kept (p : Permit) (now : Nat) :
    (p.issuedAt now).num = p.num ∧ (p.issuedAt now).holder = p.holder ∧ (p.issuedAt now).linked = p.linked ∧
      (p.issuedAt now).causes = p.causes := by
  unfold Permit.issuedAt
  split_ifs <;> exact ⟨rfl, rfl, rfl, rfl⟩

/-- The effects: the record as the permit then stands, and the notice of an issue. -/
theorem applyIssue_eq {s : State} {p : Permit} (hp : permitOf s p.num = some p) :
    applyIssue s p = posted (give (issuing s p) p.holder (.permit (permitContent (p.issuedAt s.now))))
      (if p.state = .loaded then [.permitState p.num .issued p.holder p.linked p.causes] else []) := by
  have hissued : permitOf (issuing s p) p.num = some (p.issuedAt s.now) := (permitOf_issuing hp p.num).trans (if_pos rfl)
  obtain ⟨-, hholder, hlinked, hcauses⟩ := p.issuedAt_kept s.now
  by_cases hloaded : p.state = .loaded
  · have happly : applyIssue s p = postPermitState (givePermit (issuing s p) p.num) p.num := by
      rw [applyIssue, if_pos hloaded, issuing, if_pos hloaded]
    have hstate : (p.issuedAt s.now).state = .issued := by rw [Permit.issuedAt, if_pos hloaded]
    rw [happly, announce_eq hissued, hstate, hholder, hlinked, hcauses, if_pos hloaded]
    rfl
  · have happly : applyIssue s p = givePermit (issuing s p) p.num := by
      rw [applyIssue, if_neg hloaded, issuing, if_neg hloaded]
    rw [happly, givePermit_eq hissued, hholder, if_neg hloaded]
    rfl

/-- Notices posted over two states that agree leave them so. -/
theorem Keeps.posted {l : List Field} {s u : State} (h : Keeps l s u) (b : List NoticeBody)
    (hl : .port ∉ l ∧ .sup ∉ l ∧ .clock ∉ l := by decide) : Keeps l (posted s b) (posted u b) := by
  induction b generalizing s u with
  | nil => exact h
  | cons x b ih => exact ih (h.post x hl)

/-- What the effects leave: permits, trucks, and nothing else. -/
theorem applyIssue_spec {s : State} {p : Permit} (hp : permitOf s p.num = some p) {k : Truck}
    (hk : truckOf s p.holder = some k) (hroom : (recFor k.queue (.permit p.num)).isSome = true ∨ k.queue.length < 12) :
    ∃ p' k' r, permitOf (applyIssue s p) p.num = some p' ∧
      (∀ m, m ≠ p.num → permitOf (applyIssue s p) m = permitOf s m) ∧ p' = p.issuedAt s.now ∧
      truckOf (applyIssue s p) p.holder = some k' ∧
      (∀ m, m ≠ p.holder → truckOf (applyIssue s p) m = truckOf s m) ∧
      k' = { k with queue := k'.queue, seqCtr := k'.seqCtr, permitSlots := k'.permitSlots } ∧
      k'.permitSlots = issuedSlots k.permitSlots p ∧ recFor k'.queue (.permit p.num) = some r ∧
      r.content = .permit (permitContent p') ∧ r.attempts = 0 ∧ r.inFlight = false ∧
      (∀ x, x ≠ .permit p.num → recFor k'.queue x = recFor k.queue x) ∧
      applyIssue s p = { posted s
          (if p.state = .loaded then [.permitState p.num .issued p.holder p.linked p.causes] else []) with
        permits := (applyIssue s p).permits, trucks := (applyIssue s p).trucks, askArb := (applyIssue s p).askArb } := by
  let c := permitContent (p.issuedAt s.now)
  let l : List NoticeBody := if p.state = .loaded then [.permitState p.num .issued p.holder p.linked p.causes] else []
  have hnum : c.num = p.num := (p.issuedAt_kept s.now).1
  have hissuing : truckOf (issuing s p) p.holder = some { k with permitSlots := issuedSlots k.permitSlots p } := by
    rw [truckOf_issuing, hk, Option.map_some, if_pos rfl]
  obtain ⟨k', r, htruck, hframe, hrec, hcontent, hattempts, hflight, hothers⟩ :=
    truckOf_give_permit (c := c) hissuing (hnum ▸ hroom)
  have hposted := posted_keeps (give (issuing s p) p.holder (.permit c)) l
  have hgiven := give_keeps (issuing s p) p.holder (.permit c)
  rw [hnum] at hrec hothers
  rw [applyIssue_eq hp]
  refine ⟨_, k', r, ?_, fun m hm => ?_, rfl, (truckOf_of_keeps hposted _).trans htruck, fun m hm => ?_, ?_, ?_, hrec, hcontent,
    hattempts, hflight, hothers, ?_⟩
  · rw [permitOf_of_keeps hposted, permitOf_of_keeps hgiven, permitOf_issuing hp, if_pos rfl]
  · rw [permitOf_of_keeps hposted, permitOf_of_keeps hgiven, permitOf_issuing hp, if_neg hm]
  · rw [truckOf_of_keeps hposted, truckOf_give_ne _ _ hm, truckOf_issuing]
    simp only [if_neg hm, Option.map_id']
  · rw [hframe]
  · rw [hframe]
  · exact eq_of_keeps_permitsTrucks (Keeps.posted ((issuing_keeps s p).to.trans hgiven.to) l)

section
variable {s : State} (h : Ready s) (tag n : Nat)
include h

theorem issuePermit_notFound (hp : permitOf s n = none) : Refuses (.issuePermit tag n) s .notFound :=
  refuses_of_refuse h rfl rfl fun u hu => by simp only [issuePermit, permitOf_of_keeps hu, hp]

theorem issuePermit_refused {p : Permit} (hp : permitOf s n = some p) {c : Result} (hc : issueChecks s p = some c) :
    Refuses (.issuePermit tag n) s c :=
  refuses_of_refuse h rfl rfl fun u hu => by simp only [issuePermit, permitOf_of_keeps hu, hp, issueChecks_of_keeps hu, hc]

theorem exec_issuePermit {p : Permit} (hp : permitOf s n = some p) (hc : issueChecks s p = none) :
    exec (.issuePermit tag n) s = .next (settleEvent (applyIssue (answered s 0x11 tag .ok .none) p)) :=
  request_carried (f := issuePermit n) (g := (applyIssue · p)) h fun u hu => by
    simp only [issuePermit, permitOf_of_keeps hu, hp, issueChecks_of_keeps hu, hc]

end

/-- Settles O29: the record's content, and ISSUE_PERMIT by its checks and its effects. -/
theorem issuePermitSendsRecord : Obligations.IssuePermitSendsRecord := by
  unfold Obligations.IssuePermitSendsRecord
  refine ⟨fun p => ⟨_, rfl, ?_, fun restore i x hx => ?_⟩, fun s n => ⟨rfl, rfl⟩, fun s tag n h => ?_⟩
  · rw [List.length_map, Permit.steps_length]
  · rw [List.getElem?_map, Permit.steps_getElem? hx]
    rfl
  dsimp only
  cases hp : permitOf s n with
  | none => exact issuePermit_notFound h tag n hp
  | some p =>
    dsimp only
    obtain rfl : p.num = n := (findBy_some hp).1
    by_cases hstate : p.state ≠ .loaded ∧ p.state ≠ .issued
    · rw [if_pos hstate]
      exact issuePermit_refused h tag _ hp (issueChecks_wrongState hstate)
    rw [if_neg hstate]
    cases hk : truckOf s p.holder with
    | none => exact issuePermit_refused h tag _ hp (issueChecks_notFound hstate hk)
    | some k =>
      have hchecks := issueChecks_held hstate hk
      simp only [orderMatches_eq_false, Truck.canTake_eq_false] at hchecks
      dsimp only
      by_cases hmatch : (p.linked.any fun m => !((orderOf s m).any fun o =>
          o.assigned == some p.holder && (o.state == .accepted || o.state == .enRoute || o.state == .onSite))) = true
      · rw [if_pos hmatch] at hchecks ⊢
        exact issuePermit_refused h tag _ hp hchecks
      rw [if_neg hmatch] at hchecks ⊢
      by_cases hslot : p.state = .loaded ∧ 2 ≤ k.permitSlots.length
      · rw [if_pos hslot] at hchecks ⊢
        exact issuePermit_refused h tag _ hp hchecks
      rw [if_neg hslot] at hchecks ⊢
      by_cases hqueue : (recFor k.queue (.permit p.num)).isNone = true ∧ 12 ≤ k.queue.length
      · rw [if_pos hqueue] at hchecks ⊢
        exact issuePermit_refused h tag _ hp hchecks
      rw [if_neg hqueue] at hchecks ⊢
      have hkeeps := answered_keeps s 0x11 tag .ok .none
      have hroom : (recFor k.queue (.permit p.num)).isSome = true ∨ k.queue.length < 12 := by
        cases hr : recFor k.queue (.permit p.num) <;> simp [hr] at hqueue ⊢
        exact hqueue
      obtain ⟨p', k', r, hpermit, hpermits, hp', htruck, htrucks, hframe, hslots, hrec, hcontent, hattempts, hflight, hkept,
        heq⟩ := applyIssue_spec ((permitOf_of_keeps hkeeps).symm ▸ hp) ((truckOf_of_keeps hkeeps _).trans hk) hroom
      refine ⟨_, p', k', r, exec_issuePermit h tag _ hp hchecks, hpermit, fun m hm => ?_, ?_, htruck, fun m hm => ?_, hframe,
        hslots, hrec, hcontent, hattempts, hflight, hkept, heq⟩
      · rw [hpermits m hm, permitOf_of_keeps hkeeps]
      · rw [hp', answered_now]
        rfl
      · rw [htrucks m hm, truckOf_of_keeps hkeeps]

end Sys2Proof.Machine

/-!
PROOFS. RESUME_PERMIT (R80, R84): the latched causes taken out of a permit's set one after another.
-/
namespace Sys2Proof.Machine

-- The proofs are taken one after another: side by side they wait for each other in more threads than the check can hold.
set_option Elab.async false

theorem Causes.put_of_not_has {c : Causes} {x : Cause} (h : c.has x = false) : c.put false x = c := by
  obtain ⟨host, alarm, mismatch, conflict, site⟩ := c
  cases x <;> simp_all [Causes.has, Causes.put]

theorem Causes.resumed_of_not_latched {c : Causes} (h : c.latched = false) : c.resumed = c := by
  obtain ⟨host, alarm, mismatch, conflict, site⟩ := c
  simp_all [Causes.latched, Causes.resumed, Causes.none]

/-- `u` is `s` with the notices `l` posted and the causes of permit `n`, which is `p` in `s`, put to `set`. -/
structure CauseState (s : State) (n : Nat) (p : Permit) (u : State) (set : Causes) (l : List NoticeBody) : Prop where
  permit : permitOf u n = some { p with causes := set }
  others : ∀ m, m ≠ n → permitOf u m = permitOf s m
  keeps : Keeps [.permits] (posted s l) u

section
variable {s : State} {n : Nat} {p : Permit} {u : State} {set : Causes} {l : List NoticeBody}

theorem CauseState.start (hp : permitOf s n = some p) : CauseState s n p s p.causes [] := ⟨hp, fun _ _ => rfl, .refl _ s⟩

variable (h : CauseState s n p u set l)
include h

theorem CauseState.all : Keeps [.permits, .port] s u := (posted_keeps s l).to.trans h.keeps.to

theorem CauseState.put (set' : Causes) (b : NoticeBody) :
    CauseState s n p (post (modPermit u n fun x => { x with causes := set' }) b) set' (l ++ [b]) where
  permit := by
    rw [permitOf_of_keeps (post_keeps _ b), permitOf_modPermit u n n (fun x => { x with causes := set' }) fun _ h => h,
      h.permit, Option.map_some, if_pos rfl]
  others m hm := by
    rw [permitOf_of_keeps (post_keeps _ b), permitOf_modPermit u n m (fun x => { x with causes := set' }) fun _ h => h]
    simp only [if_neg hm, Option.map_id', h.others m hm]
  keeps := by
    rw [posted_append]
    exact (h.keeps.trans (modPermit_keeps u n _)).post b

theorem CauseState.drop (c : Cause) : CauseState s n p (dropCause u n c) (set.put false c)
    (l ++ if set.has c = true then [.permitHalt n p.holder c false (set.put false c)] else []) := by
  unfold dropCause
  rw [h.permit]
  by_cases hc : set.has c = true
  · simp only [hc, if_true]
    exact h.put _ _
  · simp only [hc, if_false, List.append_nil, Bool.false_eq_true, Causes.put_of_not_has (Bool.eq_false_iff.mpr hc)]
    exact h

end

/-- The notices of the latched causes removed, in their order (R84). -/
def resumeNotices (n : Nat) (p : Permit) : List NoticeBody :=
  (if p.causes.host then [.permitHalt n p.holder .host false { p.causes with host := false }] else []) ++
  (if p.causes.alarm then [.permitHalt n p.holder .alarm false { p.causes with host := false, alarm := false }] else []) ++
  (if p.causes.mismatch then
    [.permitHalt n p.holder .mismatch false { p.causes with host := false, alarm := false, mismatch := false }] else []) ++
  (if p.causes.conflict then [.permitHalt n p.holder .conflict false p.causes.resumed] else [])

/-- The state with the causes removed and the record not yet brought up to date. -/
def unlatched (s : State) (p : Permit) : State :=
  dropCause (dropCause (dropCause (dropCause s p.num .host) p.num .alarm) p.num .mismatch) p.num .conflict

theorem unlatched_spec {s : State} {p : Permit} (hp : permitOf s p.num = some p) :
    CauseState s p.num p (unlatched s p) p.causes.resumed (resumeNotices p.num p) :=
  ((((CauseState.start hp).drop .host).drop .alarm).drop .mismatch).drop .conflict

theorem applyResume_idle (s : State) {p : Permit} (h : p.causes.latched = false) : applyResume s p = s := by
  rw [applyResume, if_neg (by simp [h])]

section
variable {s : State} {p : Permit} (hp : permitOf s p.num = some p)
include hp

theorem applyResume_latched (h : p.causes.latched = true) :
    applyResume s p = if p.issueTime.isSome = true then
        give (unlatched s p) p.holder (.permit (permitContent { p with causes := p.causes.resumed }))
      else unlatched s p := by
  have hpermit := (unlatched_spec hp).permit
  rw [applyResume, if_pos h]
  change afterDrop (unlatched s p) p.num = _
  simp only [afterDrop, hpermit, Permit.issued, givePermit_eq hpermit]

/-- The causes and notices of a resumption, and what it leaves of trucks (R84). -/
theorem applyResume_spec :
    permitOf (applyResume s p) p.num = some { p with causes := p.causes.resumed } ∧
      (∀ m, m ≠ p.num → permitOf (applyResume s p) m = permitOf s m) ∧
      (∀ m, m ≠ p.holder → truckOf (applyResume s p) m = truckOf s m) ∧
      applyResume s p = { posted s (resumeNotices p.num p) with
        permits := (applyResume s p).permits, trucks := (applyResume s p).trucks, askArb := (applyResume s p).askArb } := by
  have hunlatched := unlatched_spec hp
  have hgiven := give_keeps (unlatched s p) p.holder (.permit (permitContent { p with causes := p.causes.resumed }))
  by_cases hlatched : p.causes.latched = true
  · rw [applyResume_latched hp hlatched]
    by_cases hissued : p.issueTime.isSome = true
    · rw [if_pos hissued]
      refine ⟨(congrFun (permitOf_of_keeps hgiven) _).trans hunlatched.permit, fun m hm => ?_, fun m hm => ?_,
        eq_of_keeps_permitsTrucks (hunlatched.keeps.to.trans hgiven.to)⟩
      · rw [permitOf_of_keeps hgiven, hunlatched.others m hm]
      · rw [truckOf_give_ne _ _ hm, truckOf_of_keeps hunlatched.all]
    · rw [if_neg hissued]
      exact ⟨hunlatched.permit, hunlatched.others, fun m _ => truckOf_of_keeps hunlatched.all m,
        eq_of_keeps_permitsTrucks hunlatched.keeps.to⟩
  · have hnone : p.causes.host = false ∧ p.causes.alarm = false ∧ p.causes.mismatch = false ∧ p.causes.conflict = false := by
      simpa [Causes.latched, and_assoc] using hlatched
    obtain ⟨hhost, halarm, hmismatch, hconflict⟩ := hnone
    have hidle := Bool.eq_false_iff.mpr hlatched
    rw [applyResume_idle s hidle, Causes.resumed_of_not_latched hidle]
    refine ⟨hp, fun _ _ => rfl, fun _ _ => rfl, ?_⟩
    simp only [resumeNotices, hhost, halarm, hmismatch, hconflict, Bool.false_eq_true, if_false]
    rfl

/-- Where the permit has not been issued, and where the holder's queue has no room, no truck changes (R72). -/
theorem applyResume_trucks (h : p.issueTime = none ∨ canGive s p.holder (.permit p.num) = false) :
    (applyResume s p).trucks = s.trucks := by
  have hunlatched := unlatched_spec hp
  have htrucks : (unlatched s p).trucks = s.trucks := hunlatched.all .trucks (by decide)
  by_cases hlatched : p.causes.latched = true
  · rw [applyResume_latched hp hlatched]
    by_cases hissued : p.issueTime.isSome = true
    · have hfull : canGive (unlatched s p) p.holder (.permit p.num) = false := by
        rw [canGive_of_keeps hunlatched.all]
        exact h.resolve_left fun hnone => by simp [hnone] at hissued
      rw [if_pos hissued, give_refused hfull]
      exact htrucks
    · rw [if_neg hissued]
      exact htrucks
  · rw [applyResume_idle s (Bool.eq_false_iff.mpr hlatched)]

/-- An issued permit's record shows its set where there is room (R72, R80). -/
theorem applyResume_record (hissued : p.issueTime.isSome = true) (hlatched : p.causes.latched = true) {k : Truck}
    (hk : truckOf s p.holder = some k) (hroom : (recFor k.queue (.permit p.num)).isSome = true ∨ k.queue.length < 12) :
    ∃ k' r, truckOf (applyResume s p) p.holder = some k' ∧ k' = { k with queue := k'.queue, seqCtr := k'.seqCtr } ∧
      recFor k'.queue (.permit p.num) = some r ∧
      r.content = .permit (permitContent { p with causes := p.causes.resumed }) ∧
      ∀ y, y ≠ .permit p.num → recFor k'.queue y = recFor k.queue y := by
  have hheld := (truckOf_of_keeps (unlatched_spec hp).all p.holder).trans hk
  obtain ⟨k', r, htruck, hframe, hrec, hcontent, -, -, hkept⟩ :=
    truckOf_give_permit (c := permitContent { p with causes := p.causes.resumed }) hheld hroom
  rw [applyResume_latched hp hlatched, if_pos hissued]
  exact ⟨k', r, htruck, hframe, hrec, hcontent, hkept⟩

end

/-! ## RESUME_PERMIT (R84) -/

theorem any_blocked_eq (x : Option Truck) : x.any Truck.blocked = x.any fun k =>
    (k.w1.state == .alarm && k.w1.set.alarm != .reportOnly) || (k.w2.state == .alarm && k.w2.set.alarm != .reportOnly) := rfl

theorem stillConflict_eq (s : State) (n : Nat) : stillConflict s n =
    s.points.any fun q => q.holds.any fun h => h.permit == n && h.position != q.position := rfl

theorem PermitState.isOpen_eq_false (x : PermitState) : x.isOpen = false ↔ x = .closed ∨ x = .cancelled := by
  cases x <;> decide

theorem stillConflict_of_keeps {s u : State} (hu : Keeps [.sup, .port] s u) (n : Nat) :
    stillConflict u n = stillConflict s n := by
  have hpoints : u.points = s.points := hu .points (by decide)
  unfold stillConflict
  rw [hpoints]

section
variable {s : State} (h : Ready s) (tag n : Nat)
include h

theorem resumePermit_notFound (hp : permitOf s n = none) : Refuses (.resumePermit tag n) s .notFound :=
  refuses_of_refuse h rfl rfl fun u hu => by simp only [resumePermit, permitOf_of_keeps hu, hp]

variable {p : Permit} (hp : permitOf s n = some p)
include hp

theorem resumePermit_wrongState (hended : p.state.isOpen = false) : Refuses (.resumePermit tag n) s .wrongState :=
  refuses_of_refuse h rfl rfl fun u hu => by simp only [resumePermit, permitOf_of_keeps hu, hp, hended, if_true]

variable (hopen : p.state.isOpen = true)
include hopen

theorem resumePermit_stillAlarm (hblocked : (truckOf s p.holder).any Truck.blocked = true) :
    Refuses (.resumePermit tag n) s .stillAlarm :=
  refuses_of_refuse h rfl rfl fun u hu => by
    simp only [resumePermit, permitOf_of_keeps hu, hp, hopen, truckOf_of_keeps hu, hblocked, if_true, Bool.true_eq_false,
      if_false]

variable (hfree : ¬(truckOf s p.holder).any Truck.blocked = true)
include hfree

theorem resumePermit_stillConflict (hconflict : stillConflict s n = true) :
    Refuses (.resumePermit tag n) s .stillConflict :=
  refuses_of_refuse h rfl rfl fun u hu => by
    simp only [resumePermit, permitOf_of_keeps hu, hp, hopen, truckOf_of_keeps hu, hfree, stillConflict_of_keeps hu,
      hconflict, if_true, Bool.true_eq_false, if_false, Bool.false_eq_true]

theorem exec_resumePermit (hagree : ¬stillConflict s n = true) :
    exec (.resumePermit tag n) s =
      .next (settleEvent (applyResume (answered s 0x13 tag .ok (.causes p.causes.resumed)) p)) :=
  request_carried (f := resumePermit n) (g := (applyResume · p)) h fun u hu => by
    simp only [resumePermit, permitOf_of_keeps hu, hp, hopen, truckOf_of_keeps hu, hfree, stillConflict_of_keeps hu,
      hagree, Bool.true_eq_false, if_false, Bool.false_eq_true]

end

/-- Settles O31: the checks, and the latched causes removed in their order. -/
theorem resumePermitRemovesLatchedCauses : Obligations.ResumePermitRemovesLatchedCauses := by
  unfold Obligations.ResumePermitRemovesLatchedCauses
  intro s tag n h
  dsimp only
  cases hp : permitOf s n with
  | none => exact resumePermit_notFound h tag n hp
  | some p =>
    obtain rfl : p.num = n := (findBy_some hp).1
    dsimp only
    by_cases hended : p.state = .closed ∨ p.state = .cancelled
    · rw [if_pos hended]
      exact resumePermit_wrongState h tag _ hp ((PermitState.isOpen_eq_false _).mpr hended)
    have hopen : p.state.isOpen = true := by
      rw [← Bool.not_eq_false]
      exact mt (PermitState.isOpen_eq_false _).mp hended
    rw [if_neg hended, ← any_blocked_eq, ← stillConflict_eq]
    by_cases hblocked : (truckOf s p.holder).any Truck.blocked = true
    · rw [if_pos hblocked]
      exact resumePermit_stillAlarm h tag _ hp hopen hblocked
    rw [if_neg hblocked]
    by_cases hconflict : stillConflict s p.num = true
    · rw [if_pos hconflict]
      exact resumePermit_stillConflict h tag _ hp hopen hblocked hconflict
    rw [if_neg hconflict]
    let a := answered s 0x13 tag .ok (.causes p.causes.resumed)
    have hkeeps : Keeps [.sup, .port] s a := answered_keeps s 0x13 tag .ok _
    have hpa : permitOf a p.num = some p := (congrFun (permitOf_of_keeps hkeeps) _).trans hp
    obtain ⟨hpermit, hpermits, htrucks, heq⟩ := applyResume_spec hpa
    refine ⟨_, exec_resumePermit h tag _ hp hopen hblocked hconflict, hpermit, fun m hm => ?_,
      fun hhost halarm hmismatch hlast => ?_, fun m hm => ?_, fun hnone => ?_, fun k hk hrec hfull => ?_,
      fun k hissued hlatched hk hroom => ?_, heq⟩
    · rw [hpermits m hm, permitOf_of_keeps hkeeps]
    · exact applyResume_idle a (by simp [Causes.latched, hhost, halarm, hmismatch, hlast])
    · rw [htrucks m hm, truckOf_of_keeps hkeeps]
    · exact (applyResume_trucks hpa (.inl hnone)).trans (hkeeps .trucks (by decide))
    · refine (applyResume_trucks hpa (.inr ?_)).trans (hkeeps .trucks (by decide))
      rw [canGive_of_keeps hkeeps, Bool.eq_false_iff, ne_eq, canGive_iff hk]
      simp [hrec, hfull]
    · exact applyResume_record hpa hissued hlatched ((truckOf_of_keeps hkeeps _).trans hk) hroom

end Sys2Proof.Machine

/-!
PROOFS. LOAD_PERMIT (R67, R68): its operands as they are kept, its checks, and the LOADED permit with its points counted and its
order linked.
-/
namespace Sys2Proof.Machine

-- The proofs are taken one after another: side by side they wait for each other in more threads than the check can hold.
set_option Elab.async false

/-! ## The steps as they are kept (R67) -/

/-- A step no permit can hold: an action that is none, or a VERIFY without a position to find. -/
def badStep (x : StepIn) : Bool :=
  decide (5 ≤ x.action) || (x.action == 4 &&
    match x.required with
    | none => true
    | some r => decide (3 ≤ r))

/-- What step `x` of a list becomes as it is loaded. -/
def StepRec.Loaded (restore : Bool) (x : StepIn) (y : StepRec) : Prop :=
  y.point = max x.point 1 ∧ actionOf x.action = some y.action ∧
    y.required = (if y.action = .verify then x.required.bind positionOf else none) ∧
    y.hold = (x.hold && !restore) ∧ y.confirm = x.confirm ∧ y.state = .pending ∧ y.result = none ∧ y.sent = false ∧
    y.reason = none

/-- The action codes: 0 to 3 name an action that needs no position, 4 is VERIFY, and the rest name none. -/
theorem actionOf_cases (a : Nat) :
    (a < 4 ∧ ∃ b, actionOf a = some b ∧ b ≠ .verify) ∨ (a = 4 ∧ actionOf a = some .verify) ∨ (5 ≤ a ∧ actionOf a = none) := by
  match a with
  | 0 => exact .inl ⟨by decide, .open, rfl, by decide⟩
  | 1 => exact .inl ⟨by decide, .close, rfl, by decide⟩
  | 2 => exact .inl ⟨by decide, .ground, rfl, by decide⟩
  | 3 => exact .inl ⟨by decide, .unground, rfl, by decide⟩
  | 4 => exact .inr (.inl ⟨rfl, rfl⟩)
  | a + 5 => exact .inr (.inr ⟨Nat.le_add_left 5 a, rfl⟩)

/-- The position codes 0 to 2 name a position a VERIFY can find. -/
theorem positionOf_cases (r : Nat) :
    (r < 3 ∧ ∃ p, positionOf r = some p ∧ p ≠ .unknown) ∨ (3 ≤ r ∧ (positionOf r = some .unknown ∨ positionOf r = none)) := by
  match r with
  | 0 => exact .inl ⟨by decide, .open, rfl, by decide⟩
  | 1 => exact .inl ⟨by decide, .closed, rfl, by decide⟩
  | 2 => exact .inl ⟨by decide, .grounded, rfl, by decide⟩
  | 3 => exact .inr ⟨by decide, .inl rfl⟩
  | r + 4 => exact .inr ⟨by omega, .inr rfl⟩

theorem stepOf_of_bad {x : StepIn} (h : badStep x = true) (restore : Bool) : stepOf restore x = none := by
  unfold badStep at h
  rcases actionOf_cases x.action with ⟨hlt, -⟩ | ⟨h4, haction⟩ | ⟨-, haction⟩
  · have h5 : ¬5 ≤ x.action := by omega
    have h4 : x.action ≠ 4 := by omega
    simp [h5, h4] at h
  · cases hreq : x.required with
    | none => simp [stepOf, haction, hreq]
    | some r =>
      have hr : 3 ≤ r := by simpa [h4, hreq] using h
      rcases positionOf_cases r with ⟨hlt, -⟩ | ⟨-, hpos | hpos⟩
      · omega
      · simp [stepOf, haction, hreq, hpos]
      · simp [stepOf, haction, hreq, hpos]
  · simp [stepOf, haction]

theorem stepOf_of_good {x : StepIn} (h : badStep x = false) (restore : Bool) :
    ∃ y, stepOf restore x = some y ∧ StepRec.Loaded restore x y := by
  unfold badStep at h
  rcases actionOf_cases x.action with ⟨-, b, haction, hb⟩ | ⟨h4, haction⟩ | ⟨h5, -⟩
  · refine ⟨_, by simp only [stepOf, haction, hb, if_false]; rfl, rfl, haction, by rw [if_neg hb], rfl, rfl, rfl, rfl, rfl, rfl⟩
  · cases hreq : x.required with
    | none => simp [h4, hreq] at h
    | some r =>
      have hr : r < 3 := by simpa [h4, hreq] using h
      rcases positionOf_cases r with ⟨-, p, hpos, hp⟩ | ⟨hge, -⟩
      · have hreqd : x.required.bind positionOf = some p := by rw [hreq]; exact hpos
        have hstep : stepOf restore x = some { point := max x.point 1, action := .verify, required := some p
                                               hold := x.hold && !restore, confirm := x.confirm, state := .pending
                                               result := none, sent := false, reason := none } := by
          cases p <;> simp_all [stepOf]
        exact ⟨_, hstep, rfl, haction, by rw [if_pos rfl, hreqd], rfl, rfl, rfl, rfl, rfl, rfl⟩
      · omega
  · simp [h5] at h

theorem stepsOf_isNone (restore : Bool) (l : List StepIn) : stepsOf restore l = none ↔ l.any badStep = true := by
  induction l with
  | nil => simp [stepsOf]
  | cons x l ih =>
    cases hbad : badStep x with
    | true => simp [stepsOf, stepOf_of_bad hbad, hbad]
    | false =>
      obtain ⟨y, hy, -⟩ := stepOf_of_good hbad restore
      cases hl : stepsOf restore l with
      | none => simpa [stepsOf, hy, hl, hbad] using ih.mp hl
      | some rs =>
        have hgood : ¬l.any badStep = true := mt ih.mpr (by rw [hl]; simp)
        simpa [stepsOf, hy, hl, hbad] using hgood

theorem stepsOf_some {restore : Bool} {l : List StepIn} {rs : List StepRec} (h : stepsOf restore l = some rs) :
    rs.length = l.length ∧ ∀ (i : Nat) (x : StepIn), l[i]? = some x → ∃ y, rs[i]? = some y ∧ StepRec.Loaded restore x y := by
  induction l generalizing rs with
  | nil =>
    obtain rfl : [] = rs := Option.some.inj h
    exact ⟨rfl, fun i x hx => by simp at hx⟩
  | cons z l ih =>
    have hgood : badStep z = false := by
      have hnone := mt (stepsOf_isNone restore (z :: l)).mpr (by rw [h]; simp)
      simp only [List.any_cons, Bool.or_eq_true, not_or, Bool.not_eq_true] at hnone
      exact hnone.1
    obtain ⟨y, hy, hloaded⟩ := stepOf_of_good hgood restore
    cases hl : stepsOf restore l with
    | none => simp [stepsOf, hy, hl] at h
    | some rs' =>
      obtain ⟨hlength, hall⟩ := ih hl
      obtain rfl : y :: rs' = rs := by simpa [stepsOf, hy, hl] using h
      refine ⟨by simp [hlength], fun i x hx => ?_⟩
      cases i with
      | zero =>
        obtain rfl : z = x := by simpa using hx
        exact ⟨y, rfl, hloaded⟩
      | succ i => exact hall i x (by simpa using hx)

theorem actionOf_eq_verify (a : Nat) : actionOf a = some .verify ↔ a = 4 := by
  rcases actionOf_cases a with ⟨hlt, b, haction, hb⟩ | ⟨h4, haction⟩ | ⟨h5, haction⟩
  · rw [haction]
    simp [hb]
    omega
  · rw [haction]
    simp [h4]
  · rw [haction]
    simp
    omega

/-- Nothing of a step was changed or cut. -/
theorem stepClamped_iff (restore : Bool) (x : StepIn) : stepClamped restore x = false ↔
    x.point ≠ 0 ∧ (x.action ≠ 4 → x.required = none) ∧ (restore = true → x.hold = false) := by
  have hverify := actionOf_eq_verify x.action
  simp only [stepClamped, Bool.or_eq_false_iff, beq_eq_false_iff_ne, Bool.and_eq_false_iff, bne_eq_false_iff_eq, hverify,
    Option.isSome_eq_false_iff, Option.isNone_iff_eq_none]
  cases restore <;> simp <;> tauto

/-! ## The permit as it is kept (R67) -/

section
variable (permit holder : Nat) (linked : Option Nat) (iso rest : List StepIn)

theorem loadedPermit_isNone : loadedPermit permit holder linked iso rest = none ↔
    iso = [] ∨ (isoKept iso).any badStep = true ∨ (restKept iso rest).any badStep = true := by
  unfold loadedPermit
  by_cases hnil : iso = []
  · simp [hnil]
  rw [if_neg (by simpa using hnil), ← stepsOf_isNone false, ← stepsOf_isNone true]
  cases stepsOf false (isoKept iso) <;> cases stepsOf true (restKept iso rest) <;> simp [hnil]

variable {permit holder linked iso rest}

theorem loadedPermit_some {p : Permit} (h : loadedPermit permit holder linked iso rest = some p) :
    p = { num := max permit 1, holder := clamp 1 999 holder, linked := linked, state := .loaded, causes := Causes.none
          iso := p.iso, rest := p.rest, issueTime := none } ∧
      stepsOf false (isoKept iso) = some p.iso ∧ stepsOf true (restKept iso rest) = some p.rest := by
  unfold loadedPermit at h
  split_ifs at h
  split at h
  · rename_i i r hi hr
    obtain rfl := Option.some.inj h
    exact ⟨rfl, hi, hr⟩
  · exact absurd h (by simp)

theorem loadClamped_iff : loadClamped permit holder iso rest = false ↔
    max permit 1 = permit ∧ clamp 1 999 holder = holder ∧ isoKept iso = iso ∧ restKept iso rest = rest ∧
      (∀ x ∈ isoKept iso, x.point ≠ 0 ∧ (x.action ≠ 4 → x.required = none)) ∧
      (∀ x ∈ restKept iso rest, x.point ≠ 0 ∧ (x.action ≠ 4 → x.required = none) ∧ x.hold = false) := by
  have hiso : (isoKept iso).length = iso.length ↔ isoKept iso = iso := by
    simp [isoKept, List.take_eq_self_iff]
  have hrest : (restKept iso rest).length = rest.length ↔ restKept iso rest = rest := by
    unfold restKept
    rw [List.take_take, List.take_eq_self_iff, List.length_take]
    omega
  have hpermit : permit ≠ 0 ↔ max permit 1 = permit := by omega
  simp only [loadClamped, Bool.or_eq_false_iff, bne_eq_false_iff_eq, beq_eq_false_iff_ne, List.any_eq_false, Bool.not_eq_true,
    hiso, hrest, hpermit, stepClamped_iff, and_assoc]
  simp

end

end Sys2Proof.Machine

/-!
PROOFS. LOAD_PERMIT (R68): the checks on the permit as it is kept, and its effects.
-/
namespace Sys2Proof.Machine

-- The proofs are taken one after another: side by side they wait for each other in more threads than the check can hold.
set_option Elab.async false

/-! ## The checks (R68) -/

theorem loadChecks_eq (s : State) (p : Permit) : loadChecks s p =
    if (permitOf s p.num).isSome = true then some .duplicate
    else if 32 ≤ s.permits.length then some .tableFull
    else if (truckOf s p.holder).isNone = true then some .notFound
    else if (p.linked.any fun m => (orderOf s m).isNone) = true then some .notFound
    else if ((p.linked.bind (orderOf s)).any fun o => !o.state.isOpen) = true then some .wrongState
    else if ((p.linked.bind (orderOf s)).any fun o => o.linked.isSome) = true then some .inUse
    else if 256 < s.points.length + (p.points.filter fun n => (pointOf s n).isNone).length then some .tableFull
    else none := by
  unfold loadChecks
  cases hlinked : p.linked with
  | none => simp
  | some m => cases ho : orderOf s m <;> simp [ho]

theorem loadChecks_of_keeps {s u : State} (hu : Keeps [.sup, .port] s u) (p : Permit) : loadChecks u p = loadChecks s p := by
  have htrucks : truckOf u = truckOf s := funext (truckOf_of_keeps hu)
  have horders : orderOf u = orderOf s := funext (orderOf_of_keeps hu)
  have hpermits : u.permits = s.permits := hu .permits (by decide)
  have hpoints : u.points = s.points := hu .points (by decide)
  have hpermit : permitOf u = permitOf s := permitOf_of_keeps hu
  have hpoint : pointOf u = pointOf s := funext (pointOf_of_keeps hu)
  unfold loadChecks
  rw [htrucks, horders, hpermits, hpoints, hpermit, hpoint]

/-! ## The linked order (R68) -/

/-- The order a permit links, linked, with its standing record brought up to date. -/
def linkOrder (s : State) (n : Nat) : Option Nat → State
  | some m => refreshAssigned (modOrder s m fun o => { o with linked := some n }) m
  | none => s

theorem linkOrder_keeps (s : State) (n : Nat) (l : Option Nat) : Keeps [.orders, .trucks, .askArb] s (linkOrder s n l) := by
  cases l with
  | none => exact .refl _ s
  | some m => exact (modOrder_keeps s m _).to.trans (refreshAssigned_keeps _ m).to

theorem orderOf_linkOrder (s : State) (n : Nat) (l : Option Nat) (m : Nat) :
    orderOf (linkOrder s n l) m = (orderOf s m).map fun o => if l = some m then { o with linked := some n } else o := by
  cases l with
  | none => simp [linkOrder]
  | some k =>
    rw [linkOrder, orderOf_of_keeps (refreshAssigned_keeps _ k),
      orderOf_modOrder s k m (fun o => { o with linked := some n }) fun _ h => h]
    simp only [Option.some.injEq, eq_comm]

theorem refreshAssigned_of {s : State} {m t : Nat} {o : Order} (ho : orderOf s m = some o) (hassigned : o.assigned = some t) :
    refreshAssigned s m = refreshOrderRec s t m := by
  simp only [refreshAssigned, ho, Option.bind_some, hassigned]

/-- Only the truck an order is assigned to can be told. -/
theorem truckOf_refreshAssigned {s : State} {m k : Nat} (h : ∀ o, orderOf s m = some o → o.assigned ≠ some k) :
    truckOf (refreshAssigned s m) k = truckOf s k := by
  unfold refreshAssigned
  split
  · rename_i t ht
    obtain ⟨o, ho, hassigned⟩ := Option.bind_eq_some_iff.mp ht
    have hne : k ≠ t := fun e => h o ho (e ▸ hassigned)
    unfold refreshOrderRec
    split
    · exact truckOf_giveOrder_ne s m _ _ hne
    · rfl
  · rfl

theorem recFor_order_content {q : List Rec} {m : Nat} {a : Rec} (h : recFor q (.order m) = some a) :
    ∃ b, a.content = .order b := by
  have hsubject : a.content.subject = .order m := (recFor_some h).1
  cases hcontent : a.content <;> simp [hcontent, Content.subject] at hsubject
  exact ⟨_, rfl⟩

/-- The standing record of an order shows it as it is, under its own disposition and note (R24, R68). -/
theorem truckOf_refreshOrderRec {s : State} {m t : Nat} {o : Order} {k : Truck} (ho : orderOf s m = some o)
    (hk : truckOf s t = some k) :
    ∃ k', truckOf (refreshOrderRec s t m) t = some k' ∧ k' = { k with queue := k'.queue, seqCtr := k'.seqCtr } ∧
      match recFor k.queue (.order m) with
      | none => k' = k
      | some a => ∃ r b, a.content = .order b ∧ recFor k'.queue (.order m) = some r ∧
          r.content = .order (orderContent o b.disp b.permitOpen) := by
  cases hrec : recFor k.queue (.order m) with
  | none => exact ⟨k, by rw [refreshOrderRec, orderRecIn_of_none hk hrec]; exact hk, rfl, rfl⟩
  | some a =>
    obtain ⟨b, hb⟩ := recFor_order_content hrec
    obtain ⟨k', r, hk', hframe, hr, hcontent, -⟩ := truckOf_giveOrder ho hk b.disp false (.inl (by rw [hrec]; rfl))
    have hnote : (false || (recFor k.queue (.order m)).any Rec.notesOpen) = b.permitOpen := by simp [hrec, Rec.notesOpen, hb]
    rw [hnote] at hcontent
    exact ⟨k', by rw [refreshOrderRec, orderRecIn_of_some hk hrec hb]; exact hk', hframe, r, b, hb, hr, hcontent⟩

/-! ## The effects (R68) -/

/-- The state with the permit loaded and its order linked, not yet announced. -/
def loading (s : State) (p : Permit) : State := linkOrder (withPermit s p) p.num p.linked

theorem loading_keeps (s : State) (p : Permit) :
    Keeps [.permits, .points, .orders, .trucks, .askArb] s (loading s p) :=
  (withPermit_keeps s p).to.trans (linkOrder_keeps _ _ _).to

theorem permitOf_loading {s : State} {p : Permit} (hnew : permitOf s p.num = none) (m : Nat) :
    permitOf (loading s p) m = if m = p.num then some p else permitOf s m := by
  rw [loading, permitOf_of_keeps (linkOrder_keeps _ _ _), permitOf_withPermit s hnew]

theorem pointOf_loading (s : State) (p : Permit) (m : Nat) :
    pointOf (loading s p) m = if m ∈ p.points then some (withRef m (pointOf s m)) else pointOf s m := by
  rw [loading, pointOf_of_keeps (linkOrder_keeps _ _ _), pointOf_withPermit]

theorem orderOf_loading (s : State) (p : Permit) (m : Nat) : orderOf (loading s p) m =
    (orderOf s m).map fun o => if p.linked = some m then { o with linked := some p.num } else o := by
  rw [loading, orderOf_linkOrder, orderOf_of_keeps (withPermit_keeps s p)]

/-- Only the truck of the linked order can be told. -/
theorem truckOf_loading_ne {s : State} {p : Permit} {k : Nat}
    (h : ∀ m o, p.linked = some m → orderOf s m = some o → o.assigned ≠ some k) :
    truckOf (loading s p) k = truckOf s k := by
  unfold loading
  cases hlinked : p.linked with
  | none => exact truckOf_of_keeps (withPermit_keeps s p) k
  | some m =>
    have hkeeps := (withPermit_keeps s p).to.trans (modOrder_keeps (withPermit s p) m fun o => { o with linked := some p.num }).to
      (l := [.permits, .points, .orders])
    refine (truckOf_refreshAssigned fun o ho => ?_).trans (truckOf_of_keeps hkeeps k)
    rw [orderOf_modOrder _ m m (fun o => { o with linked := some p.num }) fun _ h => h,
      orderOf_of_keeps (withPermit_keeps s p)] at ho
    obtain ⟨o', ho', rfl⟩ := Option.map_eq_some_iff.mp ho
    rw [if_pos rfl]
    exact h m o' hlinked ho'

/-- The truck of the linked order is told where its record stands. -/
theorem truckOf_loading {s : State} {p : Permit} {m t : Nat} {o : Order} {k : Truck} (hlinked : p.linked = some m)
    (ho : orderOf s m = some o) (hassigned : o.assigned = some t) (hk : truckOf s t = some k) :
    ∃ k', truckOf (loading s p) t = some k' ∧ k' = { k with queue := k'.queue, seqCtr := k'.seqCtr } ∧
      match recFor k.queue (.order m) with
      | none => k' = k
      | some a => ∃ r b, a.content = .order b ∧ recFor k'.queue (.order m) = some r ∧
          r.content = .order (orderContent { o with linked := some p.num } b.disp b.permitOpen) := by
  have hkeeps := (withPermit_keeps s p).to.trans (modOrder_keeps (withPermit s p) m fun o => { o with linked := some p.num }).to
    (l := [.permits, .points, .orders])
  have ho' : orderOf (modOrder (withPermit s p) m fun o => { o with linked := some p.num }) m =
      some { o with linked := some p.num } := by
    rw [orderOf_modOrder _ m m (fun o => { o with linked := some p.num }) fun _ h => h,
      orderOf_of_keeps (withPermit_keeps s p), ho, Option.map_some, if_pos rfl]
  unfold loading
  rw [hlinked, linkOrder, refreshAssigned_of ho' hassigned]
  exact truckOf_refreshOrderRec ho' ((truckOf_of_keeps hkeeps t).trans hk)

theorem applyLoad_eq {s : State} {p : Permit} (hnew : permitOf s p.num = none) :
    applyLoad s p = post (loading s p) (.permitState p.num p.state p.holder p.linked p.causes) := by
  have happly : applyLoad s p = postPermitState (loading s p) p.num := by
    unfold applyLoad loading linkOrder
    cases p.linked <;> rfl
  rw [happly, postPermitState_eq ((permitOf_loading hnew p.num).trans (if_pos rfl))]

/-- Two states that agree outside permits, points, orders, trucks and the arbiter's occasion. -/
theorem eq_of_keeps_loading {s v : State} (h : Keeps [.permits, .points, .orders, .trucks, .askArb] s v) :
    v = { s with permits := v.permits, points := v.points, orders := v.orders, trucks := v.trucks, askArb := v.askArb } := by
  have hasks : v.asks = s.asks := h .asks (by decide)
  have hport : v.port = s.port := h .port (by decide)
  exact (eq_of_keeps_crew h.to).trans (by rw [hasks, hport])

section
variable {s : State} (h : Ready s) (tag permit holder : Nat) {linked : Option Nat} {iso rest : List StepIn}
include h

theorem loadPermit_badField (hp : loadedPermit permit holder linked iso rest = none) :
    Refuses (.loadPermit tag permit holder linked iso rest) s .badField :=
  refuses_of_refuse h rfl rfl fun u hu => by simp only [loadPermit, hp]

variable {p : Permit} (hp : loadedPermit permit holder linked iso rest = some p)
include hp

theorem loadPermit_refused {c : Result} (hc : loadChecks s p = some c) :
    Refuses (.loadPermit tag permit holder linked iso rest) s c :=
  refuses_of_refuse h rfl rfl fun u hu => by simp only [loadPermit, hp, loadChecks_of_keeps hu, hc]

theorem exec_loadPermit (hc : loadChecks s p = none) :
    exec (.loadPermit tag permit holder linked iso rest) s = .next (settleEvent (applyLoad
      (answered s 0x10 tag (okOr (loadClamped permit holder iso rest)) (.loaded p.iso.length p.rest.length)) p)) :=
  request_carried (f := loadPermit permit holder linked iso rest) (g := (applyLoad · p)) h fun u hu => by
    simp only [loadPermit, hp, loadChecks_of_keeps hu, hc]

end

/-- Settles O28: LOAD_PERMIT by its checks on the permit as it is kept, and its effects. -/
theorem loadPermitCreatesLoadedPermit : Obligations.LoadPermitCreatesLoadedPermit := by
  unfold Obligations.LoadPermitCreatesLoadedPermit
  intro s tag permit holder linked iso rest h c n m bad ki kr room
  by_cases hbad : iso = [] ∨ ki.any bad = true ∨ kr.any bad = true
  · rw [if_pos hbad]
    exact loadPermit_badField h tag permit holder ((loadedPermit_isNone permit holder linked iso rest).mpr hbad)
  rw [if_neg hbad]
  obtain ⟨p, hp⟩ := Option.ne_none_iff_exists'.mp (mt (loadedPermit_isNone permit holder linked iso rest).mp hbad)
  obtain ⟨hshape, hiso, hrest⟩ := loadedPermit_some hp
  have hnum : p.num = n := by rw [hshape]
  have hholder : p.holder = m := by rw [hshape]
  have hlinked : p.linked = linked := by rw [hshape]
  have hchecks := loadChecks_eq s p
  have hrefused := fun c hc => loadPermit_refused h tag permit holder hp (c := c) hc
  rw [hnum, hholder, hlinked] at hchecks
  by_cases hdup : (permitOf s n).isSome = true
  · rw [if_pos hdup] at hchecks ⊢
    exact hrefused _ hchecks
  rw [if_neg hdup] at hchecks ⊢
  by_cases hfull : 32 ≤ s.permits.length
  · rw [if_pos hfull] at hchecks ⊢
    exact hrefused _ hchecks
  rw [if_neg hfull] at hchecks ⊢
  by_cases htruck : (truckOf s m).isNone = true
  · rw [if_pos htruck] at hchecks ⊢
    exact hrefused _ hchecks
  rw [if_neg htruck] at hchecks ⊢
  by_cases horder : (linked.any fun m => (orderOf s m).isNone) = true
  · rw [if_pos horder] at hchecks ⊢
    exact hrefused _ hchecks
  rw [if_neg horder] at hchecks ⊢
  by_cases hended : ((linked.bind (orderOf s)).any fun o => !o.state.isOpen) = true
  · rw [if_pos hended] at hchecks ⊢
    exact hrefused _ hchecks
  rw [if_neg hended] at hchecks ⊢
  by_cases hinUse : ((linked.bind (orderOf s)).any fun o => o.linked.isSome) = true
  · rw [if_pos hinUse] at hchecks ⊢
    exact hrefused _ hchecks
  rw [if_neg hinUse] at hchecks ⊢
  refine ⟨p, hshape, (stepsOf_some hiso).1, (stepsOf_some hrest).1, fun restore i x hx => ?_, ?_⟩
  · cases restore with
    | false => exact (stepsOf_some hiso).2 i x hx
    | true => exact (stepsOf_some hrest).2 i x hx
  by_cases hroom : 256 < room + (p.points.filter fun m => (pointOf s m).isNone).length
  · rw [if_pos hroom] at hchecks ⊢
    exact hrefused _ hchecks
  rw [if_neg hroom] at hchecks ⊢
  have hexec := exec_loadPermit h tag permit holder hp hchecks
  rw [(stepsOf_some hiso).1, (stepsOf_some hrest).1] at hexec
  let a := answered s 0x10 tag (okOr (loadClamped permit holder iso rest)) (.loaded ki.length kr.length)
  have hkeeps : Keeps [.sup, .port] s a := answered_keeps s 0x10 tag _ _
  have hnew : permitOf a p.num = none := by
    rw [permitOf_of_keeps hkeeps, hnum]
    exact Option.not_isSome_iff_eq_none.mp hdup
  have hposted := post_keeps (loading a p) (.permitState p.num p.state p.holder p.linked p.causes)
  have hloaded : exec c s = .next (settleEvent (applyLoad a p)) := hexec
  rw [applyLoad_eq hnew] at hloaded
  have htold := fun {m t : Nat} {o : Order} {k : Truck} => truckOf_loading (s := a) (p := p) (m := m) (t := t) (o := o) (k := k)
  refine ⟨_, _, hloaded, okOr_cases _, (okOr_eq_ok _).trans loadClamped_iff, ?_, fun m hm => ?_, fun m hm => ?_, fun m hm => ?_, fun m hm => ?_, fun m o hm ho => ⟨?_, fun t k ht hk => ?_⟩,
    fun k hk => ?_, ?_⟩
  · rw [permitOf_of_keeps hposted, permitOf_loading hnew, if_pos hnum.symm]
  · rw [permitOf_of_keeps hposted, permitOf_loading hnew, if_neg (hnum ▸ hm), permitOf_of_keeps hkeeps]
  · rw [pointOf_of_keeps hposted, pointOf_loading, if_neg hm, pointOf_of_keeps hkeeps]
  · rw [pointOf_of_keeps hposted, pointOf_loading, if_pos hm, pointOf_of_keeps hkeeps]
    cases pointOf s m <;> rfl
  · rw [orderOf_of_keeps hposted, orderOf_loading, hlinked, orderOf_of_keeps hkeeps]
    simp only [hm, if_false, Option.map_id']
  · rw [orderOf_of_keeps hposted, orderOf_loading, hlinked, orderOf_of_keeps hkeeps, ho, Option.map_some, if_pos hm, hnum]
  · have htruck := htold (hlinked.trans hm) ((orderOf_of_keeps hkeeps m).trans ho) ht ((truckOf_of_keeps hkeeps t).trans hk)
    rw [truckOf_of_keeps hposted]
    rwa [hnum] at htruck
  · rw [truckOf_of_keeps hposted]
    refine (truckOf_loading_ne fun m o hm ho => hk m o (hlinked.symm.trans hm) ?_).trans (truckOf_of_keeps hkeeps k)
    rwa [orderOf_of_keeps hkeeps] at ho
  · have hnotice : NoticeBody.permitState p.num p.state p.holder p.linked p.causes =
        .permitState n .loaded m linked Causes.none := by rw [hshape]
    rw [hnotice]
    exact eq_of_keeps_loading ((loading_keeps a p).post _)

end Sys2Proof.Machine

/-!
PROOFS. ANSWER records and CANCEL_PERMIT (R85): what becomes of the permit's answer, its entry, its marks and holds, its final
record and its slot.
-/
namespace Sys2Proof.Machine

-- The proofs are taken one after another: side by side they wait for each other in more threads than the check can hold.
set_option Elab.async false

/-! ## ANSWER records (R91) -/

theorem recFor_answer_content {q : List Rec} {n : Nat} {r : Rec} (h : recFor q (.answer n) = some r) :
    ∃ c, r.content = .answer c := by
  have hsubject : r.content.subject = .answer n := (recFor_some h).1
  cases hcontent : r.content <;> simp [hcontent, Content.subject] at hsubject
  exact ⟨_, rfl⟩

section
variable {s : State} {t n : Nat} {k : Truck} (hk : truckOf s t = some k)
include hk

theorem answerIn_of_none (hrec : recFor k.queue (.answer n) = none) : answerIn s t n = none := by
  simp [answerIn, recOf, hk, hrec]

theorem answerIn_of_some {r : Rec} {c : AnswerContent} (hrec : recFor k.queue (.answer n) = some r)
    (hcontent : r.content = .answer c) : answerIn s t n = some c := by
  simp [answerIn, recOf, hk, hrec, hcontent]

theorem answerIn_isSome : (answerIn s t n).isSome = (recFor k.queue (.answer n)).isSome := by
  cases hrec : recFor k.queue (.answer n) with
  | none => rw [answerIn_of_none hk hrec]; rfl
  | some r =>
    obtain ⟨c, hc⟩ := recFor_answer_content hrec
    rw [answerIn_of_some hk hrec hc]
    rfl

/-- Where the record for the subject is the same, so is the answer. -/
theorem answerIn_congr {u : State} {k' : Truck} (hk' : truckOf u t = some k')
    (h : recFor k'.queue (.answer n) = recFor k.queue (.answer n)) : answerIn u t n = answerIn s t n := by
  simp only [answerIn, recOf, hk, hk', Option.bind_some, h]

/-- An answer given where there is room stands, and every other record is as it was (R91, R114). -/
theorem truckOf_give_answer {c : AnswerContent} (hc : c.permit = n)
    (hroom : (recFor k.queue (.answer n)).isSome = true ∨ k.queue.length < 12) :
    ∃ k', truckOf (give s t (.answer c)) t = some k' ∧ k' = { k with queue := k'.queue, seqCtr := k'.seqCtr } ∧
      answerIn (give s t (.answer c)) t n = some c ∧ ∀ x, x ≠ .answer n → recFor k'.queue x = recFor k.queue x := by
  have hsubject : (Content.answer c).subject = .answer n := by rw [← hc]; rfl
  obtain ⟨k', r, htruck, hframe, hrec, hcontent, -, -, hothers⟩ := truckOf_give (c := .answer c) hk (hsubject ▸ hroom)
  rw [hsubject] at hrec hothers
  exact ⟨k', htruck, hframe, answerIn_of_some htruck hrec hcontent, hothers⟩

/-- An answer that finds no room is not placed (R91). -/
theorem give_answer_refused {c : AnswerContent} (hc : c.permit = n)
    (hfull : ¬((recFor k.queue (.answer n)).isSome = true ∨ k.queue.length < 12)) : give s t (.answer c) = s := by
  have hsubject : (Content.answer c).subject = .answer n := by rw [← hc]; rfl
  refine give_refused ?_
  rw [hsubject, Bool.eq_false_iff, ne_eq, canGive_iff hk]
  exact hfull

end

/-! ## The answer of a cancelled permit (R85 steps 1 and 2) -/

theorem truckOf_answerCancelled_ne (s : State) (p : Permit) {m : Nat} (hm : m ≠ p.holder) :
    truckOf (answerCancelled s p) m = truckOf s m := by
  unfold answerCancelled
  split
  · exact truckOf_give_ne s _ hm
  · split
    · exact truckOf_give_ne s _ hm
    · rfl

/-- What stands as the answer of a cancelled permit. -/
def cancelledAnswer (s : State) (p : Permit) (k : Truck) : Option AnswerContent :=
  match answerIn s p.holder p.num with
  | some c => some (refuseContent p.num c.step .notActive)
  | none =>
    match askOf s p.num with
    | some a => if k.queue.length < 12 then some (refuseContent p.num a.step .notActive) else none
    | none => none

theorem answerCancelled_spec {s : State} {p : Permit} {k : Truck} (hk : truckOf s p.holder = some k) :
    ∃ k', truckOf (answerCancelled s p) p.holder = some k' ∧ k' = { k with queue := k'.queue, seqCtr := k'.seqCtr } ∧
      answerIn (answerCancelled s p) p.holder p.num = cancelledAnswer s p k ∧
      (∀ x, x ≠ .answer p.num → recFor k'.queue x = recFor k.queue x) ∧
      (answerIn s p.holder p.num = none → askOf s p.num = none → k' = k) := by
  have hsome := answerIn_isSome (n := p.num) hk
  unfold answerCancelled cancelledAnswer
  cases hanswer : answerIn s p.holder p.num with
  | some c =>
    rw [hanswer] at hsome
    obtain ⟨k', htruck, hframe, hgiven, hothers⟩ :=
      truckOf_give_answer (c := refuseContent p.num c.step .notActive) hk rfl (.inl hsome.symm)
    exact ⟨k', htruck, hframe, hgiven, hothers, fun hnone => by simp at hnone⟩
  | none =>
    rw [hanswer] at hsome
    cases hask : askOf s p.num with
    | none => exact ⟨k, hk, rfl, hanswer, fun _ _ => rfl, fun _ _ => rfl⟩
    | some a =>
      dsimp only
      by_cases hroom : k.queue.length < 12
      · obtain ⟨k', htruck, hframe, hgiven, hothers⟩ :=
          truckOf_give_answer (c := refuseContent p.num a.step .notActive) hk rfl (.inr hroom)
        rw [if_pos hroom]
        exact ⟨k', htruck, hframe, hgiven, hothers, fun _ hnone => by simp at hnone⟩
      · rw [give_answer_refused (n := p.num) (c := refuseContent p.num a.step .notActive) hk rfl (not_or.mpr ⟨by rw [← hsome]; simp, hroom⟩), if_neg hroom]
        exact ⟨k, hk, rfl, hanswer, fun _ _ => rfl, fun _ hnone => by simp at hnone⟩

/-! ## Marks and holds (R85 step 3) -/

/-- A point without the busy mark of a permit (R85). -/
def Point.withoutMark (n : Nat) (q : Point) : Point := { q with busy := q.busy.filter fun b => b.permit != n }

/-- A point without the hold of a permit (R77, R85). -/
def Point.withoutHold (n : Nat) (q : Point) : Point := { q with holds := q.holds.filter fun h => h.permit != n }

theorem releaseMarks_eq (s : State) (n : Nat) : releaseMarks s n = { s with points := s.points.map (Point.withoutMark n) } := by
  unfold releaseMarks
  refine congrArg (fun f => { s with points := s.points.map f }) (funext fun q => ?_)
  obtain ⟨num, position, holds, busy, refCount⟩ := q
  cases busy with
  | none => rfl
  | some b => by_cases hb : b.permit = n <;> simp [Point.withoutMark, hb, Option.filter]

theorem pointOf_releaseMarks (s : State) (n m : Nat) :
    pointOf (releaseMarks s n) m = (pointOf s m).map (Point.withoutMark n) := by
  rw [releaseMarks_eq]
  exact findBy_map (Point.withoutMark n) (fun _ => rfl) m s.points

theorem pointOf_releaseHolds (s : State) (n m : Nat) :
    pointOf (releaseHolds s n) m = (pointOf s m).map (Point.withoutHold n) :=
  findBy_map (key := Point.num) (Point.withoutHold n) (fun _ => rfl) m s.points

/-! ## The effects (R85) -/

/-- The state with the permit cancelled, before its holder has the final record. -/
def cancelling (s : State) (p : Permit) : State :=
  modPermit (releaseHolds (releaseMarks (removeAsk (answerCancelled s p) p.num) p.num) p.num) p.num Permit.revoked

theorem cancelling_keeps (s : State) (p : Permit) :
    Keeps [.trucks, .permits, .points, .asks, .askArb] s (cancelling s p) :=
  (answerCancelled_keeps s p).to.trans ((removeAsk_keeps _ _).to.trans ((releaseMarks_keeps _ _).to.trans
    ((releaseHolds_keeps _ _).to.trans (modPermit_keeps _ _ _).to)))

theorem released_keeps (s : State) (n : Nat) : Keeps [.points, .asks] s (releaseHolds (releaseMarks (removeAsk s n) n) n) :=
  (removeAsk_keeps _ _).to.trans ((releaseMarks_keeps _ _).to.trans (releaseHolds_keeps _ _).to)

theorem truckOf_cancelling (s : State) (p : Permit) (m : Nat) :
    truckOf (cancelling s p) m = truckOf (answerCancelled s p) m := by
  rw [cancelling, truckOf_of_keeps (modPermit_keeps _ _ _), truckOf_of_keeps (released_keeps _ _)]

theorem permitOf_cancelling {s : State} {p : Permit} (hp : permitOf s p.num = some p) (m : Nat) :
    permitOf (cancelling s p) m = if m = p.num then some p.revoked else permitOf s m := by
  rw [cancelling, permitOf_modPermit _ p.num m Permit.revoked fun _ h => h, permitOf_of_keeps (released_keeps _ _),
    permitOf_of_keeps (answerCancelled_keeps s p)]
  by_cases hm : m = p.num
  · rw [if_pos hm, hm, hp, Option.map_some, if_pos rfl]
  · simp only [if_neg hm, Option.map_id']

theorem pointOf_cancelling (s : State) (p : Permit) (m : Nat) : pointOf (cancelling s p) m =
    (pointOf s m).map fun q => (q.withoutMark p.num).withoutHold p.num := by
  rw [cancelling, pointOf_of_keeps (modPermit_keeps _ _ _), pointOf_releaseHolds, pointOf_releaseMarks,
    pointOf_of_keeps (removeAsk_keeps _ _), pointOf_of_keeps (answerCancelled_keeps s p), Option.map_map]
  rfl

theorem cancelling_asks (s : State) (p : Permit) : (cancelling s p).asks = s.asks.filter fun a => a.permit != p.num := by
  have hreleased : (cancelling s p).asks = (removeAsk (answerCancelled s p) p.num).asks :=
    (modPermit_keeps _ _ _ .asks (by decide)).trans ((releaseHolds_keeps _ _ .asks (by decide)).trans
      (releaseMarks_keeps _ _ .asks (by decide)))
  rw [hreleased, removeAsk]
  exact congrArg (List.filter _) (answerCancelled_keeps s p .asks (by decide))

/-- The final record of a cancelled permit that was issued; nothing of one that never was (R85 step 5). -/
def finalSent (s : State) (p : Permit) : State :=
  if p.issueTime.isSome = true then giveFinal (cancelling s p) p.num else cancelling s p

theorem finalSent_keeps (s : State) (p : Permit) : Keeps [.trucks, .askArb] (cancelling s p) (finalSent s p) := by
  unfold finalSent
  split_ifs
  · exact giveFinal_keeps _ _
  · exact .refl _ _

section
variable {s : State} {p : Permit} (hp : permitOf s p.num = some p)
include hp

theorem finalSent_eq : finalSent s p = if p.issueTime.isSome = true then
      if canGive (cancelling s p) p.holder (.permit p.num) = true then
        give (cancelling s p) p.holder (.permit (permitContent p.revoked))
      else freePermitSlot (cancelling s p) p.holder p.num
    else cancelling s p := by
  have hpermit := (permitOf_cancelling hp p.num).trans (if_pos rfl)
  have hholder : holderOf (cancelling s p) p.num = p.holder := by
    simp only [holderOf, hpermit]
    rfl
  simp only [finalSent, giveFinal, hholder, givePermit_eq hpermit]
  rfl

theorem truckOf_finalSent_ne {m : Nat} (hm : m ≠ p.holder) : truckOf (finalSent s p) m = truckOf s m := by
  have hanswered := (truckOf_cancelling s p m).trans (truckOf_answerCancelled_ne s p hm)
  rw [finalSent_eq hp]
  split_ifs
  · rw [truckOf_give_ne _ _ hm, hanswered]
  · simp only [truckOf_freePermitSlot, if_neg hm, Option.map_id', hanswered]
  · exact hanswered

/-- What the holder's queue holds in the end: the answer, and for an issued permit the final record, or its slot freed
where that finds no room (R85 step 5). -/
theorem truckOf_finalSent {k : Truck} (hk : truckOf s p.holder = some k) :
    ∃ k', truckOf (finalSent s p) p.holder = some k' ∧
      k' = { k with queue := k'.queue, seqCtr := k'.seqCtr, permitSlots := k'.permitSlots } ∧
      answerIn (finalSent s p) p.holder p.num = cancelledAnswer s p k ∧
      (p.issueTime = none → k'.permitSlots = k.permitSlots ∧
        recFor k'.queue (.permit p.num) = recFor k.queue (.permit p.num) ∧
        (answerIn s p.holder p.num = none → askOf s p.num = none → k' = k)) ∧
      (p.issueTime.isSome = true →
        match recFor k'.queue (.permit p.num) with
        | some r => r.content = .permit (permitContent p.revoked) ∧ k'.permitSlots = k.permitSlots
        | none => 12 ≤ k'.queue.length ∧ k'.permitSlots = k.permitSlots.filter (· != p.num)) ∧
      ∀ x, x ≠ .permit p.num → x ≠ .answer p.num → recFor k'.queue x = recFor k.queue x := by
  obtain ⟨k1, hk1, hframe, hanswer, hothers, hsame⟩ := answerCancelled_spec hk
  have htruck : truckOf (cancelling s p) p.holder = some k1 := (truckOf_cancelling s p _).trans hk1
  have hslots : k1.permitSlots = k.permitSlots := by rw [hframe]
  have hcancelled : answerIn (cancelling s p) p.holder p.num = cancelledAnswer s p k :=
    (answerIn_congr hk1 htruck rfl).trans hanswer
  have hpermit : recFor k1.queue (.permit p.num) = recFor k.queue (.permit p.num) := hothers _ (by simp)
  rw [finalSent_eq hp]
  by_cases hissued : p.issueTime.isSome = true
  · have hnot : p.issueTime ≠ none := fun hnone => by simp [hnone] at hissued
    rw [if_pos hissued]
    by_cases hroom : canGive (cancelling s p) p.holder (.permit p.num) = true
    · rw [if_pos hroom]
      obtain ⟨k', r, hk', hframe', hrec, hcontent, -, -, hkept⟩ :=
        truckOf_give_permit (c := permitContent p.revoked) htruck ((canGive_iff htruck).mp hroom)
      refine ⟨k', hk', ?_, ?_, fun hnone => absurd hnone hnot, fun _ => ?_, fun x hx hx' => ?_⟩
      · rw [hframe', hframe]
      · exact (answerIn_congr htruck hk' (hkept _ (by simp [permitContent]))).trans hcancelled
      · change match recFor k'.queue (.permit (permitContent p.revoked).num) with
          | some r => _
          | none => _
        rw [hrec]
        exact ⟨hcontent, by rw [hframe', hslots]⟩
      · rw [hkept x hx, hothers x hx']
    · rw [if_neg hroom]
      have hfull := mt (canGive_iff htruck).mpr hroom
      have hnone : recFor k1.queue (.permit p.num) = none := by
        cases hrec : recFor k1.queue (.permit p.num) with
        | none => rfl
        | some r => exact absurd (.inl (by rw [hrec]; rfl)) hfull
      have hfreed : truckOf (freePermitSlot (cancelling s p) p.holder p.num) p.holder =
          some { k1 with permitSlots := k1.permitSlots.filter (· != p.num) } := by
        rw [truckOf_freePermitSlot, htruck, Option.map_some, if_pos rfl]
      refine ⟨_, hfreed, ?_, (answerIn_congr htruck hfreed rfl).trans hcancelled, fun hnone => absurd hnone hnot,
        fun _ => ?_, fun x _ hx' => hothers x hx'⟩
      · rw [hframe]
      · dsimp only
        rw [hnone]
        exact ⟨by omega, by rw [hslots]⟩
  · rw [if_neg hissued]
    exact ⟨k1, htruck, by rw [hframe], hcancelled, fun _ => ⟨hslots, hpermit, hsame⟩, fun h => absurd h hissued,
      fun x _ hx' => hothers x hx'⟩

theorem applyCancelPermit_eq :
    applyCancelPermit s p = post (finalSent s p) (.permitState p.num .cancelled p.holder p.linked Causes.none) := by
  have hpermit : permitOf (finalSent s p) p.num = some p.revoked := by
    rw [permitOf_of_keeps (finalSent_keeps s p), permitOf_cancelling hp, if_pos rfl]
  exact postPermitState_eq hpermit

end

/-! ## CANCEL_PERMIT (R85) -/

theorem named_any (f : StepRec → Bool) (k n : Nat) (l : List StepRec) : (named k n l).any (fun x => f x.2) = l.any f := by
  induction l generalizing n with
  | nil => rfl
  | cons x l ih => simp only [named, List.any_cons, ih]

theorem Permit.executing_eq (p : Permit) : p.executing = (p.iso ++ p.rest).any fun x => x.state == .executing := by
  rw [Permit.executing, Permit.steps, List.any_append, List.any_append, named_any fun x => x.state == .executing,
    named_any fun x => x.state == .executing]

section
variable {s : State} (h : Ready s) (tag n : Nat)
include h

theorem cancelPermit_notFound (hp : permitOf s n = none) : Refuses (.cancelPermit tag n) s .notFound :=
  refuses_of_refuse h rfl rfl fun u hu => by simp only [cancelPermit, permitOf_of_keeps hu, hp]

variable {p : Permit} (hp : permitOf s n = some p)
include hp

theorem cancelPermit_wrongState (hended : p.state.isOpen = false ∨ p.executing = true) :
    Refuses (.cancelPermit tag n) s .wrongState :=
  refuses_of_refuse h rfl rfl fun u hu => by
    rcases hended with hended | hended <;> simp only [cancelPermit, permitOf_of_keeps hu, hp, hended, if_true, ite_self]

theorem exec_cancelPermit (hopen : p.state.isOpen = true) (hfree : p.executing = false) :
    exec (.cancelPermit tag n) s = .next (settleEvent (applyCancelPermit (answered s 0x14 tag .ok .none) p)) :=
  request_carried (f := cancelPermit n) (g := (applyCancelPermit · p)) h fun u hu => by
    simp only [cancelPermit, permitOf_of_keeps hu, hp, hopen, hfree, Bool.true_eq_false, Bool.false_eq_true, if_false]

end

theorem askOf_of_keeps {l : List Field} {s u : State} (h : Keeps l s u) (n : Nat) (hl : .asks ∉ l := by decide) :
    askOf u n = askOf s n := by
  unfold askOf
  rw [show u.asks = s.asks from h .asks hl]

theorem answerIn_of_keeps {l : List Field} {s u : State} (h : Keeps l s u) (t n : Nat) (hl : .trucks ∉ l := by decide) :
    answerIn u t n = answerIn s t n := answerIn_of_trucks (h .trucks hl) t n

/-- Two states that agree outside trucks, permits, points, the pending list and the arbiter's occasion. -/
theorem eq_of_keeps_permitsAsks {s v : State} (h : Keeps [.trucks, .permits, .points, .asks, .askArb] s v) :
    v = { s with permits := v.permits, points := v.points, asks := v.asks, trucks := v.trucks, askArb := v.askArb } := by
  have horders : v.orders = s.orders := h .orders (by decide)
  have hport : v.port = s.port := h .port (by decide)
  exact (eq_of_keeps_crew h.to).trans (by rw [horders, hport])

/-- Settles O32: CANCEL_PERMIT by its checks and what it leaves of every table. -/
theorem cancelPermitReleasesEverything : Obligations.CancelPermitReleasesEverything := by
  unfold Obligations.CancelPermitReleasesEverything
  intro s tag n h
  dsimp only
  cases hp : permitOf s n with
  | none => exact cancelPermit_notFound h tag n hp
  | some p =>
    obtain rfl : p.num = n := (findBy_some hp).1
    dsimp only
    by_cases hended : p.state = .closed ∨ p.state = .cancelled
    · rw [if_pos hended]
      exact cancelPermit_wrongState h tag _ hp (.inl ((PermitState.isOpen_eq_false _).mpr hended))
    have hopen : p.state.isOpen = true := by
      rw [← Bool.not_eq_false]
      exact mt (PermitState.isOpen_eq_false _).mp hended
    rw [if_neg hended, ← Permit.executing_eq]
    by_cases hexecuting : p.executing = true
    · rw [if_pos hexecuting]
      exact cancelPermit_wrongState h tag _ hp (.inr hexecuting)
    rw [if_neg hexecuting]
    let a := answered s 0x14 tag .ok .none
    have hkeeps : Keeps [.sup, .port] s a := answered_keeps s 0x14 tag _ _
    have hpa : permitOf a p.num = some p := (congrFun (permitOf_of_keeps hkeeps) _).trans hp
    have hexec := exec_cancelPermit h tag _ hp hopen (Bool.eq_false_iff.mpr hexecuting)
    have hposted := post_keeps (finalSent a p) (.permitState p.num .cancelled p.holder p.linked Causes.none)
    have hanswer := answerIn_of_keeps hkeeps p.holder p.num
    have hask := askOf_of_keeps hkeeps p.num
    rw [applyCancelPermit_eq hpa] at hexec
    refine ⟨_, p.revoked, hexec, ?_, rfl, fun m hm => ?_, ?_, fun m q hq => ?_, fun m hm => ?_, fun k hk => ?_, ?_⟩
    · rw [permitOf_of_keeps hposted, permitOf_of_keeps (finalSent_keeps a p), permitOf_cancelling hpa, if_pos rfl]
    · rw [permitOf_of_keeps hposted, permitOf_of_keeps (finalSent_keeps a p), permitOf_cancelling hpa, if_neg hm,
        permitOf_of_keeps hkeeps]
    · refine (hposted .asks (by decide)).trans ((finalSent_keeps a p .asks (by decide)).trans ((cancelling_asks a p).trans ?_))
      exact congrArg (List.filter _) (hkeeps .asks (by decide))
    · refine ⟨q.busy.filter fun b => b.permit != p.num, ?_, ?_⟩
      · rw [pointOf_of_keeps hposted, pointOf_of_keeps (finalSent_keeps a p), pointOf_cancelling, pointOf_of_keeps hkeeps, hq]
        rfl
      · cases q.busy with
        | none => rfl
        | some y => by_cases hy : y.permit = p.num <;> simp [hy, Option.filter]
    · rw [truckOf_of_keeps hposted, truckOf_finalSent_ne hpa hm, truckOf_of_keeps hkeeps]
    · obtain ⟨k', hk', hframe, hcancelled, hnever, hfinal, hothers⟩ :=
        truckOf_finalSent hpa ((truckOf_of_keeps hkeeps _).trans hk)
      rw [cancelledAnswer, hanswer, hask] at hcancelled
      rw [hanswer, hask] at hnever
      rw [← answerIn_of_keeps hposted] at hcancelled
      refine ⟨k', (truckOf_of_keeps hposted _).trans hk', hframe, fun c hc => ?_, fun hnone => ?_, hnever, hfinal, hothers⟩
      · rw [hc] at hcancelled
        exact hcancelled
      · rw [hnone] at hcancelled
        exact hcancelled
    · exact eq_of_keeps_permitsAsks (((cancelling_keeps a p).trans (finalSent_keeps a p).to).post _)

end Sys2Proof.Machine

/-!
PROOFS. What one answer, one step and one busy mark changed leave as they were, and with these the supersession of a GRANT and
the refusal of a pending request (R79, R100, R104).
-/
namespace Sys2Proof.Machine

-- The proofs are taken one after another: side by side they wait for each other in more threads than the check can hold.
set_option Elab.async false

/-! ## One record changed (R114) -/

theorem OnlyRecord.refl (s : State) (t : Nat) (x : Subject) : OnlyRecord s s t x :=
  ⟨fun _ _ => rfl, fun k hk => ⟨k, hk, rfl, fun _ _ => rfl⟩⟩

section
variable {s u : State} {t : Nat} {x : Subject}

theorem OnlyRecord.of_trucks {v w : State} (h : OnlyRecord s u t x) (hv : v.trucks = s.trucks) (hw : w.trucks = u.trucks) :
    OnlyRecord v w t x := by
  unfold OnlyRecord truckOf at *
  rw [hv, hw]
  exact h

theorem OnlyRecord.to {l : List Field} {v : State} (h : OnlyRecord s u t x) (hv : Keeps l u v)
    (hl : .trucks ∉ l := by decide) : OnlyRecord s v t x := h.of_trucks rfl (hv .trucks hl)

theorem OnlyRecord.from {l : List Field} {v : State} (h : OnlyRecord u s t x) (hv : Keeps l v u)
    (hl : .trucks ∉ l := by decide) : OnlyRecord v s t x := h.of_trucks (hv .trucks hl).symm rfl

/-- Every truck keeps all but its queue, and every record but the one. -/
theorem OnlyRecord.truck (h : OnlyRecord s u t x) {m : Nat} {k : Truck} (hk : truckOf s m = some k) :
    ∃ k', truckOf u m = some k' ∧ k' = { k with queue := k'.queue, seqCtr := k'.seqCtr } ∧
      ∀ y, y ≠ x → recFor k'.queue y = recFor k.queue y := by
  by_cases hm : m = t
  · subst hm
    exact h.2 k hk
  · exact ⟨k, (h.1 m hm).trans hk, rfl, fun _ _ => rfl⟩

theorem onlyRecord_give (s : State) (t : Nat) (c : Content) : OnlyRecord s (give s t c) t c.subject := by
  by_cases hroom : canGive s t c.subject = true
  · refine ⟨fun m hm => truckOf_give_ne s c hm, fun k hk => ?_⟩
    obtain ⟨k', r, hk', hframe, -, -, -, -, hothers⟩ := truckOf_give hk ((canGive_iff hk).mp hroom)
    exact ⟨k', hk', hframe, hothers⟩
  · rw [give_refused (Bool.eq_false_iff.mpr hroom)]
    exact .refl s t _

/-- An answer that can be placed stands. -/
theorem answerIn_give {n : Nat} {c : AnswerContent} (hc : c.permit = n) (hroom : canGive s t (.answer n) = true) :
    answerIn (give s t (.answer c)) t n = some c := by
  cases hk : truckOf s t with
  | none => simp [canGive, hk] at hroom
  | some k =>
    obtain ⟨-, -, -, hanswer, -⟩ := truckOf_give_answer hk hc ((canGive_iff hk).mp hroom)
    exact hanswer

end

/-! ## One step changed (R65) -/

/-- A step PENDING again with a reason (R97, R103, R104). -/
def StepRec.returned (r : Option Reason) (x : StepRec) : StepRec := { x with state := .pending, reason := r }

/-- A changed step leaves the rest of its permit (R65). -/
theorem Permit.withStep_eq (p : Permit) (i : StepId) (f : StepRec → StepRec) :
    p.withStep i f = { p with iso := (p.withStep i f).iso, rest := (p.withStep i f).rest } := by
  unfold Permit.withStep
  split_ifs <;> rfl

theorem onlyStep_modStep (s : State) (n : Nat) (i : StepId) (f : StepRec → StepRec) : OnlyStep s (modStep s n i f) n i f := by
  refine ⟨fun m hm => ?_, fun p hp => ⟨p.withStep i f, ?_, Permit.withStep_eq p i f, ?_, fun j hj => ?_⟩⟩
  · simp only [permitOf_modStep, if_neg hm, Option.map_id']
  · rw [permitOf_modStep, hp, Option.map_some, if_pos rfl]
  · simp only [Permit.step_withStep, if_true]
  · simp only [Permit.step_withStep, if_neg hj, Option.map_id']

section
variable {s u : State} {n : Nat} {i : StepId} {f : StepRec → StepRec} (h : OnlyStep s u n i f)
include h

theorem OnlyStep.to {l : List Field} {v : State} (hv : Keeps l u v) (hl : .permits ∉ l := by decide) : OnlyStep s v n i f := by
  unfold OnlyStep
  rw [permitOf_of_keeps hv hl]
  exact h

theorem OnlyStep.from {l : List Field} {v : State} (hv : Keeps l v s) (hl : .permits ∉ l := by decide) : OnlyStep v u n i f := by
  unfold OnlyStep
  rw [← permitOf_of_keeps hv hl]
  exact h

theorem OnlyStep.stepIn {p : Permit} (hp : permitOf s n = some p) (j : StepId) :
    stepIn u n j = (stepIn s n j).map fun x => if j = i then f x else x := by
  obtain ⟨q, hq, -, hstep, hsteps⟩ := h.2 p hp
  rw [Machine.stepIn, Machine.stepIn, hp, hq, Option.bind_some, Option.bind_some]
  by_cases hj : j = i
  · simp only [hj, hstep, if_true]
  · simp only [if_neg hj, hsteps j hj, Option.map_id']

end

theorem stepIn_eq {s : State} {n : Nat} {p : Permit} (hp : permitOf s n = some p) (i : StepId) : stepIn s n i = p.step i := by
  rw [stepIn, hp, Option.bind_some]

theorem holderOf_eq {s : State} {n : Nat} {p : Permit} (hp : permitOf s n = some p) : holderOf s n = p.holder := by
  simp only [holderOf, hp]

/-! ## One busy mark cleared (R90) -/

/-- A point without the busy mark of a step (R90). -/
def Point.unmarked (n : Nat) (i : StepId) (q : Point) : Point :=
  if q.busy = some { permit := n, step := i } then { q with busy := none } else q

theorem Point.unmarked_num (n : Nat) (i : StepId) (q : Point) : (q.unmarked n i).num = q.num := by
  unfold Point.unmarked
  split_ifs <;> rfl

theorem pointOf_clearBusy (s : State) (j n : Nat) (i : StepId) (m : Nat) :
    pointOf (clearBusy s j n i) m = (pointOf s m).map fun q => if m = j then q.unmarked n i else q :=
  pointOf_modPoint s j m (Point.unmarked n i) fun q hq => (Point.unmarked_num n i q).trans hq

theorem pointOf_clearStepBusy (s : State) (n : Nat) (i : StepId) (m : Nat) :
    pointOf (clearStepBusy s n i) m =
      (pointOf s m).map fun q => if (stepIn s n i).map StepRec.point = some m then q.unmarked n i else q := by
  unfold clearStepBusy
  cases stepIn s n i with
  | none => simp
  | some x =>
    simp only [pointOf_clearBusy, Option.map_some, Option.some.injEq]
    simp only [eq_comm]

/-! ## A pending request refused (R79 step 4, R100, R104 step 1) -/

section
variable {s : State} {n : Nat} (why : Reason)

theorem refusePending_of_none (hask : askOf s n = none) : refusePending s n why = s := by
  simp only [refusePending, hask]

variable {a : Ask} (hask : askOf s n = some a)
include hask

theorem refusePending_eq : refusePending s n why =
    stepPending (removeAsk (give s a.holder (.answer (refuseContent n a.step why))) n) n a.step (some why) := by
  simp only [refusePending, hask]

theorem refusePending_record : OnlyRecord s (refusePending s n why) a.holder (.answer n) := by
  rw [refusePending_eq why hask]
  exact ((onlyRecord_give s _ _).to (removeAsk_keeps _ n)).to (stepPending_keeps _ _ _ _)

theorem refusePending_step : OnlyStep s (refusePending s n why) n a.step (StepRec.returned (some why)) := by
  rw [refusePending_eq why hask]
  exact ((onlyStep_modStep _ n a.step _).from (removeAsk_keeps _ n)).from (give_keeps s _ _)

theorem refusePending_answered (hroom : canGive s a.holder (.answer n) = true) :
    answerIn (refusePending s n why) a.holder n = some (refuseContent n a.step why) := by
  rw [refusePending_eq why hask, answerIn_of_keeps (stepPending_keeps _ _ _ _), answerIn_of_keeps (removeAsk_keeps _ n)]
  exact answerIn_give rfl hroom

theorem refusePending_trucks (hfull : ¬canGive s a.holder (.answer n) = true) : (refusePending s n why).trucks = s.trucks := by
  rw [refusePending_eq why hask, give_refused (c := .answer (refuseContent n a.step why)) (Bool.eq_false_iff.mpr hfull)]
  rfl

end

/-! ## A GRANT superseded (R79 step 3, R104 step 2, R126) -/

section
variable {s : State} {n : Nat} {p : Permit} (hp : permitOf s n = some p) (why : Reason)
include hp

theorem supersede_of_no_grant (h : ∀ c, answerIn s p.holder n = some c → c.kind ≠ .grant) : supersede s n why = s := by
  cases hc : answerIn s p.holder n with
  | none => simp only [supersede, holderOf_eq hp, hc]
  | some c => simp only [supersede, holderOf_eq hp, hc, h c hc, if_false]

variable {c : AnswerContent} (hc : answerIn s p.holder n = some c) (hgrant : c.kind = .grant)
include hc hgrant

theorem supersede_eq : supersede s n why =
    clearStepBusy (stepPending (give s p.holder (.answer (refuseContent n c.step why))) n c.step (some why)) n c.step := by
  simp only [supersede, holderOf_eq hp, hc, hgrant, if_true]

theorem supersede_record : OnlyRecord s (supersede s n why) p.holder (.answer n) := by
  rw [supersede_eq hp why hc hgrant]
  exact ((onlyRecord_give s _ _).to (stepPending_keeps _ _ _ _)).to (clearStepBusy_keeps _ _ _)

theorem supersede_answered : answerIn (supersede s n why) p.holder n = some (refuseContent n c.step why) := by
  rw [supersede_eq hp why hc hgrant, answerIn_of_keeps (clearStepBusy_keeps _ _ _), answerIn_of_keeps (stepPending_keeps _ _ _ _)]
  exact answerIn_give rfl (canGive_of_answerIn hc)

theorem supersede_step : OnlyStep s (supersede s n why) n c.step (StepRec.returned (some why)) := by
  rw [supersede_eq hp why hc hgrant]
  exact ((onlyStep_modStep _ n c.step _).from (give_keeps s _ _)).to (clearStepBusy_keeps _ _ _)

theorem supersede_point (m : Nat) : pointOf (supersede s n why) m =
    (pointOf s m).map fun q => if (p.step c.step).map StepRec.point = some m then q.unmarked n c.step else q := by
  have hgiven := give_keeps s p.holder (.answer (refuseContent n c.step why))
  have hstep := ((onlyStep_modStep _ n c.step (StepRec.returned (some why))).from hgiven).stepIn hp c.step
  rw [stepIn_eq hp] at hstep
  rw [supersede_eq hp why hc hgrant, pointOf_clearStepBusy, pointOf_of_keeps (stepPending_keeps _ _ _ _),
    pointOf_of_keeps hgiven]
  refine congrArg (Option.map · _) (funext fun q => ?_)
  change (if (stepIn (modStep _ n c.step (StepRec.returned (some why))) n c.step).map StepRec.point = some m then _ else _) = _
  rw [hstep]
  cases p.step c.step with
  | none => rfl
  | some x => simp [StepRec.returned]

end

end Sys2Proof.Machine

/-!
PROOFS. A halt cause added (R78, R79), HALT_PERMIT and an alarm's halts (R82): the record, the GRANT and the pending entry of
the permit halted.
-/
namespace Sys2Proof.Machine

-- The proofs are taken one after another: side by side they wait for each other in more threads than the check can hold.
set_option Elab.async false

/-! ## Steps returned (R79) -/

/-- A permit with a step, where one is named, PENDING again. -/
def Permit.returned (why : Reason) (o : Option StepId) (p : Permit) : Permit :=
  o.elim p fun i => p.withStep i (StepRec.returned (some why))

theorem Permit.returned_step (p : Permit) (why : Reason) (o : Option StepId) (j : StepId) :
    (p.returned why o).step j = (p.step j).map fun x => if o = some j then x.returned (some why) else x := by
  cases o with
  | none => simp [Permit.returned]
  | some i =>
    simp only [Permit.returned, Option.elim_some, Permit.step_withStep, Option.some.injEq]
    simp only [eq_comm]

theorem Permit.returned_eq (p : Permit) (why : Reason) (o : Option StepId) :
    p.returned why o = { p with iso := (p.returned why o).iso, rest := (p.returned why o).rest } := by
  cases o with
  | none => rfl
  | some i => exact Permit.withStep_eq p i _

/-- The step of the GRANT a truck's queue holds for a permit. -/
def grantStep (s : State) (t n : Nat) : Option StepId :=
  ((answerIn s t n).filter fun c => c.kind == .grant).map AnswerContent.step

theorem grantStep_of_grant {s : State} {t n : Nat} {c : AnswerContent} (hc : answerIn s t n = some c)
    (hgrant : c.kind = .grant) : grantStep s t n = some c.step := by
  simp [grantStep, hc, hgrant, Option.filter]

theorem grantStep_of_none {s : State} {t n : Nat} (h : ∀ c, answerIn s t n = some c → c.kind ≠ .grant) :
    grantStep s t n = none := by
  cases hc : answerIn s t n with
  | none => simp [grantStep, hc]
  | some c => simp [grantStep, hc, Option.filter, h c hc]

/-- A GRANT stands or none does. -/
theorem grant_cases (s : State) (t n : Nat) : (∃ c, answerIn s t n = some c ∧ c.kind = .grant) ∨
    ∀ c, answerIn s t n = some c → c.kind ≠ .grant := by
  cases hc : answerIn s t n with
  | none => exact .inr fun c h => by simp at h
  | some c =>
    by_cases hgrant : c.kind = .grant
    · exact .inl ⟨c, rfl, hgrant⟩
    · exact .inr fun d hd => by rwa [← Option.some.inj hd]

theorem permitOf_refusePending (s : State) (n : Nat) (why : Reason) (m : Nat) : permitOf (refusePending s n why) m =
    (permitOf s m).map fun p => if m = n then p.returned why ((askOf s n).map Ask.step) else p := by
  cases hask : askOf s n with
  | none => simp [refusePending_of_none why hask, Permit.returned]
  | some a =>
    rw [refusePending_eq why hask]
    exact (permitOf_modStep _ n m a.step _).trans
      (by rw [permitOf_of_keeps (removeAsk_keeps _ n), permitOf_of_keeps (give_keeps s _ _)]; rfl)

section
variable {s : State} {n : Nat} {p : Permit} (hp : permitOf s n = some p) (why : Reason)
include hp

theorem permitOf_supersede (m : Nat) : permitOf (supersede s n why) m =
    (permitOf s m).map fun q => if m = n then q.returned why (grantStep s p.holder n) else q := by
  rcases grant_cases s p.holder n with ⟨c, hc, hgrant⟩ | hno
  · rw [supersede_eq hp why hc hgrant, grantStep_of_grant hc hgrant, permitOf_of_keeps (clearStepBusy_keeps _ _ _)]
    exact (permitOf_modStep _ n m c.step _).trans (by rw [permitOf_of_keeps (give_keeps s _ _)]; rfl)
  · simp [supersede_of_no_grant hp why hno, grantStep_of_none hno, Permit.returned]

theorem onlyRecord_supersede : OnlyRecord s (supersede s n why) p.holder (.answer n) := by
  rcases grant_cases s p.holder n with ⟨c, hc, hgrant⟩ | hno
  · exact supersede_record hp why hc hgrant
  · rw [supersede_of_no_grant hp why hno]
    exact .refl s _ _

/-- A supersession takes a busy mark off a point, if anything. -/
theorem pointOf_supersede {m : Nat} {q : Point} (hq : pointOf s m = some q) :
    ∃ b, pointOf (supersede s n why) m = some { q with busy := b } ∧
      (b = q.busy ∨ (b = none ∧ ∃ i, q.busy = some { permit := n, step := i })) := by
  rcases grant_cases s p.holder n with ⟨c, hc, hgrant⟩ | hno
  · rw [supersede_point hp why hc hgrant, hq, Option.map_some, Point.unmarked]
    split_ifs with _ hbusy
    · exact ⟨none, rfl, .inr ⟨rfl, c.step, hbusy⟩⟩
    · exact ⟨q.busy, rfl, .inl rfl⟩
    · exact ⟨q.busy, rfl, .inl rfl⟩
  · rw [supersede_of_no_grant hp why hno]
    exact ⟨q.busy, hq, .inl rfl⟩

end

/-- What a request refused changes of a truck: its queue, and there the answer alone. -/
theorem truckOf_refusePending {s : State} {n m : Nat} (why : Reason) {k : Truck} (hk : truckOf s m = some k) :
    ∃ k', truckOf (refusePending s n why) m = some k' ∧ k' = { k with queue := k'.queue, seqCtr := k'.seqCtr } ∧
      ∀ y, y ≠ .answer n → recFor k'.queue y = recFor k.queue y := by
  cases hask : askOf s n with
  | none =>
    rw [refusePending_of_none why hask]
    exact ⟨k, hk, rfl, fun _ _ => rfl⟩
  | some a => exact (refusePending_record why hask).truck hk

/-! ## The length of a queue (R114) -/

/-- A record placed anew lengthens a queue of at most one record a subject by one; an update keeps its length. -/
theorem Truck.length_give {now wait : Nat} {k u : Truck} {c : Content} (h : k.give now wait c = some u)
    (hn : (k.queue.map Rec.subject).Nodup) :
    u.queue.length = if (recFor k.queue c.subject).isSome = true then k.queue.length else k.queue.length + 1 := by
  obtain ⟨r, hcontent, -, ⟨old, hold, hsubject, rfl⟩ | ⟨hnone, -, rfl⟩⟩ := give_cases h
  · have hstood : recFor k.queue c.subject = some old := by rw [← hcontent, ← hold, ← hsubject]; rfl
    rw [if_pos (by rw [hstood]; rfl)]
    exact (placeUpdated_perm hn hold hsubject).length_eq.trans (cons_without_perm hn hold).length_eq
  · have habsent : recFor k.queue c.subject = none := by rw [← hcontent, ← hnone]; rfl
    rw [if_neg (by rw [habsent]; simp)]
    exact (placeNew_perm hn hnone).length_eq

theorem length_give {s : State} {t : Nat} {k k' : Truck} {c : Content} (hk : truckOf s t = some k)
    (hn : (k.queue.map Rec.subject).Nodup) (hk' : truckOf (give s t c) t = some k') :
    k'.queue.length = if (recFor k.queue c.subject).isSome = true then k.queue.length
      else if k.queue.length < 12 then k.queue.length + 1 else k.queue.length := by
  cases hgive : k.give s.now s.timeouts.discard c with
  | none =>
    have hfull : ¬((recFor k.queue c.subject).isSome = true ∨ k.queue.length < 12) := by
      have := give_isSome s.now s.timeouts.discard k c
      rw [hgive] at this
      simpa [Truck.canTake] using this.symm
    have hsame : give s t c = s := by simp only [give, hk, hgive]
    rw [hsame, hk] at hk'
    rw [← Option.some.inj hk', if_neg fun h => hfull (.inl h), if_neg fun h => hfull (.inr h)]
  | some u =>
    have hroom : k.canTake c.subject = true := by rw [← give_isSome s.now s.timeouts.discard, hgive]; rfl
    have hnum : u.num = t := by
      obtain ⟨-, -, -, ⟨-, -, -, rfl⟩ | ⟨-, -, rfl⟩⟩ := give_cases hgive <;> exact (findBy_some hk).1
    have hu : truckOf (give s t c) t = some u := by
      simp only [give, hk, hgive]
      exact (truckOf_modTruck s t t (fun _ => u) fun _ _ => hnum).trans (by rw [hk, Option.map_some, if_pos rfl])
    rw [hu] at hk'
    rw [← Option.some.inj hk', Truck.length_give hgive hn]
    split_ifs with hstood hshort
    · rfl
    · rfl
    · simp [Truck.canTake, hstood, hshort] at hroom

/-- A PERMIT record given leaves every answer as it was. -/
theorem answerIn_give_permit (s : State) (t : Nat) (c : PermitContent) (m n : Nat) :
    answerIn (give s t (.permit c)) m n = answerIn s m n := by
  by_cases hroom : canGive s t (Content.permit c).subject = true
  · obtain ⟨r, -, hrec⟩ := recOf_give hroom m (.answer n)
    rw [answerIn, hrec, if_neg (by simp [Content.subject])]
    rfl
  · rw [give_refused (Bool.eq_false_iff.mpr hroom)]

/-- A value told by cases. -/
theorem eq_by_cases {α : Type} {P : Prop} [Decidable P] {x a b : α} (h : x = if P then a else b) :
    if P then x = a else x = b := by
  split_ifs at h ⊢ <;> exact h

/-! ## A cause added (R78, R79) -/

/-- A permit with a cause in its set (R78). -/
def Permit.withCause (c : Cause) (p : Permit) : Permit := { p with causes := p.causes.put true c }

/-- The cause set and PERMIT_HALT posted, before the holder is told. -/
def causeSet (s : State) (n : Nat) (p : Permit) (c : Cause) : State :=
  post (modPermit s n fun x => { x with causes := p.causes.put true c }) (.permitHalt n p.holder c true (p.causes.put true c))

/-- The permit's record given with its set, before anything of it is withdrawn. -/
def haltTold (s : State) (n : Nat) (p : Permit) (c : Cause) : State :=
  give (causeSet s n p c) p.holder (.permit (permitContent (p.withCause c)))

section
variable {s : State} {n : Nat} {p : Permit} (hp : permitOf s n = some p) (c : Cause)
include hp

theorem causeSet_spec : CauseState s n p (causeSet s n p c) (p.causes.put true c)
    [.permitHalt n p.holder c true (p.causes.put true c)] := (CauseState.start hp).put _ _

theorem addCause_eq (hopen : p.state.isOpen = true) (hc : p.causes.has c = false) : addCause s n c =
    if p.issueTime.isSome = true then refusePending (supersede (haltTold s n p c) n .halted) n .halted
    else causeSet s n p c := by
  have hset := givePermit_eq (causeSet_spec hp c).permit
  rw [addCause, hp]
  simp only [hopen, hc, Bool.not_false, Bool.and_self, if_true, Permit.issued]
  change (if _ then refusePending (supersede (givePermit (causeSet s n p c) n) n .halted) n .halted else _) = _
  rw [hset]
  rfl

theorem permitOf_haltTold (m : Nat) : permitOf (haltTold s n p c) m = if m = n then some (p.withCause c) else permitOf s m := by
  rw [haltTold, permitOf_of_keeps (give_keeps _ _ _)]
  split_ifs with hm
  · exact hm ▸ (causeSet_spec hp c).permit
  · exact (causeSet_spec hp c).others m hm

theorem haltTold_record : OnlyRecord s (haltTold s n p c) p.holder (.permit n) := by
  obtain rfl : p.num = n := (findBy_some hp).1
  exact (onlyRecord_give _ _ (.permit (permitContent (p.withCause c)))).from (causeSet_spec hp c).all

theorem haltTold_keeps : Keeps [.permits, .trucks, .askArb]
    (posted s [.permitHalt n p.holder c true (p.causes.put true c)]) (haltTold s n p c) :=
  (causeSet_spec hp c).keeps.to.trans (give_keeps _ _ _).to

theorem answerIn_haltTold : answerIn (haltTold s n p c) p.holder n = answerIn s p.holder n :=
  (answerIn_give_permit _ _ _ _ _).trans (answerIn_of_keeps (causeSet_spec hp c).all _ _)

theorem askOf_haltTold : askOf (haltTold s n p c) n = askOf s n :=
  (askOf_of_keeps (give_keeps _ _ _) n).trans (askOf_of_keeps (causeSet_spec hp c).all n)

end

/-- The permit's GRANT and its pending entry withdrawn (R79 steps 3 and 4). -/
def haltDone (s : State) (n : Nat) (p : Permit) (c : Cause) : State :=
  refusePending (supersede (haltTold s n p c) n .halted) n .halted

/-- The permit halted: its set, and the steps of its GRANT and of its entry PENDING. -/
def Permit.halted (s : State) (c : Cause) (p : Permit) : Permit :=
  ((p.withCause c).returned .halted (grantStep s p.holder p.num)).returned .halted ((askOf s p.num).map Ask.step)

theorem Permit.halted_eq (s : State) (c : Cause) (p : Permit) :
    p.halted s c = { p with causes := p.causes.put true c, iso := (p.halted s c).iso, rest := (p.halted s c).rest } := by
  rw [Permit.halted, Permit.returned_eq, Permit.returned_eq (p.withCause c)]
  rfl

theorem Permit.halted_step (s : State) (c : Cause) (p : Permit) (j : StepId) : (p.halted s c).step j =
    (p.step j).map fun x => if grantStep s p.holder p.num = some j ∨ (askOf s p.num).map Ask.step = some j then
      x.returned (some .halted) else x := by
  rw [Permit.halted, Permit.returned_step, Permit.returned_step, Option.map_map]
  refine congrArg (Option.map · _) (funext fun x => ?_)
  by_cases hgrant : grantStep s p.holder p.num = some j <;> by_cases hask : (askOf s p.num).map Ask.step = some j <;>
    simp [hgrant, hask, StepRec.returned]

section
variable {s : State} {p : Permit} (hp : permitOf s p.num = some p) (c : Cause)
include hp

theorem permitOf_haltTold_self : permitOf (haltTold s p.num p c) p.num = some (p.withCause c) :=
  (permitOf_haltTold hp c _).trans (if_pos rfl)

theorem askOf_superseded : askOf (supersede (haltTold s p.num p c) p.num .halted) p.num = askOf s p.num :=
  (askOf_of_keeps (supersede_keeps _ _ _) _).trans (askOf_haltTold hp c)

theorem permitOf_haltDone (m : Nat) :
    permitOf (haltDone s p.num p c) m = if m = p.num then some (p.halted s c) else permitOf s m := by
  rw [haltDone, permitOf_refusePending, permitOf_supersede (permitOf_haltTold_self hp c), permitOf_haltTold hp c,
    askOf_superseded hp c]
  by_cases hm : m = p.num
  · simp only [hm, if_true, Option.map_some, Permit.halted, ← answerIn_haltTold hp c, grantStep]
    rfl
  · simp only [if_neg hm, Option.map_id']

theorem pointOf_haltDone {m : Nat} {q : Point} (hq : pointOf s m = some q) :
    ∃ b, pointOf (haltDone s p.num p c) m = some { q with busy := b } ∧
      (b = q.busy ∨ (b = none ∧ ∃ i, q.busy = some { permit := p.num, step := i })) := by
  rw [haltDone, pointOf_of_keeps (refusePending_keeps _ _ _)]
  refine pointOf_supersede (permitOf_haltTold_self hp c) .halted ?_
  rw [haltTold, pointOf_of_keeps (give_keeps _ _ _), pointOf_of_keeps (causeSet_spec hp c).all, hq]

theorem haltDone_asks : (haltDone s p.num p c).asks = s.asks.filter fun a => a.permit != p.num := by
  rw [haltDone, refusePending_asks]
  exact congrArg (List.filter _) ((supersede_keeps _ _ _ .asks (by decide)).trans
    ((give_keeps _ _ _ .asks (by decide)).trans ((causeSet_spec hp c).all .asks (by decide))))

theorem haltDone_keeps : Keeps [.trucks, .permits, .points, .asks, .askArb]
    (posted s [.permitHalt p.num p.holder c true (p.causes.put true c)]) (haltDone s p.num p c) :=
  (haltTold_keeps hp c).to.trans ((supersede_keeps _ _ _).to.trans (refusePending_keeps _ _ _).to)

theorem truckOf_superseded_ne {m : Nat} (hm : m ≠ p.holder) :
    truckOf (supersede (haltTold s p.num p c) p.num .halted) m = truckOf s m :=
  ((onlyRecord_supersede (permitOf_haltTold_self hp c) .halted).1 m hm).trans ((haltTold_record hp c).1 m hm)

theorem truckOf_haltDone_ne {m : Nat} (hm : m ≠ p.holder) (hask : ∀ a, askOf s p.num = some a → a.holder ≠ m) :
    truckOf (haltDone s p.num p c) m = truckOf s m := by
  rw [haltDone]
  cases ha : askOf s p.num with
  | none => rw [refusePending_of_none _ ((askOf_superseded hp c).trans ha), truckOf_superseded_ne hp c hm]
  | some a =>
    rw [(refusePending_record .halted ((askOf_superseded hp c).trans ha)).1 m (hask a ha).symm, truckOf_superseded_ne hp c hm]

section
variable {k : Truck} (hk : truckOf s p.holder = some k)
include hk

/-- The holder once its record has been given: all but the queue is as it was, and in the queue all but the record. -/
theorem truckOf_haltTold : ∃ k', truckOf (haltTold s p.num p c) p.holder = some k' ∧
    k' = { k with queue := k'.queue, seqCtr := k'.seqCtr } ∧
    (∀ x, x ≠ .permit p.num → recFor k'.queue x = recFor k.queue x) ∧
    ((recFor k.queue (.permit p.num)).isSome = true ∨ k.queue.length < 12 →
      ∃ r, recFor k'.queue (.permit p.num) = some r ∧ r.attempts = 0 ∧ r.inFlight = false ∧
        r.content = .permit (permitContent (p.withCause c))) ∧
    ((k.queue.map Rec.subject).Nodup → k'.queue.length = if (recFor k.queue (.permit p.num)).isSome = true then k.queue.length
      else if k.queue.length < 12 then k.queue.length + 1 else k.queue.length) := by
  have hset := (truckOf_of_keeps (causeSet_spec hp c).all p.holder).trans hk
  obtain ⟨k', hk', hframe, hothers⟩ := (haltTold_record hp c).truck hk
  refine ⟨k', hk', hframe, hothers, fun hroom => ?_, fun hn => length_give hset hn hk'⟩
  obtain ⟨k'', r, hk'', -, hrec, hcontent, hattempts, hflight, -⟩ :=
    truckOf_give_permit (c := permitContent (p.withCause c)) hset hroom
  rw [haltTold] at hk'
  obtain rfl : k'' = k' := Option.some.inj (hk''.symm.trans hk')
  exact ⟨r, hrec, hattempts, hflight, hcontent⟩

theorem truckOf_haltDone : ∃ k', truckOf (haltDone s p.num p c) p.holder = some k' ∧
    k' = { k with queue := k'.queue, seqCtr := k'.seqCtr } ∧
    ((recFor k.queue (.permit p.num)).isSome = true ∨ k.queue.length < 12 →
      ∃ r, recFor k'.queue (.permit p.num) = some r ∧ r.attempts = 0 ∧ r.inFlight = false ∧
        r.content = .permit (permitContent (p.withCause c))) ∧
    ∀ x, x ≠ .permit p.num → x ≠ .answer p.num → recFor k'.queue x = recFor k.queue x := by
  obtain ⟨k1, hk1, hframe1, hothers1, hrec, -⟩ := truckOf_haltTold hp c hk
  obtain ⟨k2, hk2, hframe2, hothers2⟩ := (onlyRecord_supersede (permitOf_haltTold_self hp c) .halted).truck hk1
  obtain ⟨k3, hk3, hframe3, hothers3⟩ := truckOf_refusePending (n := p.num) .halted hk2
  refine ⟨k3, hk3, ?_, fun hroom => ?_, fun x hx hx' => ?_⟩
  · rw [hframe3, hframe2, hframe1]
  · rw [hothers3 _ (by simp), hothers2 _ (by simp)]
    exact hrec hroom
  · rw [hothers3 x hx', hothers2 x hx', hothers1 x hx]

end

/-- A GRANT and no entry: the GRANT is refused (R79 step 3). -/
theorem answerIn_haltDone_grant {a : AnswerContent} (ha : answerIn s p.holder p.num = some a) (hgrant : a.kind = .grant)
    (hask : askOf s p.num = none) :
    answerIn (haltDone s p.num p c) p.holder p.num = some (refuseContent p.num a.step .halted) := by
  rw [haltDone, refusePending_of_none _ ((askOf_superseded hp c).trans hask)]
  exact supersede_answered (permitOf_haltTold_self hp c) .halted ((answerIn_haltTold hp c).trans ha) hgrant

theorem superseded_eq_of_no_grant (hno : ∀ b, answerIn s p.holder p.num = some b → b.kind ≠ .grant) :
    supersede (haltTold s p.num p c) p.num .halted = haltTold s p.num p c :=
  supersede_of_no_grant (permitOf_haltTold_self hp c) .halted fun b hb => hno b ((answerIn_haltTold hp c).symm.trans hb)

/-- Neither a GRANT nor an entry: the answer is as it was. -/
theorem answerIn_haltDone_none (hno : ∀ b, answerIn s p.holder p.num = some b → b.kind ≠ .grant)
    (hask : askOf s p.num = none) : answerIn (haltDone s p.num p c) p.holder p.num = answerIn s p.holder p.num := by
  rw [haltDone, refusePending_of_none _ ((askOf_superseded hp c).trans hask), superseded_eq_of_no_grant hp c hno,
    answerIn_haltTold hp c]

/-- An entry is answered where behind the PERMIT record there is room (R79 step 4). -/
theorem answerIn_haltDone_ask {a : Ask} (ha : askOf s p.num = some a) (hholder : a.holder = p.holder) {k : Truck}
    (hk : truckOf s p.holder = some k) (hn : (k.queue.map Rec.subject).Nodup) :
    answerIn (haltDone s p.num p c) p.holder p.num =
      if (recFor k.queue (.answer p.num)).isSome = true ∨
          (if (recFor k.queue (.permit p.num)).isSome = true then k.queue.length else k.queue.length + 1) < 12 then
        some (refuseContent p.num a.step .halted)
      else none := by
  obtain ⟨k1, hk1, -, hothers1, -, hlength⟩ := truckOf_haltTold hp c hk
  have hstands := answerIn_isSome (n := p.num) hk
  have hask := (askOf_superseded hp c).trans ha
  have hroom : canGive (supersede (haltTold s p.num p c) p.num .halted) p.holder (.answer p.num) = true ↔
      (recFor k.queue (.answer p.num)).isSome = true ∨
        (if (recFor k.queue (.permit p.num)).isSome = true then k.queue.length else k.queue.length + 1) < 12 := by
    rcases grant_cases s p.holder p.num with ⟨b, hb, hgrant⟩ | hno
    · have hanswered := supersede_answered (permitOf_haltTold_self hp c) .halted ((answerIn_haltTold hp c).trans hb) hgrant
      exact iff_of_true (canGive_of_answerIn hanswered) (.inl (by rw [← hstands, hb]; rfl))
    · rw [superseded_eq_of_no_grant hp c hno, canGive_iff hk1, hothers1 _ (by simp), hlength hn]
      refine or_congr Iff.rfl ?_
      split_ifs <;> omega
  by_cases h : canGive (supersede (haltTold s p.num p c) p.num .halted) p.holder (.answer p.num) = true
  · rw [if_pos (hroom.mp h), ← hholder]
    exact refusePending_answered .halted hask (hholder ▸ h)
  · have hnone : answerIn s p.holder p.num = none := by
      rw [← Option.not_isSome_iff_eq_none, hstands]
      exact fun hsome => h (hroom.mpr (.inl hsome))
    have hno : ∀ b, answerIn s p.holder p.num = some b → b.kind ≠ .grant := fun b hb => by simp [hnone] at hb
    rw [if_neg (mt hroom.mpr h), haltDone, answerIn_of_trucks (refusePending_trucks .halted hask (hholder ▸ h)),
      superseded_eq_of_no_grant hp c hno, answerIn_haltTold hp c, hnone]

/-- The mark of the GRANT's step is cleared (R79 step 3). -/
theorem pointOf_haltDone_grant {a : AnswerContent} (ha : answerIn s p.holder p.num = some a) (hgrant : a.kind = .grant)
    {x : StepRec} (hx : p.step a.step = some x) {q : Point} (hq : pointOf s x.point = some q)
    (hbusy : q.busy = some { permit := p.num, step := a.step }) :
    pointOf (haltDone s p.num p c) x.point = some { q with busy := none } := by
  have hx' : (p.withCause c).step a.step = some x := hx
  rw [haltDone, pointOf_of_keeps (refusePending_keeps _ _ _),
    supersede_point (permitOf_haltTold_self hp c) .halted ((answerIn_haltTold hp c).trans ha) hgrant, hx', haltTold,
    pointOf_of_keeps (give_keeps _ _ _), pointOf_of_keeps (causeSet_spec hp c).all, hq]
  simp only [Option.map_some, if_true, Point.unmarked, hbusy]

end

/-- A cause added to an open permit that has not the cause (R78, R79). -/
theorem addCause_fresh {s : State} {p : Permit} (hp : permitOf s p.num = some p) {c : Cause} (hopen : p.state.isOpen = true)
    (hc : p.causes.has c = false) :
    (p.issueTime = none ∧ addCause s p.num c = causeSet s p.num p c) ∨
      (p.issueTime.isSome = true ∧ addCause s p.num c = haltDone s p.num p c) := by
  rw [addCause_eq hp c hopen hc]
  split_ifs with hissued
  · exact .inr ⟨hissued, rfl⟩
  · exact .inl ⟨Option.not_isSome_iff_eq_none.mp hissued, rfl⟩

/-! ## An alarm's halts (R82) and HALT_PERMIT (R81) -/

theorem PermitState.halts_iff (x : PermitState) :
    (x.isOpen && x != .loaded) = (x == .issued || x == .isolating || x == .cleared || x == .restoring) := by
  cases x <;> rfl

/-- An alarm halts the permits of the truck's slots that are ISSUED to RESTORING (R82). -/
theorem haltForAlarm_of_truck {s : State} {t : Nat} {k : Truck} (hk : truckOf s t = some k) :
    haltForAlarm s t = k.permitSlots.foldl (fun a n =>
      if ((permitOf a n).any fun p => p.state == .issued || p.state == .isolating || p.state == .cleared ||
        p.state == .restoring) = true then addCause a n .alarm else a) s := by
  simp only [haltForAlarm, hk, eachOf]
  refine congrArg (fun f => k.permitSlots.foldl f s) (funext fun a => funext fun n => ?_)
  cases hp : permitOf a n with
  | none => simp
  | some p => simp only [Option.any_some, PermitState.halts_iff]

section
variable {s : State} (h : Ready s) (tag n : Nat)
include h

theorem haltPermit_notFound (hp : permitOf s n = none) : Refuses (.haltPermit tag n) s .notFound :=
  refuses_of_refuse h rfl rfl fun u hu => by simp only [haltPermit, permitOf_of_keeps hu, hp]

variable {p : Permit} (hp : permitOf s n = some p)
include hp

theorem haltPermit_wrongState (hended : p.state.isOpen = false) : Refuses (.haltPermit tag n) s .wrongState :=
  refuses_of_refuse h rfl rfl fun u hu => by simp only [haltPermit, permitOf_of_keeps hu, hp, hended, if_true]

theorem exec_haltPermit (hopen : p.state.isOpen = true) :
    exec (.haltPermit tag n) s = .next (settleEvent (addCause (answered s 0x12 tag .ok .none) n .host)) :=
  request_carried (f := haltPermit n) (g := (addCause · n .host)) h fun u hu => by
    simp only [haltPermit, permitOf_of_keeps hu, hp, hopen, Bool.true_eq_false, if_false]

/-- Where HOST stands already, nothing follows the reply (R78). -/
theorem exec_haltPermit_idle (hopen : p.state.isOpen = true) (hhost : p.causes.host = true) :
    exec (.haltPermit tag n) s = .next (answered s 0x12 tag .ok .none) := by
  have hkept := (congrFun (permitOf_of_keeps (answered_keeps s 0x12 tag .ok .none)) n).trans hp
  rw [exec_haltPermit h tag n hp hopen, addCause_of_has (c := .host) hkept hhost,
    settleEvent_of_quiet ((answered_askArb s 0x12 tag .ok .none).trans h.2.1)]

end

/-- Settles O30: a cause added with its effects, an alarm's halts, and HALT_PERMIT. -/
theorem haltCauseStopsPermit : Obligations.HaltCauseStopsPermit := by
  unfold Obligations.HaltCauseStopsPermit
  refine ⟨fun s n c p hp hopen hc => ?_, fun s t => ?_, fun s tag n h => ?_⟩
  case refine_2 =>
    cases hk : truckOf s t with
    | none => simp only [haltForAlarm, hk]
    | some k => exact haltForAlarm_of_truck hk
  case refine_3 =>
    cases hp : permitOf s n with
    | none => exact haltPermit_notFound h tag n hp
    | some p =>
      dsimp only
      by_cases hended : p.state = .closed ∨ p.state = .cancelled
      · rw [if_pos hended]
        exact haltPermit_wrongState h tag n hp ((PermitState.isOpen_eq_false _).mpr hended)
      have hopen : p.state.isOpen = true := by
        rw [← Bool.not_eq_false]
        exact mt (PermitState.isOpen_eq_false _).mp hended
      rw [if_neg hended]
      split_ifs with hhost
      · exact exec_haltPermit_idle h tag n hp hopen hhost
      · exact exec_haltPermit h tag n hp hopen
  obtain rfl : p.num = n := (findBy_some hp).1
  intro set
  rcases addCause_fresh hp hopen hc with ⟨hissued, hadded⟩ | ⟨hissued, hadded⟩
  · have hspec := causeSet_spec hp c
    have hnot : ¬p.issueTime.isSome = true := by simp [hissued]
    refine ⟨_, p.withCause c, hadded, hspec.permit, rfl, rfl, rfl, rfl, rfl, hspec.others,
      fun m q hq => ⟨q.busy, (pointOf_of_keeps hspec.all m).trans hq, .inl rfl⟩,
      fun _ => ⟨rfl, hspec.all .trucks (by decide), hspec.all .points (by decide), hspec.all .asks (by decide)⟩,
      fun h => absurd h hnot, fun _ h => absurd h hnot, fun _ _ h => absurd h hnot, fun _ _ h => absurd h hnot,
      fun _ _ _ => rfl, fun _ _ _ h => absurd h hnot, fun h => absurd h hnot,
      fun m _ _ => truckOf_of_keeps hspec.all m, eq_of_keeps_permitsAsks hspec.keeps.to⟩
  · have hissued' : p.issueTime ≠ none := fun hnone => by simp [hnone] at hissued
    have hhalted := Permit.halted_eq s c p
    refine ⟨_, p.halted s c, hadded, (permitOf_haltDone hp c _).trans (if_pos rfl), by rw [hhalted], by rw [hhalted],
      by rw [hhalted], by rw [hhalted], by rw [hhalted], fun m hm => (permitOf_haltDone hp c m).trans (if_neg hm),
      fun m q hq => pointOf_haltDone hp c hq, fun hnone => absurd hnone hissued', fun _ => haltDone_asks hp c,
      fun k _ hk => truckOf_haltDone hp c hk, fun a x _ ha hgrant hask hx => ⟨answerIn_haltDone_grant hp c ha hgrant hask, ?_,
        fun q hq hbusy => pointOf_haltDone_grant hp c ha hgrant hx hq hbusy⟩, fun a x _ hask hx _ => ?_, fun i hgrant hask => ?_,
      fun a k hinv _ hask hholder hk => ?_, fun _ hask hno => answerIn_haltDone_none hp c hno hask,
      fun m hm hask => truckOf_haltDone_ne hp c hm hask, eq_of_keeps_permitsAsks (haltDone_keeps hp c)⟩
    · rw [Permit.halted_step, hx, Option.map_some, if_pos (.inl (grantStep_of_grant ha hgrant))]
      rfl
    · rw [Permit.halted_step, hx, Option.map_some, if_pos (.inr (by rw [hask]; rfl))]
      rfl
    · have hnot : ¬(grantStep s p.holder p.num = some i ∨ (askOf s p.num).map Ask.step = some i) := by
        rintro (hstep | hstep)
        · obtain ⟨a, ha, hstep⟩ := Option.map_eq_some_iff.mp hstep
          obtain ⟨ha, hkind⟩ := Option.filter_eq_some_iff.mp ha
          exact hgrant a ha (by simpa using hkind) hstep
        · obtain ⟨a, ha, hstep⟩ := Option.map_eq_some_iff.mp hstep
          exact hask a ha hstep
      simp only [Permit.halted_step, if_neg hnot, Option.map_id']
    · exact eq_by_cases (answerIn_haltDone_ask hp c hask hholder hk (((queuesInv_iff s).mp hinv k (findBy_some hk).2).1.subjects))

end Sys2Proof.Machine

/-!
PROOFS. The checks of a STEP_ASK and of an approval (R92 to R94, R99), each said by what it looks at.
-/
namespace Sys2Proof.Machine

-- The proofs are taken one after another: side by side they wait for each other in more threads than the check can hold.
set_option Elab.async false

theorem checkActive_eq_false (p : Permit) (i : StepId) :
    checkActive p i = false ↔ (i.list = 0 ∧ p.state ≠ .isolating) ∨ (i.list ≠ 0 ∧ p.state ≠ .restoring) := by
  unfold checkActive
  by_cases hlist : i.list = 0 <;> simp [hlist]

/-! ## The current step (R93) -/

theorem currentNum_eq {l : List StepRec} {k : Nat} {x : StepRec} (hx : l[k]? = some x) :
    (currentNum l == some (k + 1)) = ((l.take k).all (fun y => y.state == .done) && x.state != .done) := by
  unfold currentNum
  induction l generalizing k with
  | nil => simp at hx
  | cons y l ih =>
    cases k with
    | zero =>
      obtain rfl : y = x := by simpa using hx
      by_cases hdone : y.state = .done
      · cases hfind : l.findIdx? (fun y => y.state != .done) <;> simp [List.findIdx?_cons, hdone, hfind]
      · simp [List.findIdx?_cons, hdone]
    | succ k =>
      have hrest := ih (k := k) (by simpa using hx)
      by_cases hdone : y.state = .done
      · rw [List.take_succ_cons, List.all_cons, beq_iff_eq.mpr hdone, Bool.true_and, ← hrest]
        cases hfind : l.findIdx? (fun y => y.state != .done) <;> simp [List.findIdx?_cons, hdone, hfind]
      · simp [List.findIdx?_cons, hdone]

/-- A step is the current one of its list where every step ahead of it is DONE and it is not (R93). -/
theorem Permit.isCurrent_eq {p : Permit} {i : StepId} {x : StepRec} (hx : p.step i = some x) : p.isCurrent i =
    (((if i.list = 0 then p.iso else p.rest).take (i.num - 1)).all (fun y => y.state == .done) && x.state != .done) := by
  have hcurrent : ∀ {l : List StepRec}, stepAt l i.num = some x →
      (currentNum l == some i.num) = ((l.take (i.num - 1)).all (fun y => y.state == .done) && x.state != .done) := by
    intro l hl
    unfold stepAt at hl
    split at hl
    · simp at hl
    · rename_i hnum
      have h := currentNum_eq hl
      rwa [show i.num - 1 + 1 = i.num by omega] at h
  unfold Permit.step at hx
  unfold Permit.isCurrent
  by_cases h0 : i.list = 0
  · rw [if_pos h0] at hx ⊢
    rw [if_pos h0]
    exact hcurrent hx
  · rw [if_neg h0] at hx ⊢
    rw [if_neg h0]
    by_cases h1 : i.list = 1
    · rw [if_pos h1] at hx ⊢
      exact hcurrent hx
    · rw [if_neg h1] at hx
      simp at hx

/-! ## The later checks (R92, R94) -/

theorem checkConsole_eq_false (s : State) (x : StepRec) : checkConsole s x = false ↔
    s.sup.console = .unattended ∧ (x.action = .close ∨ x.action = .unground ∨ x.confirm = true) := by
  unfold checkConsole
  cases s.sup.console <;> cases x.action <;> simp [Action.energizing]

theorem checkHolds_eq_false (q : Point) (n : Nat) (x : StepRec) : checkHolds q n x = false ↔
    (q.holds.any fun h => h.permit != n && (x.action != .verify || some h.position != x.required)) = true := by
  rw [checkHolds, ← Bool.not_eq_true, List.all_eq_true, List.any_eq_true]
  push Not
  refine exists_congr fun h => and_congr_right fun _ => ?_
  by_cases hpermit : h.permit = n <;> by_cases haction : x.action = .verify <;> simp [hpermit, haction]

theorem checkClaims_eq_false {s : State} {q : Point} {m : Nat} (hq : pointOf s m = some q) (n : Nat) (x : StepRec) :
    checkClaims s q n x = false ↔
      (q.busy.any fun b => b.permit != n) = true ∨ (x.action ≠ .verify ∧ verifiedByOther s m n = true) := by
  obtain rfl : q.num = m := (findBy_some hq).1
  unfold checkClaims
  cases q.busy with
  | none => cases haction : x.action <;> simp
  | some b => by_cases hpermit : b.permit = n <;> cases haction : x.action <;> simp [hpermit]

theorem Point.holdOf_isSome (q : Point) (n : Nat) : (q.holdOf n).isSome = q.holds.any fun h => h.permit == n := by
  rw [Point.holdOf, Bool.eq_iff_iff, List.find?_isSome, List.any_eq_true]

theorem checkHoldLimit_eq_false (q : Point) (n : Nat) (x : StepRec) : checkHoldLimit q n x = false ↔
    x.action = .verify ∧ x.hold = true ∧ 4 ≤ q.holds.length ∧ (q.holds.any fun h => h.permit == n) = false := by
  unfold checkHoldLimit
  rw [Point.holdOf_isSome]
  simp [and_assoc]

theorem checkPosition_eq (q : Point) (x : StepRec) : checkPosition q x =
    if x.action ≠ .verify ∧ q.position = .unknown then some .unknownPosition
    else if some q.position ≠ (match x.action with
        | .open => some .closed
        | .close => some .open
        | .ground => some .open
        | .unground => some .grounded
        | .verify => x.required) then some .position
    else none := by
  unfold checkPosition
  cases x.action <;> simp [Action.before]

/-- The checks of the point, in their order (R94). -/
def pointChecks (s : State) (n : Nat) (x : StepRec) (q : Point) : Option Reason :=
  if (q.holds.any fun h => h.permit != n && (x.action != .verify || some h.position != x.required)) = true then
    some .heldByOther
  else if (q.busy.any fun b => b.permit != n) = true then some .pointBusy
  else if x.action ≠ .verify ∧ verifiedByOther s x.point n = true then some .pointBusy
  else if x.action = .verify ∧ x.hold = true ∧ 4 ≤ q.holds.length ∧ (q.holds.any fun h => h.permit == n) = false then
    some .holdLimit
  else checkPosition q x

section
variable {s : State} {p : Permit} {x : StepRec}

theorem laterChecks_blocked (h : (truckOf s p.holder).any Truck.blocked = true) : laterChecks s p x = some .crewAlarm :=
  if_pos h

variable (hfree : ¬(truckOf s p.holder).any Truck.blocked = true)
include hfree

theorem laterChecks_unattended
    (h : s.sup.console = .unattended ∧ (x.action = .close ∨ x.action = .unground ∨ x.confirm = true)) :
    laterChecks s p x = some .unattended := by
  rw [laterChecks, if_neg hfree, if_pos ((checkConsole_eq_false s x).mpr h)]

variable (hattended : ¬(s.sup.console = .unattended ∧ (x.action = .close ∨ x.action = .unground ∨ x.confirm = true)))
include hattended

theorem laterChecks_of_none (hq : pointOf s x.point = none) : laterChecks s p x = some .unknownPosition := by
  rw [laterChecks, if_neg hfree, if_neg (mt (checkConsole_eq_false s x).mp hattended), hq]

theorem laterChecks_point {q : Point} (hq : pointOf s x.point = some q) : laterChecks s p x = pointChecks s p.num x q := by
  rw [laterChecks, if_neg hfree, if_neg (mt (checkConsole_eq_false s x).mp hattended), hq]
  simp only [checkHolds_eq_false, checkClaims_eq_false hq, checkHoldLimit_eq_false, pointChecks]
  refine if_congr Iff.rfl rfl ?_
  by_cases hbusy : (q.busy.any fun b => b.permit != p.num) = true
  · rw [if_pos (.inl hbusy), if_pos hbusy]
  · rw [if_neg hbusy]
    simp only [hbusy, Bool.false_eq_true, false_or]

end

end Sys2Proof.Machine

/-!
PROOFS. STEP_ASK (R92 to R97): refused, granted or put to the dispatcher.
-/
namespace Sys2Proof.Machine

-- The proofs are taken one after another: side by side they wait for each other in more threads than the check can hold.
set_option Elab.async false

/-! ## A refusal (R97) -/

/-- The state with the reason left with the step, where the holder asked for one that exists (R97). -/
def reasonLeft (s : State) (truck n : Nat) (i : StepId) (r : Reason) : State :=
  if ((permitOf s n).any fun p => p.holder == truck && (p.step i).isSome) = true then
    modStep s n i fun x => { x with reason := some r }
  else s

theorem reasonLeft_keeps (s : State) (truck n : Nat) (i : StepId) (r : Reason) :
    Keeps [.permits] s (reasonLeft s truck n i r) := by
  unfold reasonLeft
  split_ifs
  · exact modStep_keeps s n i _
  · exact .refl _ s

theorem reasonLeft_eq (s : State) (truck n : Nat) (i : StepId) (r : Reason) :
    reasonLeft s truck n i r = { s with permits := (reasonLeft s truck n i r).permits } := by
  unfold reasonLeft
  split_ifs <;> rfl

/-- A GRANT or a HELD is an answer that is no refusal (R91). -/
theorem any_standing_eq (o : Option AnswerContent) :
    o.any (fun c => c.kind == .grant || c.kind == .held) = o.any fun c => c.kind != .refuse := by
  cases o with
  | none => rfl
  | some c => cases hkind : c.kind <;> simp [hkind]

section
variable (s : State) (truck n : Nat) (i : StepId) (r : Reason)

theorem refuseAsk_eq : refuseAsk s truck n i r =
    if ((answerIn s truck n).any fun c => c.kind == .grant || c.kind == .held) = true then
      post (reasonLeft s truck n i r) (.stepIgnored truck .stepAsk n i .answerStanding (some r))
    else if canGive s truck (.answer n) = true then give (reasonLeft s truck n i r) truck (.answer (refuseContent n i r))
    else post (reasonLeft s truck n i r) (.stepIgnored truck .stepAsk n i .queueFull (some r)) := by
  have hkeeps := reasonLeft_keeps s truck n i r
  have hleft : refuseAsk s truck n i r =
      if ((answerIn (reasonLeft s truck n i r) truck n).any fun c => c.kind != .refuse) = true then
        post (reasonLeft s truck n i r) (.stepIgnored truck .stepAsk n i .answerStanding (some r))
      else if canGive (reasonLeft s truck n i r) truck (.answer n) = true then
        give (reasonLeft s truck n i r) truck (.answer (refuseContent n i r))
      else post (reasonLeft s truck n i r) (.stepIgnored truck .stepAsk n i .queueFull (some r)) := by
    unfold refuseAsk reasonLeft ignoreStep
    cases permitOf s n <;> rfl
  rw [hleft, answerIn_of_keeps hkeeps, canGive_of_keeps hkeeps, any_standing_eq]

theorem refuseAsk_reason :
    if ((permitOf s n).any fun p => p.holder == truck && (p.step i).isSome) = true then
      OnlyStep s (reasonLeft s truck n i r) n i fun x => { x with reason := some r }
    else reasonLeft s truck n i r = s := by
  unfold reasonLeft
  split_ifs with h
  · exact onlyStep_modStep s n i _
  · rfl

end

/-- A refusal placed (R97). -/
theorem refuseAsk_placed {s : State} {truck n : Nat} {i : StepId} {r : Reason} (hroom : canGive s truck (.answer n) = true)
    (hfree : ¬((answerIn s truck n).any fun c => c.kind == .grant || c.kind == .held) = true) :
    ∃ u, refuseAsk s truck n i r = u ∧ OnlyRecord s u truck (.answer n) ∧
      answerIn u truck n = some (refuseContent n i r) ∧
      u = { reasonLeft s truck n i r with trucks := u.trucks, askArb := u.askArb } := by
  have hkeeps := reasonLeft_keeps s truck n i r
  have hroom' := (canGive_of_keeps hkeeps truck (.answer n)).trans hroom
  refine ⟨_, rfl, ?_⟩
  rw [refuseAsk_eq, if_neg hfree, if_pos hroom]
  exact ⟨(onlyRecord_give _ _ _).from hkeeps, answerIn_give rfl hroom', eq_of_keeps_trucksArb (give_keeps _ _ _)⟩

/-! ## An ask that passes (R95, R96) -/

section
variable {s : State} {p : Permit} {i : StepId} {x : StepRec}

/-- The state with a HELD placed, the entry listed and the step ASKED (R96). -/
def heldAsk (s : State) (p : Permit) (i : StepId) : State :=
  let s1 := give s p.holder (.answer (heldContent p.num i))
  modStep { s1 with asks := s1.asks ++
    [{ permit := p.num, step := i, holder := p.holder, askTime := s.now, expiry := s.now + s.timeouts.decision }] } p.num i
    fun y => { y with state := .asked, reason := none }

theorem holdAsk_full (hfull : 16 ≤ s.asks.length) : holdAsk s p i x = refuseAsk s p.holder p.num i .busy := by
  rw [holdAsk, if_pos hfull]

theorem holdAsk_noRoom (hshort : ¬16 ≤ s.asks.length) (hno : canGive s p.holder (.answer p.num) = false) :
    holdAsk s p i x = post s (.stepIgnored p.holder .stepAsk p.num i .queueFull none) := by
  rw [holdAsk, if_neg hshort, if_neg (by simp [hno])]
  rfl

theorem holdAsk_placed (hshort : ¬16 ≤ s.asks.length) (hroom : canGive s p.holder (.answer p.num) = true) :
    holdAsk s p i x = post (heldAsk s p i)
      (.stepPending p.num i x.point x.action p.holder (stamp s (s.now + s.timeouts.decision))) := by
  rw [holdAsk, if_neg hshort, if_pos hroom]
  rfl

theorem heldAsk_listed (s : State) (p : Permit) (i : StepId) (l : List Ask) :
    Keeps [.asks] (give s p.holder (.answer (heldContent p.num i)))
      { give s p.holder (.answer (heldContent p.num i)) with asks := l } := asks_keeps _ l

theorem heldAsk_keeps (s : State) (p : Permit) (i : StepId) : Keeps [.trucks, .permits, .asks, .askArb] s (heldAsk s p i) :=
  (give_keeps s _ _).to.trans ((heldAsk_listed s p i _).to.trans (modStep_keeps _ _ _ _).to)

theorem heldAsk_record (s : State) (p : Permit) (i : StepId) : OnlyRecord s (heldAsk s p i) p.holder (.answer p.num) :=
  ((onlyRecord_give s _ _).to (heldAsk_listed s p i _)).to (modStep_keeps _ _ _ _)

theorem heldAsk_step (s : State) (p : Permit) (i : StepId) :
    OnlyStep s (heldAsk s p i) p.num i fun y => { y with state := .asked, reason := none } :=
  ((onlyStep_modStep _ p.num i _).from (heldAsk_listed s p i _)).from (give_keeps s _ _)

theorem heldAsk_asks (s : State) (p : Permit) (i : StepId) : (heldAsk s p i).asks = s.asks ++
    [{ permit := p.num, step := i, holder := p.holder, askTime := s.now, expiry := s.now + s.timeouts.decision }] :=
  congrArg (· ++ _) (give_keeps s p.holder (.answer (heldContent p.num i)) .asks (by decide))

theorem heldAsk_answered (hroom : canGive s p.holder (.answer p.num) = true) :
    answerIn (heldAsk s p i) p.holder p.num = some (heldContent p.num i) := by
  rw [heldAsk, answerIn_of_keeps (modStep_keeps _ _ _ _), answerIn_of_keeps (heldAsk_listed s p i _)]
  exact answerIn_give rfl hroom

/-- The state with the GRANT placed and its step ANSWERED, the mark not yet set (R95). -/
def grantGiven (s : State) (p : Permit) (i : StepId) (x : StepRec) : State :=
  modStep (give s p.holder (.answer (grantContent p.num i x))) p.num i fun y => { y with state := .answered, reason := none }

theorem grantGiven_keeps (s : State) (p : Permit) (i : StepId) (x : StepRec) :
    Keeps [.trucks, .permits, .askArb] s (grantGiven s p i x) := (give_keeps s _ _).to.trans (modStep_keeps _ _ _ _).to

/-- A GRANT placed changes the point beyond what it gives, if anything. -/
theorem placeGrant_after (s : State) (p : Permit) (i : StepId) (x : StepRec) :
    Keeps [.points] (grantGiven s p i x) (placeGrant s p i x) := by
  change Keeps [.points] (grantGiven s p i x) (if x.action = .verify then grantGiven s p i x else modPoint _ _ _)
  split_ifs
  · exact .refl _ _
  · exact modPoint_keeps _ _ _

theorem placeGrant_record (s : State) (p : Permit) (i : StepId) (x : StepRec) :
    OnlyRecord s (placeGrant s p i x) p.holder (.answer p.num) :=
  ((onlyRecord_give s p.holder (.answer (grantContent p.num i x))).to (modStep_keeps _ _ _ _)).to (placeGrant_after s p i x)

theorem placeGrant_step (s : State) (p : Permit) (i : StepId) (x : StepRec) :
    OnlyStep s (placeGrant s p i x) p.num i fun y => { y with state := .answered, reason := none } :=
  ((onlyStep_modStep _ p.num i _).from (give_keeps s _ _)).to (placeGrant_after s p i x)

theorem placeGrant_answered (hroom : canGive s p.holder (.answer p.num) = true) :
    answerIn (placeGrant s p i x) p.holder p.num = some (grantContent p.num i x) := by
  rw [answerIn_of_keeps (placeGrant_after s p i x), grantGiven, answerIn_of_keeps (modStep_keeps _ _ _ _)]
  exact answerIn_give rfl hroom

/-- The mark of a GRANT (R90, R95). -/
theorem pointOf_placeGrant (s : State) (p : Permit) (i : StepId) (x : StepRec) (m : Nat) :
    pointOf (placeGrant s p i x) m = (pointOf s m).map fun q =>
      if x.action ≠ .verify ∧ m = x.point then { q with busy := some { permit := p.num, step := i } } else q := by
  change pointOf (if x.action = .verify then grantGiven s p i x else modPoint (grantGiven s p i x) x.point fun q =>
    { q with busy := some { permit := p.num, step := i } }) m = _
  have hkept := pointOf_of_keeps (grantGiven_keeps s p i x) m
  by_cases haction : x.action = .verify
  · simp [haction, hkept]
  · rw [if_neg haction, pointOf_modPoint _ x.point m (fun q => { q with busy := some { permit := p.num, step := i } })
      fun _ h => h, hkept]
    simp [haction]

end

/-! ## The checks in their order (R92, R93) -/

/-- What follows where the first of a chain of checks fails, and where it passes. -/
theorem ite_told {α : Type} {P A B : Prop} [Decidable P] {r a b : α} (h : r = if P then a else b) (hfail : r = a → A)
    (hpass : ¬P → r = b → B) : if P then A else B := by
  by_cases hP : P
  · rw [if_pos hP] at h ⊢
    exact hfail h
  · rw [if_neg hP] at h ⊢
    exact hpass hP h

/-- The answer to the ask of a PENDING step, by the later checks (R94 to R97). -/
def answerAsk (s : State) (p : Permit) (i : StepId) (x : StepRec) : State :=
  match laterChecks s p x with
  | some r => refuseAsk s p.holder p.num i r
  | none => if x.confirm then holdAsk s p i x else grantAsk s p i x

theorem answerAsk_of_some {s : State} {p : Permit} {i : StepId} {x : StepRec} {r : Reason} (h : laterChecks s p x = some r) :
    answerAsk s p i x = refuseAsk s p.holder p.num i r := by
  simp only [answerAsk, h]

theorem answerAsk_of_none {s : State} {p : Permit} {i : StepId} {x : StepRec} (h : laterChecks s p x = none) :
    answerAsk s p i x = if x.confirm = true then holdAsk s p i x else grantAsk s p i x := by
  simp only [answerAsk, h]

theorem stepAsk_eq {s : State} {p : Permit} (hp : permitOf s p.num = some p) {i : StepId} {x : StepRec}
    (hx : p.step i = some x) (truck point action : Nat) : stepAsk s truck p.num i point action =
      if p.holder ≠ truck ∨ x.point ≠ point ∨ actionOf action ≠ some x.action then refuseAsk s truck p.num i .mismatch
      else if (i.list = 0 ∧ p.state ≠ .isolating) ∨ (i.list ≠ 0 ∧ p.state ≠ .restoring) then
        refuseAsk s truck p.num i .notActive
      else if p.causes ≠ Causes.none then refuseAsk s truck p.num i .halted
      else if (((if i.list = 0 then p.iso else p.rest).take (i.num - 1)).all (fun y => y.state == .done) &&
          x.state != .done) = false then refuseAsk s truck p.num i .outOfOrder
      else if x.state = .answered ∨ x.state = .executing then s
      else if x.state = .asked then repeatHeld s p i
      else answerAsk s p i x := by
  have hcurrent : (p.isCurrent i = false ∨ x.state = .done) ↔ (((if i.list = 0 then p.iso else p.rest).take (i.num - 1)).all
      (fun y => y.state == .done) && x.state != .done) = false := by
    rw [Permit.isCurrent_eq hx]
    cases x.state <;> simp
  simp only [stepAsk, hp, hx, checkActive_eq_false, Causes.any_iff, hcurrent]
  refine if_ctx_congr Iff.rfl (fun _ => rfl) fun hmatch => ?_
  refine if_congr Iff.rfl rfl (if_congr Iff.rfl rfl (if_ctx_congr Iff.rfl (fun _ => rfl) fun hopen => ?_))
  obtain rfl : p.holder = truck := by
    by_contra h
    exact hmatch (.inl h)
  cases hstate : x.state with
  | done => simp [hstate] at hopen
  | pending => cases hlater : laterChecks s p x <;> simp [answerAsk, hlater]
  | asked => simp
  | answered => simp
  | executing => simp

/-- What a STEP_ASK that passes every check leaves (R95, R96). -/
theorem answerAsk_confirm {s : State} {p : Permit} {i : StepId} {x : StepRec} (hp : permitOf s p.num = some p)
    (hx : p.step i = some x) (h : laterChecks s p x = none) (hconfirm : x.confirm = true) :
    if 16 ≤ s.asks.length then answerAsk s p i x = refuseAsk s p.holder p.num i .busy
    else if canGive s p.holder (.answer p.num) = false then
      answerAsk s p i x = post s (.stepIgnored p.holder .stepAsk p.num i .queueFull none)
    else answerIn (answerAsk s p i x) p.holder p.num = some (heldContent p.num i) ∧
      stepIn (answerAsk s p i x) p.num i = some { x with state := .asked, reason := none } ∧
      OnlyRecord s (answerAsk s p i x) p.holder (.answer p.num) ∧
      OnlyStep s (answerAsk s p i x) p.num i (fun y => { y with state := .asked, reason := none }) ∧
      (answerAsk s p i x).asks = s.asks ++
        [{ permit := p.num, step := i, holder := p.holder, askTime := s.now, expiry := s.now + s.timeouts.decision }] ∧
      answerAsk s p i x = { posted s
          [.stepPending p.num i x.point x.action p.holder (stamp s (s.now + s.timeouts.decision))] with
        trucks := (answerAsk s p i x).trucks, permits := (answerAsk s p i x).permits, asks := (answerAsk s p i x).asks
        askArb := (answerAsk s p i x).askArb } := by
  rw [answerAsk_of_none h, if_pos hconfirm]
  split_ifs with hfull hroom
  · exact holdAsk_full hfull
  · exact holdAsk_noRoom hfull hroom
  · have hfits : canGive s p.holder (.answer p.num) = true := by simpa using hroom
    have hposted := post_keeps (heldAsk s p i)
      (.stepPending p.num i x.point x.action p.holder (stamp s (s.now + s.timeouts.decision)))
    have hstep := (heldAsk_step s p i).to hposted
    have hkeeps := (heldAsk_keeps s p i).post
      (.stepPending p.num i x.point x.action p.holder (stamp s (s.now + s.timeouts.decision)))
    rw [holdAsk_placed hfull hfits]
    refine ⟨(answerIn_of_keeps hposted _ _).trans (heldAsk_answered hfits), ?_,
      (heldAsk_record s p i).to hposted, hstep, (hposted .asks (by decide)).trans (heldAsk_asks s p i), ?_⟩
    · rw [hstep.stepIn hp, stepIn_eq hp, hx, Option.map_some, if_pos rfl]
    · have hpoints := hkeeps .points (by decide)
      exact (eq_of_keeps_permitsAsks hkeeps.to).trans (by rw [show _ = _ from hpoints]; rfl)

theorem answerAsk_grant {s : State} {p : Permit} {i : StepId} {x : StepRec} {q : Point} (hp : permitOf s p.num = some p)
    (hx : p.step i = some x) (hq : pointOf s x.point = some q) (h : laterChecks s p x = none) (hconfirm : ¬x.confirm = true) :
    if canGive s p.holder (.answer p.num) = false then
      answerAsk s p i x = post s (.stepIgnored p.holder .stepAsk p.num i .queueFull none)
    else answerIn (answerAsk s p i x) p.holder p.num = some (grantContent p.num i x) ∧
      stepIn (answerAsk s p i x) p.num i = some { x with state := .answered, reason := none } ∧
      pointOf (answerAsk s p i x) x.point = some (if x.action = .verify then q
        else { q with busy := some { permit := p.num, step := i } }) ∧
      OnlyRecord s (answerAsk s p i x) p.holder (.answer p.num) ∧
      OnlyStep s (answerAsk s p i x) p.num i (fun y => { y with state := .answered, reason := none }) ∧
      (∀ m, m ≠ x.point → pointOf (answerAsk s p i x) m = pointOf s m) ∧
      answerAsk s p i x = { s with
        trucks := (answerAsk s p i x).trucks, permits := (answerAsk s p i x).permits
        points := (answerAsk s p i x).points, askArb := (answerAsk s p i x).askArb } := by
  rw [answerAsk_of_none h, if_neg hconfirm]
  by_cases hroom : canGive s p.holder (.answer p.num) = false
  · rw [if_pos hroom, grantAsk, if_neg (by simp [hroom])]
    rfl
  · have hfits : canGive s p.holder (.answer p.num) = true := by simpa using hroom
    rw [if_neg hroom, grantAsk, if_pos hfits]
    have hstep := placeGrant_step s p i x
    refine ⟨placeGrant_answered hfits, ?_, ?_, placeGrant_record s p i x, hstep, fun m hm => ?_,
      eq_of_keeps_permitsPoints ((grantGiven_keeps s p i x).to.trans (placeGrant_after s p i x).to)⟩
    · rw [hstep.stepIn hp, stepIn_eq hp, hx, Option.map_some, if_pos rfl]
    · rw [pointOf_placeGrant, hq]
      by_cases haction : x.action = .verify <;> simp [haction]
    · simp [pointOf_placeGrant, hm]

/-- Settles O34: the checks in their order, the refusal, the GRANT and the HELD. -/
theorem stepAskIsCheckedThenAnswered : Obligations.StepAskIsCheckedThenAnswered := by
  unfold Obligations.StepAskIsCheckedThenAnswered
  refine ⟨fun n i x => ⟨rfl, rfl⟩, fun s truck n i r => ?_, fun s truck n i point action => ?_⟩
  · refine ⟨reasonLeft s truck n i r, ?_, refuseAsk_reason s truck n i r, ?_⟩
    · exact reasonLeft_eq s truck n i r
    · by_cases hstands : ((answerIn s truck n).any fun c => c.kind == .grant || c.kind == .held) = true
      · rw [if_pos hstands, refuseAsk_eq, if_pos hstands]
      · rw [if_neg hstands]
        by_cases hroom : canGive s truck (.answer n) = true
        · rw [if_neg (by simp [hroom])]
          exact refuseAsk_placed hroom hstands
        · rw [if_pos (Bool.eq_false_iff.mpr hroom), refuseAsk_eq, if_neg hstands, if_neg hroom]
  · cases hp : permitOf s n with
    | none => simp only [stepAsk, hp]
    | some p =>
      obtain rfl : p.num = n := (findBy_some hp).1
      dsimp only
      cases hx : p.step i with
      | none => simp only [stepAsk, hp, hx]
      | some x =>
        dsimp only
        refine ite_told (stepAsk_eq hp hx truck point action) id fun hmatch hask => ?_
        obtain rfl : p.holder = truck := by
          by_contra h
          exact hmatch (.inl h)
        refine ite_told hask id fun _ hask => ite_told hask id fun _ hask => ite_told hask id fun _ hask =>
          ite_told hask id fun _ hask => ite_told hask id fun _ hask => ?_
        rw [hask]
        have hrefused (r : Reason) (h : laterChecks s p x = some r) := answerAsk_of_some (i := i) h
        by_cases hblocked : ((truckOf s p.holder).any Truck.blocked) = true
        · exact (if_pos hblocked).mpr (hrefused _ (laterChecks_blocked hblocked))
        rw [if_neg (show ¬((truckOf s p.holder).any fun k => k.w1.blocking || k.w2.blocking) = true from hblocked)]
        by_cases hattended : s.sup.console = .unattended ∧ (x.action = .close ∨ x.action = .unground ∨ x.confirm = true)
        · rw [if_pos hattended]
          exact hrefused _ (laterChecks_unattended hblocked hattended)
        rw [if_neg hattended]
        cases hq : pointOf s x.point with
        | none => exact hrefused _ (laterChecks_of_none hblocked hattended hq)
        | some q =>
          have hlater := laterChecks_point hblocked hattended hq
          rw [pointChecks, checkPosition_eq] at hlater
          dsimp only
          simp only [Option.isNone_iff_eq_none, ← Option.not_isSome_iff_eq_none, Point.holdOf_isSome, Bool.not_eq_true]
          refine ite_told hlater (hrefused _) fun _ hlater => ite_told hlater (hrefused _) fun _ hlater =>
            ite_told hlater (hrefused _) fun _ hlater => ite_told hlater (hrefused _) fun _ hlater =>
            ite_told hlater (hrefused _) fun _ hlater => ite_told hlater (hrefused _) fun _ hlater => ?_
          by_cases hconfirm : x.confirm = true
          · rw [if_pos hconfirm]
            exact answerAsk_confirm hp hx hlater hconfirm
          · rw [if_neg hconfirm]
            exact answerAsk_grant hp hx hq hlater hconfirm

end Sys2Proof.Machine

/-!
PROOFS. DECIDE_STEP (R99): an approval whose checks pass again is granted, a denial and a failing check refused.
-/
namespace Sys2Proof.Machine

-- The proofs are taken one after another: side by side they wait for each other in more threads than the check can hold.
set_option Elab.async false

/-! ## The checks of an approval (R92, R99) -/

theorem approvalChecks_eq {s : State} {p : Permit} {i : StepId} {x : StepRec} (hx : p.step i = some x) :
    approvalChecks s p i x =
      if (i.list = 0 ∧ p.state ≠ .isolating) ∨ (i.list ≠ 0 ∧ p.state ≠ .restoring) then some .notActive
      else if p.causes ≠ Causes.none then some .halted
      else if (((if i.list = 0 then p.iso else p.rest).take (i.num - 1)).all fun y => y.state == .done) = false ∨
          x.state ≠ .asked then some .outOfOrder
      else laterChecks s p x := by
  have hcurrent : (p.isCurrent i = false ∨ x.state ≠ .asked) ↔
      ((((if i.list = 0 then p.iso else p.rest).take (i.num - 1)).all fun y => y.state == .done) = false ∨ x.state ≠ .asked) := by
    rw [Permit.isCurrent_eq hx]
    cases x.state <;> simp
  simp only [approvalChecks, checkActive_eq_false, Causes.any_iff, hcurrent]

theorem verifiedByOther_iff (s : State) (point n : Nat) : verifiedByOther s point n = true ↔
    ∃ p ∈ s.permits, p.num ≠ n ∧ ∃ i x, (i, x) ∈ p.steps ∧ x.point = point ∧ x.action = .verify ∧
      (x.state = .answered ∨ x.state = .executing) := by
  simp only [verifiedByOther, List.any_eq_true, Bool.and_eq_true, Bool.or_eq_true, bne_iff_ne, beq_iff_eq, and_assoc,
    Prod.exists]

/-- The checks look at the tables and the console state (R92). -/
theorem approvalChecks_of_keeps {s u : State} (hu : Keeps [.sup, .port] s u) (hconsole : u.sup.console = s.sup.console)
    (p : Permit) (i : StepId) (x : StepRec) : approvalChecks u p i x = approvalChecks s p i x := by
  have hpermits : u.permits = s.permits := hu .permits (by decide)
  have hverified (m n : Nat) : verifiedByOther u m n = verifiedByOther s m n := by simp only [verifiedByOther, hpermits]
  have hclaims (q : Point) : checkClaims u q p.num x = checkClaims s q p.num x := by
    simp only [checkClaims, hverified]
  have hattended : checkConsole u x = checkConsole s x := by simp only [checkConsole, hconsole]
  have hlater : laterChecks u p x = laterChecks s p x := by
    unfold laterChecks
    rw [truckOf_of_keeps hu, pointOf_of_keeps hu, hattended]
    cases pointOf s x.point <;> simp only [hclaims]
  simp only [approvalChecks, hlater]

/-! ## The effects of a decision (R99) -/

/-- The entry granted, or refused with a reason. -/
def decidedStep (s : State) (p : Permit) (i : StepId) (x : StepRec) : Option Reason → State
  | none => removeAsk (placeGrant s p i x) p.num
  | some r => refusePending s p.num r

/-- The answer a decision makes of a step. -/
def StepRec.decided (why : Option Reason) (x : StepRec) : StepRec :=
  { x with state := if why = none then .answered else .pending, reason := why }

section
variable (s : State) (p : Permit) (i : StepId) (x : StepRec) (why : Option Reason)

theorem decidedStep_asks : (decidedStep s p i x why).asks = s.asks.filter fun y => y.permit != p.num := by
  cases why with
  | none =>
    exact congrArg (List.filter _) ((placeGrant_after s p i x .asks (by decide)).trans
      (grantGiven_keeps s p i x .asks (by decide)))
  | some r => exact refusePending_asks s p.num r

theorem pointOf_decidedStep (m : Nat) : pointOf (decidedStep s p i x why) m = (pointOf s m).map fun q =>
    if why = none ∧ x.action ≠ .verify ∧ m = x.point then { q with busy := some { permit := p.num, step := i } } else q := by
  cases why with
  | none =>
    simp only [true_and]
    exact (pointOf_of_keeps (removeAsk_keeps _ _) m).trans (pointOf_placeGrant s p i x m)
  | some r => simpa [decidedStep] using pointOf_of_keeps (refusePending_keeps s p.num r) m

theorem decidedStep_keeps : Keeps [.trucks, .permits, .points, .asks, .askArb] s (decidedStep s p i x why) := by
  cases why with
  | none =>
    exact (grantGiven_keeps s p i x).to.trans ((placeGrant_after s p i x).to.trans (removeAsk_keeps _ _).to)
  | some r => exact (refusePending_keeps s p.num r).to

end

section
variable {s : State} {p : Permit} {i : StepId} {x : StepRec} {why : Option Reason}

theorem decidedStep_granted (hroom : canGive s p.holder (.answer p.num) = true) (hwhy : why = none) :
    answerIn (decidedStep s p i x why) p.holder p.num = some (grantContent p.num i x) := by
  subst hwhy
  exact (answerIn_of_keeps (removeAsk_keeps _ _) _ _).trans (placeGrant_answered hroom)

variable {a : Ask} (hask : askOf s p.num = some a)
include hask

theorem decidedStep_record :
    OnlyRecord s (decidedStep s p i x why) (if why = none then p.holder else a.holder) (.answer p.num) := by
  cases why with
  | none => exact (placeGrant_record s p i x).to (removeAsk_keeps _ _)
  | some r => exact refusePending_record r hask

variable (hstep : a.step = i)
include hstep

theorem decidedStep_step : OnlyStep s (decidedStep s p i x why) p.num i (StepRec.decided why) := by
  cases why with
  | none => exact (placeGrant_step s p i x).to (removeAsk_keeps _ _)
  | some r => exact hstep ▸ refusePending_step r hask

theorem decidedStep_refused (hroom : canGive s p.holder (.answer p.num) = true) {r : Reason} (hwhy : why = some r)
    (hholder : a.holder = p.holder) : answerIn (decidedStep s p i x why) p.holder p.num = some (refuseContent p.num i r) := by
  subst hwhy hstep
  rw [← hholder] at hroom ⊢
  exact refusePending_answered r hask hroom

end

/-! ## DECIDE_STEP (R99) -/

theorem approvesOf_eq_none {d : Nat} : approvesOf d = none ↔ 2 ≤ d := by
  match d with
  | 0 => simp [approvesOf]
  | 1 => simp [approvesOf]
  | d + 2 => simp [approvesOf]

/-- A request whose owner looks at the armed window, too, behind its reply (R172). -/
theorem request_carried_sup {s : State} {k tag : Nat} {f : State → Served} {c : Result} {b : ReplyBody} {g : State → State}
    (h : Ready s) (hf : ∀ u, Keeps [.sup, .port] s u → u.sup = (armWindow s).sup → f u = (g u, { code := c, body := b })) :
    request k tag f s = .next (settleEvent (g (answered s k tag c b))) := by
  rw [request_answered h k tag f (congrArg Prod.snd (hf _ (armWindow_keeps s).to rfl)),
    hf _ (answered_keeps s k tag c b) (answered_sup s k tag c b)]

section
variable {s : State} (h : Ready s) (tag n : Nat) (i : StepId) (d : Nat)
include h

theorem decideStep_badField (hd : 2 ≤ d) : Refuses (.decideStep tag n i d) s .badField :=
  refuses_of_refuse h rfl rfl fun u _ => by simp only [decideStep, approvesOf_eq_none.mpr hd]

variable (hd : ¬2 ≤ d)
include hd

theorem decideStep_notFound (hp : permitOf s n = none) : Refuses (.decideStep tag n i d) s .notFound :=
  refuses_of_refuse h rfl rfl fun u hu => by
    cases happrove : approvesOf d with
    | none => exact absurd (approvesOf_eq_none.mp happrove) hd
    | some b => simp only [decideStep, happrove, permitOf_of_keeps hu, hp]

variable {p : Permit} (hp : permitOf s n = some p)
include hp

theorem decideStep_tooLate (hno : ∀ a x, askOf s n = some a → p.step i = some x → a.step ≠ i) :
    Refuses (.decideStep tag n i d) s .tooLate :=
  refuses_of_refuse h rfl rfl fun u hu => by
    cases happrove : approvesOf d with
    | none => exact absurd (approvesOf_eq_none.mp happrove) hd
    | some b =>
      simp only [decideStep, happrove, permitOf_of_keeps hu, hp, askOf_of_keeps hu n]
      cases hask : askOf s n with
      | none => rfl
      | some a =>
        cases hx : p.step i with
        | none => rfl
        | some x => simp only [ne_eq, hno a x hask hx, not_false_eq_true, if_true]

variable {a : Ask} (hask : askOf s n = some a) {x : StepRec} (hx : p.step i = some x) (hstep : a.step = i)
include hask hx hstep

theorem decideStep_queueFull (hfull : canGive s p.holder (.answer n) = false) :
    Refuses (.decideStep tag n i d) s .queueFull :=
  refuses_of_refuse h rfl rfl fun u hu => by
    cases happrove : approvesOf d with
    | none => exact absurd (approvesOf_eq_none.mp happrove) hd
    | some b =>
      simp only [decideStep, happrove, permitOf_of_keeps hu, hp, askOf_of_keeps hu n, hask, hx, hstep, ne_eq,
        not_true_eq_false, if_false, canGive_of_keeps hu, hfull, if_true]

theorem exec_decideStep (hroom : canGive s p.holder (.answer n) = true) {why : Option Reason}
    (hwhy : why = if d = 1 then some .denied else approvalChecks s p i x) :
    exec (.decideStep tag n i d) s = .next (settleEvent (decidedStep
      (answered s 0x17 tag .ok (.decided (if why = none then .grant else .refuse) why)) p i x why)) :=
  request_carried_sup (f := decideStep n i d) (g := (decidedStep · p i x why)) h fun u hu hsup => by
    obtain rfl : p.num = n := (findBy_some hp).1
    have hchecks := approvalChecks_of_keeps hu ((congrArg Sup.console hsup).trans rfl) p i x
    have hd' : d = 0 ∨ d = 1 := by omega
    have hserved : decideStep p.num i d u =
        if d = 1 then denyStep u p.num .denied else approveStep u p i x := by
      rcases hd' with rfl | rfl <;>
        simp [decideStep, approvesOf, permitOf_of_keeps hu, hp, askOf_of_keeps hu p.num, hask, hx, hstep,
          canGive_of_keeps hu, hroom]
    rw [hserved]
    by_cases hdenied : d = 1
    · rw [if_pos hdenied] at hwhy ⊢
      subst hwhy
      rfl
    · rw [if_neg hdenied, ← hchecks] at hwhy
      rw [if_neg hdenied]
      unfold approveStep
      cases hfound : approvalChecks u p i x <;> rw [hfound] at hwhy <;> subst hwhy <;> rfl

end

/-- Settles O37: the checks of an approval, and the entry granted or refused. -/
theorem decideStepAnswersEntry : Obligations.DecideStepAnswersEntry := by
  unfold Obligations.DecideStepAnswersEntry
  refine ⟨fun s p i x hx => ?_, verifiedByOther_iff, fun s tag n i d h => ?_⟩
  · intro list
    rw [approvalChecks_eq hx]
    refine if_congr Iff.rfl rfl (if_congr Iff.rfl rfl (if_congr Iff.rfl rfl ?_))
    by_cases hblocked : ((truckOf s p.holder).any Truck.blocked) = true
    · exact (laterChecks_blocked hblocked).trans (if_pos hblocked).symm
    rw [if_neg (show ¬((truckOf s p.holder).any fun k => k.w1.blocking || k.w2.blocking) = true from hblocked)]
    by_cases hattended : s.sup.console = .unattended ∧ (x.action = .close ∨ x.action = .unground ∨ x.confirm = true)
    · rw [if_pos hattended, laterChecks_unattended hblocked hattended]
    rw [if_neg hattended]
    cases hq : pointOf s x.point with
    | none => exact laterChecks_of_none hblocked hattended hq
    | some q =>
      have hlater := laterChecks_point hblocked hattended hq
      rw [pointChecks, checkPosition_eq] at hlater
      exact hlater
  · intro c
    by_cases hd : 2 ≤ d
    · rw [if_pos hd]
      exact decideStep_badField h tag n i d hd
    rw [if_neg hd]
    cases hp : permitOf s n with
    | none => exact decideStep_notFound h tag n i d hd hp
    | some p =>
      obtain rfl : p.num = n := (findBy_some hp).1
      dsimp only
      cases hask : askOf s p.num with
      | none => exact decideStep_tooLate h tag _ i d hd hp fun a x ha => by simp [hask] at ha
      | some a =>
        cases hx : p.step i with
        | none => exact decideStep_tooLate h tag _ i d hd hp fun a x _ hx' => by simp [hx] at hx'
        | some x =>
          dsimp only
          by_cases hstep : a.step = i
          case neg =>
            rw [if_pos hstep]
            exact decideStep_tooLate h tag _ i d hd hp fun a' x ha' _ => by rwa [← Option.some.inj (hask.symm.trans ha')]
          rw [if_neg (not_not.mpr hstep)]
          by_cases hroom : canGive s p.holder (.answer p.num) = true
          case neg =>
            rw [if_pos (Bool.eq_false_iff.mpr hroom)]
            exact decideStep_queueFull h tag _ i d hd hp hask hx hstep (Bool.eq_false_iff.mpr hroom)
          rw [if_neg (by simp [hroom])]
          generalize hwhy : (if d = 1 then some Reason.denied else approvalChecks s p i x) = why
          let w := answered s 0x17 tag .ok (.decided (if why = none then .grant else .refuse) why)
          have hkeeps : Keeps [.sup, .port] s w := answered_keeps s 0x17 tag _ _
          have hpw : permitOf w p.num = some p := (congrFun (permitOf_of_keeps hkeeps) _).trans hp
          have haskw := (askOf_of_keeps hkeeps p.num).trans hask
          have hroomw := (canGive_of_keeps hkeeps p.holder (.answer p.num)).trans hroom
          have hrecord := decidedStep_record (i := i) (x := x) (why := why) haskw
          obtain ⟨hpermits, hpermit⟩ := decidedStep_step (x := x) (why := why) haskw hstep
          obtain ⟨p', hp', hframe, hdecided, hothers⟩ := hpermit p hpw
          refine ⟨_, p', exec_decideStep h tag _ i d hd hp hask hx hstep hroom hwhy.symm, hp', hframe, ?_, hothers, fun m hm => ?_, ?_,
            fun m => ?_, decidedStep_granted hroomw, fun r hwhy hholder => decidedStep_refused haskw hstep hroomw hwhy hholder,
            fun k t ht => ?_, eq_of_keeps_permitsAsks (decidedStep_keeps w p i x why)⟩
          · rw [hdecided, hx]
            rfl
          · rw [hpermits m hm, permitOf_of_keeps hkeeps]
          · exact (decidedStep_asks w p i x why).trans (congrArg (List.filter _) (hkeeps .asks (by decide)))
          · exact (pointOf_decidedStep w p i x why m).trans (by rw [pointOf_of_keeps hkeeps])
          · have htw := (truckOf_of_keeps hkeeps k).trans ht
            obtain ⟨t', ht', hframe', hrecs⟩ := hrecord.truck htw
            refine ⟨t', ht', hframe', fun hne hne' => ?_, hrecs⟩
            have hkept := hrecord.1 k (by split_ifs <;> assumption)
            exact Option.some.inj (ht'.symm.trans (hkept.trans htw))

end Sys2Proof.Machine

/-!
PROOFS. The end of a step (R105 to R108): what the report leaves of the point, the hold an isolate step places, and what a step no
longer granted has in flight.
-/
namespace Sys2Proof.Machine

-- The proofs are taken one after another: side by side they wait for each other in more threads than the check can hold.
set_option Elab.async false

/-! ## The report and the point (R106, R107) -/

/-- A point at a reported position. -/
def Point.at (pos : Position) (q : Point) : Point := { q with position := pos }

/-- A point with the hold a normal end of an isolate step leaves (R89, R106). -/
def Point.held (n : Nat) (i : StepId) (x : StepRec) (q : Point) : Point :=
  { q with holds :=
      if i.list = 1 then q.holds
      else if (q.holds.any fun h => h.permit == n) = true then
        q.holds.map fun h => if h.permit = n then { h with position := x.leaves } else h
      else if x.hold = true then q.holds ++ [{ permit := n, position := x.leaves }] else q.holds }

theorem reportedPosition_eq (code : Nat) :
    reportedPosition code = ([Position.open, .closed, .grounded][code]?).getD .unknown := by
  match code with
  | 0 | 1 | 2 | 3 => rfl
  | _ + 4 => simp [reportedPosition, positionOf_eq]

theorem setReported_keeps (s : State) (m n : Nat) (i : StepId) (pos : Position) (clear : Bool) :
    Keeps [.points] s (setReported s m n i pos clear) := by
  have hset := modPoint_keeps s m (Point.at pos)
  unfold setReported
  dsimp only
  split_ifs
  · exact hset.trans (clearBusy_keeps _ m n i)
  · exact hset

theorem pointOf_setReported (s : State) (j n : Nat) (i : StepId) (pos : Position) (clear : Bool) (m : Nat) :
    pointOf (setReported s j n i pos clear) m = (pointOf s m).map fun q =>
      if m = j then (if clear = true then (q.at pos).unmarked n i else q.at pos) else q := by
  have hset := pointOf_modPoint s j m (Point.at pos) fun _ h => h
  cases clear with
  | false => exact hset
  | true =>
    refine (pointOf_clearBusy (modPoint s j (Point.at pos)) j n i m).trans ?_
    rw [hset, Option.map_map]
    refine congrArg (Option.map · _) (funext fun q => ?_)
    by_cases hm : m = j <;> simp [hm]

theorem placeHold_keeps (s : State) (n : Nat) (i : StepId) (x : StepRec) : Keeps [.points] s (placeHold s n i x) := by
  by_cases hlist : i.list = 1
  · simpa [placeHold, hlist] using Keeps.refl _ s
  · rw [placeHold, if_neg hlist]
    exact modPoint_keeps _ _ _

theorem pointOf_placeHold (s : State) (n : Nat) (i : StepId) (x : StepRec) (m : Nat) :
    pointOf (placeHold s n i x) m = (pointOf s m).map fun q => if m = x.point then q.held n i x else q := by
  by_cases hlist : i.list = 1
  · simp [placeHold, hlist, Point.held]
  · have hplace : placeHold s n i x = modPoint s x.point (Point.held n i x) := by
      unfold placeHold
      rw [if_neg hlist]
      refine congrArg (modPoint s x.point) (funext fun q => ?_)
      rw [Point.held, if_neg hlist, ← Point.holdOf_isSome]
      cases q.holdOf n <;> cases x.hold <;> simp
    rw [hplace]
    exact pointOf_modPoint s x.point m (Point.held n i x) fun _ h => h

/-- Whether the hold a normal end places or updates can be (R89, R105). -/
theorem holdPlaceable_eq {s : State} {q : Point} {x : StepRec} (hq : pointOf s x.point = some q) (n : Nat) (i : StepId) :
    holdPlaceable s n i x = (i.list == 1 ||
      (if (q.holds.any fun h => h.permit == n) = true then q.holds.all fun h => h.permit == n || h.position == x.leaves
       else !x.hold || ((q.holds.all fun h => h.permit == n || h.position == x.leaves) && decide (q.holds.length < 4)))) := by
  rw [holdPlaceable_of_point hq, Point.placeable, ← Point.holdOf_isSome]
  by_cases hlist : i.list = 1
  · simp [hlist]
  · rw [if_neg hlist, beq_eq_false_iff_ne.mpr hlist, Bool.false_or]
    cases q.holdOf n <;> simp

/-! ## A cause added leaves the state of every permit (R79) -/

theorem Permit.halted_state (s : State) (c : Cause) (p : Permit) : (p.halted s c).state = p.state := by
  rw [Permit.halted_eq]

theorem stateOf_addCause (s : State) (m : Nat) (c : Cause) (n : Nat) :
    (permitOf (addCause s m c) n).map Permit.state = (permitOf s n).map Permit.state := by
  cases hp : permitOf s m with
  | none => simp only [addCause, hp]
  | some p =>
    obtain rfl : p.num = m := (findBy_some hp).1
    by_cases hfresh : p.state.isOpen = true ∧ p.causes.has c = false
    · obtain ⟨hopen, hc⟩ := hfresh
      have hspec := causeSet_spec hp c
      rcases addCause_fresh hp hopen hc with ⟨-, hadded⟩ | ⟨-, hadded⟩ <;> rw [hadded] <;> by_cases hn : n = p.num
      · rw [hn, hspec.permit, hp]
        rfl
      · rw [hspec.others n hn]
      · rw [hn, permitOf_haltDone hp, if_pos rfl, hp, Option.map_some, Option.map_some, Permit.halted_state]
      · rw [permitOf_haltDone hp, if_neg hn]
    · have hidle : addCause s p.num c = s := by
        simp only [addCause, hp]
        rw [if_neg]
        simpa using hfresh
      rw [hidle]

theorem stateOf_weigh (s : State) (m : Nat) (src : ConflictSource) (n : Nat) :
    (permitOf (weigh s m src) n).map Permit.state = (permitOf s n).map Permit.state := by
  have hfold : ∀ (l : List Nat) (u : State), (permitOf (l.foldl (fun a k => addCause a k .conflict) u) n).map Permit.state =
      (permitOf u n).map Permit.state := by
    intro l
    induction l with
    | nil => exact fun _ => rfl
    | cons k l ih => exact fun u => (ih _).trans (stateOf_addCause u k .conflict n)
  cases hq : pointOf s m with
  | none => rw [weigh_of_none hq]
  | some q =>
    cases hfind : q.holds.find? fun h => h.position != q.position with
    | none =>
      rw [weigh_of_agree hq fun h hh => by simpa using List.find?_eq_none.mp hfind h hh]
    | some h0 =>
      rw [weigh_of_differ hq hfind, conflicted, hfold, permitOf_of_keeps (post_keeps s _)]

theorem stateOf_modStep (s : State) (n : Nat) (i : StepId) (f : StepRec → StepRec) (m : Nat) :
    (permitOf (modStep s n i f) m).map Permit.state = (permitOf s m).map Permit.state := by
  rw [permitOf_modStep, Option.map_map]
  refine congrArg (Option.map · _) (funext fun p => ?_)
  by_cases hm : m = n <;> simp [hm]

/-! ## What a step no longer granted has in flight (R108) -/

theorem onlyRecord_dropRec_answer (s : State) (t n : Nat) : OnlyRecord s (dropRec s t (.answer n)) t (.answer n) := by
  refine ⟨fun m hm => by simp [truckOf_dropRec, hm], fun k hk => ⟨_, by rw [truckOf_dropRec, hk, Option.map_some, if_pos rfl], rfl,
    fun y hy => ?_⟩⟩
  exact (recFor_without k.queue (.answer n) y).trans (if_neg hy)

theorem answerIn_dropRec (s : State) (t n : Nat) : answerIn (dropRec s t (.answer n)) t n = none := by
  cases hk : truckOf s t with
  | none => simp [answerIn, recOf, truckOf_dropRec, hk]
  | some k =>
    refine answerIn_of_none (by rw [truckOf_dropRec, hk, Option.map_some, if_pos rfl]) ?_
    exact recFor_without_self k.queue (.answer n)

/-- The answer in the holder's queue is the step's own HELD or GRANT (R108). -/
def ownAnswer (s : State) (p : Permit) (i : StepId) (x : StepRec) : Bool :=
  (answerIn s p.holder p.num).any fun c => c.step == i &&
    ((x.state == .asked && c.kind == .held) || (x.state == .answered && c.kind == .grant))

/-- The state without the step's entry and answer. -/
def unanswered (s : State) (p : Permit) (i : StepId) (x : StepRec) : State :=
  let s1 := if x.state = .asked then removeAsk s p.num else s
  if ownAnswer s p i x = true then dropRec s1 p.holder (.answer p.num) else s1

/-- The state without the step's mark as well. -/
def unmarkedStep (s : State) (p : Permit) (i : StepId) (x : StepRec) : State :=
  if x.state = .answered then clearBusy (unanswered s p i x) x.point p.num i else unanswered s p i x

theorem withdrawStep_eq (s : State) (p : Permit) (i : StepId) (x : StepRec) : withdrawStep s p i x =
    if i.list = 1 then releaseHold (unmarkedStep s p i x) x.point p.num else unmarkedStep s p i x := by
  unfold withdrawStep unmarkedStep unanswered ownAnswer
  cases hstate : x.state <;> cases hanswer : answerIn s p.holder p.num <;> simp [and_comm]

section
variable (s : State) (p : Permit) (i : StepId) (x : StepRec)

theorem unasked_keeps : Keeps [.asks] s (if x.state = .asked then removeAsk s p.num else s) := by
  split_ifs
  · exact removeAsk_keeps s _
  · exact .refl _ s

theorem unanswered_keeps : Keeps [.asks, .trucks] s (unanswered s p i x) := by
  have hasks := unasked_keeps s p x
  unfold unanswered
  dsimp only
  split_ifs at hasks ⊢
  · exact hasks.to.trans (dropRec_keeps _ _ _).to
  · exact hasks.to.trans (dropRec_keeps _ _ _).to
  · exact hasks.to
  · exact hasks.to

theorem unmarkedStep_keeps : Keeps [.points] (unanswered s p i x) (unmarkedStep s p i x) := by
  unfold unmarkedStep
  split_ifs
  · exact clearBusy_keeps _ _ _ _
  · exact .refl _ _

theorem withdrawStep_keeps_answered : Keeps [.points] (unanswered s p i x) (withdrawStep s p i x) := by
  rw [withdrawStep_eq]
  split_ifs
  · exact (unmarkedStep_keeps s p i x).trans (releaseHold_keeps _ _ _)
  · exact unmarkedStep_keeps s p i x

theorem withdrawStep_keeps : Keeps [.asks, .trucks, .points] s (withdrawStep s p i x) :=
  (unanswered_keeps s p i x).to.trans (withdrawStep_keeps_answered s p i x).to

theorem withdrawStep_asks : (withdrawStep s p i x).asks =
    if x.state = .asked then s.asks.filter fun a => a.permit != p.num else s.asks := by
  refine (withdrawStep_keeps_answered s p i x .asks (by decide)).trans ?_
  unfold unanswered
  split_ifs <;> rfl

theorem withdrawStep_trucks :
    if ownAnswer s p i x = true then OnlyRecord s (withdrawStep s p i x) p.holder (.answer p.num) ∧
      answerIn (withdrawStep s p i x) p.holder p.num = none
    else (withdrawStep s p i x).trucks = s.trucks := by
  have hkeeps := withdrawStep_keeps_answered s p i x
  have hasks := unasked_keeps s p x
  split_ifs with hown
  · have hdropped : unanswered s p i x =
        dropRec (if x.state = .asked then removeAsk s p.num else s) p.holder (.answer p.num) := if_pos hown
    refine ⟨OnlyRecord.to ?_ hkeeps, (answerIn_of_keeps hkeeps _ _).trans ?_⟩
    · rw [hdropped]
      exact (onlyRecord_dropRec_answer _ _ _).from hasks
    · rw [hdropped]
      exact answerIn_dropRec _ _ _
  · have hkept : unanswered s p i x = if x.state = .asked then removeAsk s p.num else s := if_neg hown
    have htrucks := hkeeps .trucks (by decide)
    rw [hkept] at htrucks
    exact htrucks.trans (hasks .trucks (by decide))

theorem withdrawStep_frame : withdrawStep s p i x = { s with
    asks := (withdrawStep s p i x).asks, trucks := (withdrawStep s p i x).trucks, points := (withdrawStep s p i x).points } := by
  have hkeeps := withdrawStep_keeps s p i x
  have hpermits : (withdrawStep s p i x).permits = s.permits := hkeeps .permits (by decide)
  have harb : (withdrawStep s p i x).askArb = s.askArb := hkeeps .askArb (by decide)
  exact (eq_of_keeps_permitsAsks hkeeps.to).trans (by rw [hpermits, harb])

/-- A point without the mark of a step that was granted, and for a restore step without the permit's hold (R108). -/
def Point.withdrawn (n : Nat) (i : StepId) (x : StepRec) (q : Point) : Point :=
  { q with
    busy := if x.state = .answered ∧ q.busy = some { permit := n, step := i } then none else q.busy
    holds := if i.list = 1 then q.holds.filter fun h => h.permit != n else q.holds }

theorem pointOf_withdrawStep (m : Nat) : pointOf (withdrawStep s p i x) m =
    (pointOf s m).map fun q => if m = x.point then q.withdrawn p.num i x else q := by
  have hanswered : pointOf (unanswered s p i x) m = pointOf s m := pointOf_of_keeps (unanswered_keeps s p i x) m
  have hmarked : pointOf (unmarkedStep s p i x) m = (pointOf s m).map fun q =>
      if m = x.point ∧ x.state = .answered then q.unmarked p.num i else q := by
    by_cases hstate : x.state = .answered
    · rw [unmarkedStep, if_pos hstate, pointOf_clearBusy, hanswered]
      simp [hstate]
    · rw [unmarkedStep, if_neg hstate, hanswered]
      simp [hstate]
  rw [withdrawStep_eq]
  by_cases hlist : i.list = 1
  · rw [if_pos hlist]
    refine (pointOf_modPoint (unmarkedStep s p i x) x.point m (Point.withoutHold p.num) fun _ h => h).trans ?_
    rw [hmarked, Option.map_map]
    refine congrArg (Option.map · _) (funext fun q => ?_)
    by_cases hm : m = x.point
    · by_cases hstate : x.state = .answered
      · by_cases hbusy : q.busy = some { permit := p.num, step := i } <;>
          simp [hm, hstate, hbusy, hlist, Point.unmarked, Point.withoutHold, Point.withdrawn]
      · simp [hm, hstate, hlist, Point.withoutHold, Point.withdrawn]
    · simp [hm]
  · rw [if_neg hlist, hmarked]
    refine congrArg (Option.map · _) (funext fun q => ?_)
    by_cases hm : m = x.point
    · by_cases hstate : x.state = .answered
      · by_cases hbusy : q.busy = some { permit := p.num, step := i } <;>
          simp [hm, hstate, hbusy, hlist, Point.unmarked, Point.withdrawn]
      · simp [hm, hstate, hlist, Point.withdrawn]
    · simp [hm]

end

/-! ## The ends (R106, R107) -/

theorem eq_of_keeps_points {s v : State} (h : Keeps [.points] s v) : v = { s with points := v.points } := by
  have hpermits : v.permits = s.permits := h .permits (by decide)
  have htrucks : v.trucks = s.trucks := h .trucks (by decide)
  have harb : v.askArb = s.askArb := h .askArb (by decide)
  exact (eq_of_keeps_permitsPoints h.to).trans (by rw [hpermits, htrucks, harb])

/-- The state at a normal end, its position not yet weighed (R106). -/
def endedStep (s : State) (n : Nat) (i : StepId) (x : StepRec) (pos : Position) (clear : Bool) : State :=
  placeHold (modStep (setReported s x.point n i pos clear) n i fun y => { y with state := .done, result := some .normal }) n i x

section
variable (s : State) (n : Nat) (i : StepId) (x : StepRec) (pos : Position) (clear : Bool)

theorem endedStep_step : OnlyStep s (endedStep s n i x pos clear) n i
    fun y => { y with state := .done, result := some .normal } :=
  ((onlyStep_modStep _ n i _).from (setReported_keeps s _ n i pos clear)).to (placeHold_keeps _ n i x)

theorem endedStep_keeps : Keeps [.permits, .points] s (endedStep s n i x pos clear) :=
  (setReported_keeps s _ n i pos clear).to.trans ((modStep_keeps _ n i _).to.trans (placeHold_keeps _ n i x).to)

theorem endedStep_eq : endedStep s n i x pos clear =
    { s with permits := (endedStep s n i x pos clear).permits, points := (endedStep s n i x pos clear).points } := by
  have hkeeps := endedStep_keeps s n i x pos clear
  have htrucks : (endedStep s n i x pos clear).trucks = s.trucks := hkeeps .trucks (by decide)
  have harb : (endedStep s n i x pos clear).askArb = s.askArb := hkeeps .askArb (by decide)
  exact (eq_of_keeps_permitsPoints hkeeps.to).trans (by rw [htrucks, harb])

theorem pointOf_endedStep (m : Nat) : pointOf (endedStep s n i x pos clear) m = (pointOf s m).map fun q =>
    if m = x.point then (if clear = true then (q.at pos).unmarked n i else q.at pos).held n i x else q := by
  rw [endedStep, pointOf_placeHold, pointOf_of_keeps (modStep_keeps _ n i _), pointOf_setReported, Option.map_map]
  refine congrArg (Option.map · _) (funext fun q => ?_)
  by_cases hm : m = x.point <;> simp [hm]

theorem postRevoke_false : postRevoke s n i x pos false = s := by
  unfold postRevoke
  cases permitOf s n <;> rfl

theorem postRevoke_true {st : PermitState} (h : (permitOf s n).map Permit.state = some st) :
    postRevoke s n i x pos true = post s (.doneAfterRevoke n i x.point pos st) := by
  obtain ⟨p, hp, rfl⟩ := Option.map_eq_some_iff.mp h
  simp only [postRevoke, hp, if_true]

/-- A normal end (R106). -/
theorem normalEnd_false : normalEnd s n i x pos false = afterDone
    (post (weigh (endedStep s n i x pos true) x.point (.stepDone n i)) (.stepResult n i x.point pos .normal none)) n := by
  change afterDone (postRevoke _ n i x pos false) n = _
  rw [postRevoke_false]
  rfl

/-- An abnormal end (R107). -/
theorem abnormalEnd_false : abnormalEnd s n i x pos false = afterDone
    (post (modStep (weigh (addCause (setReported s x.point n i pos true) n .mismatch) x.point (.stepDone n i)) n i
        fun y => { y with state := .done, result := some .abnormal })
      (.stepResult n i x.point pos .abnormal (some (if pos = x.leaves then .holdRefused else .position)))) n := by
  change afterDone (postRevoke _ n i x pos false) n = _
  rw [postRevoke_false]
  rfl

variable {st : PermitState} (h : (permitOf s n).map Permit.state = some st)
include h

theorem normalEnd_true : normalEnd s n i x pos true = afterDone
    (post (post (weigh (endedStep s n i x pos false) x.point (.stepDone n i)) (.stepResult n i x.point pos .normal none))
      (.doneAfterRevoke n i x.point pos st)) n := by
  change afterDone (postRevoke (post (weigh (endedStep s n i x pos false) x.point (.stepDone n i)) _) n i x pos true) n = _
  rw [postRevoke_true]
  rw [permitOf_of_keeps (post_keeps _ _), stateOf_weigh, endedStep, permitOf_of_keeps (placeHold_keeps _ n i x),
    stateOf_modStep, permitOf_of_keeps (setReported_keeps s _ n i pos false), h]

theorem abnormalEnd_true : abnormalEnd s n i x pos true = afterDone
    (post (post (modStep (weigh (addCause (setReported s x.point n i pos false) n .mismatch) x.point (.stepDone n i)) n i
        fun y => { y with state := .done, result := some .abnormal })
      (.stepResult n i x.point pos .abnormal (some (if pos = x.leaves then .holdRefused else .position))))
      (.doneAfterRevoke n i x.point pos st)) n := by
  change afterDone (postRevoke (post (modStep (weigh (addCause (setReported s x.point n i pos false) n .mismatch) x.point
    (.stepDone n i)) n i _) _) n i x pos true) n = _
  rw [postRevoke_true]
  rw [permitOf_of_keeps (post_keeps _ _), stateOf_modStep, stateOf_weigh, stateOf_addCause,
    permitOf_of_keeps (setReported_keeps s _ n i pos false), h]

end

end Sys2Proof.Machine

/-!
PROOFS. STEP_DONE (R105 to R108), and what follows the last step of a list (R75, R77).
-/
namespace Sys2Proof.Machine

-- The proofs are taken one after another: side by side they wait for each other in more threads than the check can hold.
set_option Elab.async false

/-! ## The last step of a list (R75, R77) -/

theorem allDone_iff (l : List StepRec) : allDone l = true ↔ ∀ x ∈ l, x.state = .done := by
  simp [allDone]

section
variable {s : State} {n : Nat} {p : Permit} (hp : permitOf s n = some p)
include hp

theorem afterDone_eq : afterDone s n =
    if p.state = .isolating ∧ (∀ x ∈ p.iso, x.state = .done) then enterCleared s n
    else if p.state = .restoring ∧ (∀ x ∈ p.rest, x.state = .done) then enterClosed s n
    else s := by
  simp only [afterDone, hp, Bool.and_eq_true, decide_eq_true_eq, allDone_iff]

end

theorem recOf_give_permit {s : State} {t : Nat} {c : PermitContent} (hroom : canGive s t (.permit c.num) = true) :
    ∃ r, recOf (give s t (.permit c)) t (.permit c.num) = some r ∧ r.content = .permit c ∧ r.attempts = 0 ∧
      r.inFlight = false := by
  cases hk : truckOf s t with
  | none => simp [canGive, hk] at hroom
  | some k =>
    obtain ⟨k', r, hk', -, hrec, hcontent, hattempts, hflight, -⟩ := truckOf_give_permit hk ((canGive_iff hk).mp hroom)
    exact ⟨r, by simp [recOf, hk', hrec], hcontent, hattempts, hflight⟩

section
variable {s : State} {p : Permit} (hp : permitOf s p.num = some p) (st : PermitState)
include hp

/-- A permit moved and announced: its record where there is room, and otherwise no truck changes (R69, R72). -/
theorem announced_trucks :
    let u := postPermitState (givePermit (setPermitState s p.num st) p.num) p.num
    if canGive s p.holder (.permit p.num) = true then
      OnlyRecord s u p.holder (.permit p.num) ∧
      ∃ r, recOf u p.holder (.permit p.num) = some r ∧ r.content = .permit (permitContent { p with state := st }) ∧
        r.attempts = 0 ∧ r.inFlight = false
    else u.trucks = s.trucks := by
  intro u
  have hset := setPermitState_keeps s p.num st
  have hannounced : Keeps [.port] (give (setPermitState s p.num st) p.holder (.permit (permitContent { p with state := st }))) u := by
    rw [← givePermit_eq (permitOf_setPermitState_self hp st)]
    exact postPermitState_keeps _ _
  by_cases hroom : canGive s p.holder (.permit p.num) = true
  · rw [if_pos hroom]
    have hroom' := (canGive_of_keeps hset p.holder (.permit p.num)).trans hroom
    obtain ⟨r, hrec, hrest⟩ := recOf_give_permit (c := permitContent { p with state := st }) hroom'
    refine ⟨((onlyRecord_give _ _ (.permit (permitContent { p with state := st }))).from hset).to hannounced, r, ?_, hrest⟩
    rw [recOf, truckOf_of_keeps hannounced]
    exact hrec
  · rw [if_neg hroom]
    have hfull : canGive (setPermitState s p.num st) p.holder (.permit p.num) = false :=
      (canGive_of_keeps hset p.holder _).trans (Bool.eq_false_iff.mpr hroom)
    rw [give_refused (c := .permit (permitContent { p with state := st })) hfull] at hannounced
    exact (hannounced .trucks (by decide)).trans (hset .trucks (by decide))

/-- Entry into CLOSED: the final record, or the slot freed where there is no room (R77). -/
theorem enterClosed_trucks :
    if canGive s p.holder (.permit p.num) = true then
      OnlyRecord s (enterClosed s p.num) p.holder (.permit p.num) ∧
      ∃ r, recOf (enterClosed s p.num) p.holder (.permit p.num) = some r ∧ r.attempts = 0 ∧ r.inFlight = false ∧
        r.content = .permit (permitContent p.closedNow)
    else ∀ m, truckOf (enterClosed s p.num) m = (truckOf s m).map fun k =>
      if m = p.holder then { k with permitSlots := k.permitSlots.filter (· != p.num) } else k := by
  have hclosed := closeRecord_keeps s p.num
  have htrucks := truckOf_enterClosed hp
  by_cases hroom : canGive s p.holder (.permit p.num) = true
  · rw [if_pos hroom] at htrucks ⊢
    have hroom' := (canGive_of_keeps hclosed p.holder (.permit p.num)).trans hroom
    obtain ⟨r, hrec, hcontent, hattempts, hflight⟩ := recOf_give_permit (c := permitContent p.closedNow) hroom'
    have hrecord := (onlyRecord_give _ p.holder (.permit (permitContent p.closedNow))).from hclosed
    refine ⟨?_, r, ?_, hattempts, hflight, hcontent⟩
    · unfold OnlyRecord at hrecord ⊢
      simp only [htrucks]
      exact hrecord
    · rw [recOf, htrucks]
      exact hrec
  · rw [if_neg hroom] at htrucks ⊢
    intro m
    rw [htrucks, truckOf_freePermitSlot, truckOf_of_keeps hclosed]

end

/-- The end of a step EXECUTING (R105 to R107). -/
theorem endStep_spec {s r : State} {n : Nat} {p : Permit} (hp : permitOf s n = some p) {i : StepId} {x : StepRec}
    (hx : p.step i = some x) (pos : Position) (hr : r = endStep s n i x pos false) :
    let mark (q : Point) : Option BusyMark := if q.busy = some { permit := n, step := i } then none else q.busy
    if pos = x.leaves ∧ holdPlaceable s n i x = true then
      ∃ w, stepIn w n i = some { x with state := .done, result := some .normal } ∧
        (∀ j, j ≠ i → stepIn w n j = stepIn s n j) ∧ (∀ m, m ≠ n → permitOf w m = permitOf s m) ∧
        (∃ q, permitOf w n = some q ∧ q = { p with iso := q.iso, rest := q.rest }) ∧
        (∀ m, m ≠ x.point → pointOf w m = pointOf s m) ∧
        pointOf w x.point = ((pointOf s x.point).map fun q =>
          { q with
            position := pos, busy := mark q
            holds :=
              if i.list = 1 then q.holds
              else if (q.holds.any fun h => h.permit == n) = true then
                q.holds.map fun h => if h.permit = n then { h with position := pos } else h
              else if x.hold = true then q.holds ++ [{ permit := n, position := pos }] else q.holds }) ∧
        w = { s with permits := w.permits, points := w.points } ∧
        r = afterDone (post (weigh w x.point (.stepDone n i)) (.stepResult n i x.point pos .normal none)) n
    else
      ∃ w, (∀ m, m ≠ x.point → pointOf w m = pointOf s m) ∧
        pointOf w x.point = ((pointOf s x.point).map fun q => { q with position := pos, busy := mark q }) ∧
        w = { s with points := w.points } ∧
        r = afterDone
          (post (modStep (weigh (addCause w n .mismatch) x.point (.stepDone n i)) n i
              fun y => { y with state := .done, result := some .abnormal })
            (.stepResult n i x.point pos .abnormal (some (if pos = x.leaves then .holdRefused else .position)))) n := by
  intro mark
  have hunmarked (q : Point) : (q.at pos).unmarked n i = { q with position := pos, busy := mark q } := by
    unfold Point.unmarked
    by_cases hbusy : q.busy = some { permit := n, step := i } <;> simp [Point.at, mark, hbusy]
  by_cases hnormal : pos = x.leaves ∧ holdPlaceable s n i x = true
  · rw [if_pos hnormal]
    rw [endStep, if_pos hnormal, normalEnd_false] at hr
    have hstep := endedStep_step s n i x pos true
    obtain ⟨q, hq, hframe, -⟩ := hstep.2 p hp
    refine ⟨_, ?_, fun j hj => ?_, hstep.1, ⟨q, hq, hframe⟩, fun m hm => ?_, ?_, endedStep_eq s n i x pos true, hr⟩
    · rw [hstep.stepIn hp, stepIn_eq hp, hx, Option.map_some, if_pos rfl]
    · simp [hstep.stepIn hp, hj]
    · simp [pointOf_endedStep, hm]
    · rw [pointOf_endedStep]
      refine congrArg (Option.map · _) (funext fun q => ?_)
      rw [if_pos rfl, if_pos rfl, hunmarked, Point.held, hnormal.1]
  · rw [if_neg hnormal]
    rw [endStep, if_neg hnormal, abnormalEnd_false] at hr
    refine ⟨_, fun m hm => ?_, ?_, eq_of_keeps_points (setReported_keeps s x.point n i pos true), hr⟩
    · simp [pointOf_setReported, hm]
    · rw [pointOf_setReported]
      refine congrArg (Option.map · _) (funext fun q => ?_)
      rw [if_pos rfl, if_pos rfl, hunmarked]

/-- A done after revoke of an open permit (R108). -/
theorem revokedStep_spec {s r : State} {p : Permit} (hp : permitOf s p.num = some p) {i : StepId} {x : StepRec}
    (pos : Position) (hr : r = endStep (withdrawStep s p i x) p.num i x pos true) :
    let mark (q : Point) : Option BusyMark :=
      if x.state = .answered ∧ q.busy = some { permit := p.num, step := i } then none else q.busy
    let kept (q : Point) : List Hold := if i.list = 1 then q.holds.filter fun h => h.permit != p.num else q.holds
    ∃ v w,
      v.asks = (if x.state = .asked then s.asks.filter fun a => a.permit != p.num else s.asks) ∧
      (if ownAnswer s p i x = true then
        OnlyRecord s v p.holder (.answer p.num) ∧ answerIn v p.holder p.num = none
       else v.trucks = s.trucks) ∧
      (∀ m, m ≠ x.point → pointOf v m = pointOf s m) ∧
      pointOf v x.point = ((pointOf s x.point).map fun q => { q with busy := mark q, holds := kept q }) ∧
      v = { s with asks := v.asks, trucks := v.trucks, points := v.points } ∧
      (∀ m, m ≠ x.point → pointOf w m = pointOf s m) ∧
      if pos = x.leaves ∧ holdPlaceable v p.num i x = true then
        OnlyStep s w p.num i (fun y => { y with state := .done, result := some .normal }) ∧
        pointOf w x.point = ((pointOf s x.point).map fun q =>
          { q with
            position := pos, busy := mark q
            holds :=
              if i.list = 1 then kept q
              else if (q.holds.any fun h => h.permit == p.num) = true then
                q.holds.map fun h => if h.permit = p.num then { h with position := pos } else h
              else if x.hold = true then q.holds ++ [{ permit := p.num, position := pos }] else q.holds }) ∧
        w = { v with permits := w.permits, points := w.points } ∧
        r = afterDone
          (post (post (weigh w x.point (.stepDone p.num i)) (.stepResult p.num i x.point pos .normal none))
            (.doneAfterRevoke p.num i x.point pos p.state)) p.num
      else
        pointOf w x.point = ((pointOf s x.point).map fun q =>
          { q with position := pos, busy := mark q, holds := kept q }) ∧
        w = { v with points := w.points } ∧
        r = afterDone
          (post (post (modStep (weigh (addCause w p.num .mismatch) x.point (.stepDone p.num i)) p.num i
              fun y => { y with state := .done, result := some .abnormal })
            (.stepResult p.num i x.point pos .abnormal (some (if pos = x.leaves then .holdRefused else .position))))
            (.doneAfterRevoke p.num i x.point pos p.state)) p.num := by
  intro mark kept
  let v := withdrawStep s p i x
  have hkeeps : Keeps [.asks, .trucks, .points] s v := withdrawStep_keeps s p i x
  have hstate : (permitOf v p.num).map Permit.state = some p.state := by
    rw [permitOf_of_keeps hkeeps, hp]
    rfl
  have hpoint (m : Nat) : pointOf v m = (pointOf s m).map fun q => if m = x.point then q.withdrawn p.num i x else q :=
    pointOf_withdrawStep s p i x m
  have hother (m : Nat) (hm : m ≠ x.point) : pointOf v m = pointOf s m := by simp [hpoint, hm]
  have hself : pointOf v x.point = (pointOf s x.point).map (Point.withdrawn p.num i x) := by simp [hpoint]
  have heq : v = { s with asks := v.asks, trucks := v.trucks, points := v.points } := withdrawStep_frame s p i x
  by_cases hnormal : pos = x.leaves ∧ holdPlaceable v p.num i x = true
  · rw [endStep, if_pos hnormal, normalEnd_true _ _ _ _ _ hstate] at hr
    refine ⟨v, endedStep v p.num i x pos false, withdrawStep_asks s p i x, withdrawStep_trucks s p i x, hother, hself, heq,
      fun m hm => ?_, ?_⟩
    · simp [pointOf_endedStep, hm, hother m hm]
    · rw [if_pos hnormal]
      refine ⟨(endedStep_step v p.num i x pos false).from hkeeps, ?_, endedStep_eq v p.num i x pos false, hr⟩
      rw [pointOf_endedStep, hself, Option.map_map]
      refine congrArg (Option.map · _) (funext fun q => ?_)
      rw [Function.comp_apply, if_pos rfl, if_neg (by decide), Point.held, ← hnormal.1]
      by_cases hlist : i.list = 1 <;> simp [hlist, Point.at, Point.withdrawn, mark, kept]
  · rw [endStep, if_neg hnormal, abnormalEnd_true _ _ _ _ _ hstate] at hr
    refine ⟨v, setReported v x.point p.num i pos false, withdrawStep_asks s p i x, withdrawStep_trucks s p i x, hother, hself, heq,
      fun m hm => ?_, ?_⟩
    · simp [pointOf_setReported, hm, hother m hm]
    · rw [if_neg hnormal]
      refine ⟨?_, eq_of_keeps_points (setReported_keeps v x.point p.num i pos false), hr⟩
      rw [pointOf_setReported, hself, Option.map_map]
      refine congrArg (Option.map · _) (funext fun q => ?_)
      rw [Function.comp_apply, if_pos rfl, if_neg (by decide)]
      rfl

/-- Settles O36: the cases of a STEP_DONE, the ends, the done after revoke, and the last step of a list. -/
theorem stepDoneEndsStep : Obligations.StepDoneEndsStep := by
  unfold Obligations.StepDoneEndsStep
  refine ⟨fun s t n i code => ?_, fun s n i x => ?_, fun s p i x pos hp _ => ?_, fun s n p hp => ?_⟩
  case refine_1 =>
    intro ignored pos
    have hpos : reportedPosition code = pos := reportedPosition_eq code
    cases hp : permitOf s n with
    | none => simp only [ignored, stepDone, hp, ignoreStep]
    | some p =>
      dsimp only
      by_cases hholder : p.holder = t
      case neg =>
        rw [if_pos hholder]
        simp only [ignored, stepDone, hp, ignoreStep, ne_eq, hholder, not_false_eq_true, if_true]
      rw [if_neg (not_not.mpr hholder)]
      cases hx : p.step i with
      | none => simp only [ignored, stepDone, hp, ignoreStep, ne_eq, hholder, not_true_eq_false, if_false, hx]
      | some x =>
        have hdone : stepDone s t n i code =
            if x.state = .done then s
            else if x.state = .executing then endStep s n i x pos false
            else if x.sent = true then doneAfterRevoke s p i x pos
            else post s (.stepIgnored t .stepDone n i .notGranted none) := by
          simp only [stepDone, hp, ignoreStep, ne_eq, hholder, not_true_eq_false, if_false, hx, hpos]
        dsimp only
        by_cases hstate : x.state = .done
        · rw [if_pos hstate] at hdone ⊢
          exact hdone
        rw [if_neg hstate] at hdone ⊢
        by_cases hexecuting : x.state = .executing
        case neg =>
          rw [if_neg hexecuting] at hdone
          rw [if_pos hexecuting]
          by_cases hsent : x.sent = true
          · rw [if_pos hsent] at hdone ⊢
            exact hdone
          · rw [if_neg hsent] at hdone ⊢
            exact hdone
        rw [if_pos hexecuting] at hdone
        rw [if_neg (not_not.mpr hexecuting)]
        exact endStep_spec hp hx pos hdone
  case refine_2 =>
    intro left
    cases hq : pointOf s x.point with
    | none => simp only [holdPlaceable, hq]
    | some q => exact holdPlaceable_eq hq n i
  case refine_3 =>
    intro n left
    by_cases hclosed : p.state = .closed
    · rw [if_pos hclosed, doneAfterRevoke, if_neg (by simp [hclosed, PermitState.isOpen]), if_neg (by simp [hclosed])]
    rw [if_neg hclosed]
    by_cases hcancelled : p.state = .cancelled
    · rw [if_pos hcancelled]
      refine ⟨setPosition s x.point pos, fun m hm => pointOf_setPosition_ne s hm pos, ?_,
        eq_of_keeps_points (modPoint_keeps s x.point _), ?_⟩
      · simp [pointOf_setPosition]
      · rw [doneAfterRevoke, if_neg (by simp [hcancelled, PermitState.isOpen]), if_pos hcancelled, hcancelled]
        rfl
    rw [if_neg hcancelled]
    have hopen : p.state.isOpen = true := by
      rw [← Bool.not_eq_false, PermitState.isOpen_eq_false]
      simp [hclosed, hcancelled]
    exact revokedStep_spec hp pos (by rw [doneAfterRevoke, if_pos hopen])
  case refine_4 =>
    obtain rfl : p.num = n := (findBy_some hp).1
    intro enters
    rw [afterDone_eq hp]
    by_cases hcleared : p.state = .isolating ∧ ∀ x ∈ p.iso, x.state = .done
    · rw [if_pos hcleared, if_pos hcleared]
      refine ⟨?_, fun m hm => ?_, announced_trucks hp .cleared, eq_of_keeps_permitsTrucks (announce_setPermitState_keeps hp .cleared)⟩
      · simp [enterCleared, permitOf_announce_setPermitState, hp]
      · simp [enterCleared, permitOf_announce_setPermitState, hm]
    rw [if_neg hcleared, if_neg hcleared]
    by_cases hclosed : p.state = .restoring ∧ ∀ x ∈ p.rest, x.state = .done
    · rw [if_pos hclosed, if_pos hclosed]
      refine ⟨_, rfl, ?_, fun m hm => ?_, enterClosed_points s p.num, enterClosed_trucks hp, ?_⟩
      · rw [permitOf_enterClosed, hp, Option.map_some, if_pos rfl]
        rfl
      · simp [permitOf_enterClosed, hm]
      · have := enterClosed_keeps hp
        exact eq_of_keeps_permitsPoints this
    rw [if_neg hclosed, if_neg hclosed]

end Sys2Proof.Machine

/-!
PROOFS. Where a record is placed, updated, moved and removed in a queue (R113 to R118), and SEND_TEXT (R129).
-/
namespace Sys2Proof.Machine

-- The proofs are taken one after another: side by side they wait for each other in more threads than the check can hold.
set_option Elab.async false

/-! ## Class and size (R113) -/

theorem Content.urgent_eq (c : Content) : c.urgent = (match c with
    | .order x => decide (x.prio = 1)
    | .permit x => decide (x.causes ≠ Causes.none)
    | .answer _ => true
    | .prompt _ => true
    | .assist _ => true
    | .text _ => false) := by
  cases c with
  | permit x => rw [Bool.eq_iff_iff, decide_eq_true_iff]; exact Causes.any_iff x.causes
  | order x => rw [Bool.eq_iff_iff]; simp [Content.urgent]
  | _ => rfl

theorem Content.units_eq (c : Content) : c.units = (match c with
    | .order x => 1 + (x.desc.length + 39) / 40
    | .permit x => 1 + (x.steps.length + 3) / 4
    | .answer _ => 1
    | .prompt _ => 1
    | .assist l => 1 + (l.length + 1) / 2
    | .text t => 1 + (t.length + 39) / 40) := by
  cases c <;> rfl

/-! ## The two parts of a queue (R116) -/

theorem urgentRun_of_parts {q run rest : List Rec} (h : InTwoParts q run rest) : urgentRun q = run := by
  obtain ⟨rfl, hrun, hrest⟩ := h
  rw [urgentRun, List.takeWhile_append_of_pos (p := Rec.urgent) hrun]
  cases rest with
  | nil => simp
  | cons r rest => simp [Rec.urgent, hrest r rfl]

theorem routinePart_of_parts {q run rest : List Rec} (h : InTwoParts q run rest) : routinePart q = rest := by
  have hrun := urgentRun_of_parts h
  have hparts := run_part q
  rw [hrun] at hparts
  exact List.append_cancel_left (hparts.trans h.1)

theorem behindRun_of_parts {q run rest : List Rec} (h : InTwoParts q run rest) (r : Rec) :
    behindRun q r = run ++ r :: rest := by
  rw [behindRun, urgentRun_of_parts h, routinePart_of_parts h]

/-! ## Behind a PERMIT record (R117) -/

theorem behindSubject_of_split {x : Subject} {y a : Rec} {l1 l2 : List Rec} (hy : y.subject = x)
    (hl1 : ∀ r ∈ l1, r.subject ≠ x) : behindSubject x a (l1 ++ y :: l2) = l1 ++ y :: a :: l2 := by
  induction l1 with
  | nil => simp [behindSubject, hy]
  | cons z l1 ih =>
    have hz : z.subject ≠ x := hl1 z (by simp)
    simp [behindSubject, hz, ih fun r hr => hl1 r (by simp [hr])]

/-- In a queue of one record a subject none ahead of a record is for its subject. -/
theorem ne_of_split {l1 l2 : List Rec} {y : Rec} (hn : ((l1 ++ y :: l2).map Rec.subject).Nodup) :
    ∀ r ∈ l1, r.subject ≠ y.subject := by
  intro r hr he
  rw [List.map_append, List.nodup_append] at hn
  exact hn.2.2 _ (List.mem_map_of_mem hr) _ (by simp) he

theorem recFor_of_split {l1 l2 : List Rec} {y : Rec} (hn : ((l1 ++ y :: l2).map Rec.subject).Nodup) :
    recFor (l1 ++ y :: l2) y.subject = some y := recFor_of_mem hn (by simp)

theorem tuckAnswer_of_none {q : List Rec} {p : Nat} (h : recFor q (.answer p) = none) : tuckAnswer p q = q := by
  simp only [tuckAnswer, h]

theorem tuckAnswer_of_split {q l1 l2 : List Rec} {p : Nat} {r a : Rec} (hn : (q.map Rec.subject).Nodup)
    (hr : r.subject = .permit p) (ha : recFor q (.answer p) = some a) (hsplit : without q (.answer p) = l1 ++ r :: l2) :
    tuckAnswer p q = l1 ++ r :: a :: l2 := by
  have hn' := nodup_without hn (.answer p)
  rw [hsplit] at hn'
  have hstands : recFor q (.permit p) = some r := by
    have hrest := recFor_without q (.answer p) (.permit p)
    rw [hsplit, if_neg (by simp), ← hr, recFor_of_split hn'] at hrest
    rw [← hr, ← hrest]
  simp only [tuckAnswer, ha, hstands, Option.isSome_some, if_true, hsplit]
  exact behindSubject_of_split hr (hr ▸ ne_of_split hn')

/-! ## Placing anew and updating (R114, R116, R117) -/

theorem placeNew_answer {l1 l2 : List Rec} {y r : Rec} {p : Nat} (hn : ((l1 ++ y :: l2).map Rec.subject).Nodup)
    (hr : r.subject = .answer p) (hy : y.subject = .permit p) : placeNew (l1 ++ y :: l2) r = l1 ++ y :: r :: l2 := by
  have hstands : (recFor (l1 ++ y :: l2) (.permit p)).isSome = true := by rw [← hy, recFor_of_split hn]; rfl
  unfold placeNew
  rw [hr]
  simp only [hstands, if_true]
  exact behindSubject_of_split hy (hy ▸ ne_of_split hn)

theorem placeNew_eq {q : List Rec} {r : Rec} (h : ∀ p, r.subject = .answer p → recFor q (.permit p) = none) :
    placeNew q r = tuckFor r.subject (if r.urgent = true then behindRun q r else q ++ [r]) := by
  unfold placeNew
  cases hsubject : r.subject with
  | answer p => simp [h p hsubject, Rec.urgent_of_answer hsubject, tuckFor]
  | _ => rfl

/-- An update that keeps the class stays in its place. -/
theorem placeUpdated_same {l1 l2 : List Rec} {old new : Rec} (hn : ((l1 ++ old :: l2).map Rec.subject).Nodup)
    (hclass : old.urgent = new.urgent) : placeUpdated (l1 ++ old :: l2) old new = l1 ++ new :: l2 := by
  have hbefore := ne_of_split hn
  have hbehind : ∀ r ∈ l2, r.subject ≠ old.subject := by
    intro r hr he
    rw [List.map_append, List.map_cons, List.nodup_append, List.nodup_cons] at hn
    exact hn.2.1.1 (he ▸ List.mem_map_of_mem hr)
  have hkept : ∀ {l : List Rec}, (∀ r ∈ l, r.subject ≠ old.subject) →
      (l.map fun r => if r.subject = old.subject then new else r) = l := by
    intro l hl
    refine (List.map_congr_left fun r hr => if_neg (hl r hr)).trans (List.map_id _)
  rw [placeUpdated, if_pos hclass, List.map_append, List.map_cons, if_pos rfl, hkept hbefore, hkept hbehind]

theorem placeUpdated_moved {q : List Rec} {old new : Rec} (hclass : old.urgent ≠ new.urgent) :
    placeUpdated q old new = tuckFor new.subject (behindRun (without q old.subject) new) := by
  rw [placeUpdated, if_neg hclass]

/-! ## A record given (R114, R115, R124) -/

/-- The record a queue holds once one is given (R114). -/
def Truck.givenRec (now wait : Nat) (k : Truck) (c : Content) : Rec :=
  { content := c, seq := k.nextSeq, attempts := 0, inFlight := false
    entry := ((recFor k.queue c.subject).map Rec.entry).getD now
    discard := discardFor now wait (recFor k.queue c.subject) c
    origin := ((recFor k.queue c.subject).map Rec.origin).getD c.origin }

/-- The queue once a record is given (R116, R117). -/
def placedIn (q : List Rec) (r : Rec) : List Rec :=
  match recFor q r.subject with
  | some old => placeUpdated q old r
  | none => placeNew q r

theorem placedIn_of_some {q : List Rec} {r old : Rec} (h : recFor q r.subject = some old) :
    placedIn q r = placeUpdated q old r := by
  simp only [placedIn, h]

theorem placedIn_of_none {q : List Rec} {r : Rec} (h : recFor q r.subject = none) : placedIn q r = placeNew q r := by
  simp only [placedIn, h]

theorem Truck.give_eq (now wait : Nat) {k : Truck} {c : Content} (hroom : k.canTake c.subject = true) :
    k.give now wait c = some { k with
      queue := placedIn k.queue (k.givenRec now wait c), seqCtr := (k.nextSeq + 1) % 256 } := by
  have hsubject : (k.givenRec now wait c).subject = c.subject := rfl
  cases hold : recFor k.queue c.subject with
  | some old =>
    rw [placedIn_of_some (hsubject ▸ hold)]
    simp [Truck.give, Truck.givenRec, hold]
  | none =>
    have hlength : k.queue.length < 12 := by simpa [Truck.canTake, hold] using hroom
    rw [placedIn_of_none (hsubject ▸ hold)]
    simp [Truck.give, Truck.givenRec, hold, hlength]

theorem discardFor_eq (now wait : Nat) (old : Option Rec) (c : Content) : discardFor now wait old c =
    (if c.isGrant = true then
      (match old with
       | some o => if o.content.isGrant = true then o.discard else some (now + wait)
       | none => some (now + wait)) else none) := by
  unfold discardFor
  cases old <;> simp

/-- The counter's own value is given where no record holds it (R115). -/
theorem Truck.nextSeq_eq {k : Truck} (h : ∀ r ∈ k.queue, r.seq ≠ k.seqCtr) : k.nextSeq = k.seqCtr := by
  have hfree : k.seqCtr ∉ k.queue.map Rec.seq := by simpa using h
  simp [Truck.nextSeq, freeSeq, hfree]

section
variable {s : State} {n : Nat} {k : Truck} (hk : truckOf s n = some k) {c : Content} (hroom : k.canTake c.subject = true)
include hk hroom

theorem give_eq : give s n c = { modTruck s n (fun _ => { k with
      queue := placedIn k.queue (k.givenRec s.now s.timeouts.discard c), seqCtr := (k.nextSeq + 1) % 256 }) with
    askArb := s.askArb || c.urgent || ((recFor k.queue c.subject).map Rec.inFlight).getD false } := by
  have hflight : (recFor k.queue c.subject).any Rec.inFlight = ((recFor k.queue c.subject).map Rec.inFlight).getD false := by
    cases recFor k.queue c.subject <;> rfl
  simp only [give, hk, Truck.give_eq _ _ hroom, hflight]

theorem truckOf_given : truckOf (give s n c) n = some { k with
    queue := placedIn k.queue (k.givenRec s.now s.timeouts.discard c), seqCtr := (k.nextSeq + 1) % 256 } := by
  rw [give_eq hk hroom]
  refine (truckOf_modTruck s n n (fun _ => { k with
    queue := placedIn k.queue (k.givenRec s.now s.timeouts.discard c), seqCtr := (k.nextSeq + 1) % 256 })
    fun _ _ => (findBy_some hk).1).trans ?_
  rw [hk, Option.map_some, if_pos rfl]

end

/-! ## Where the record stands (R116, R117) -/

section
variable {q : List Rec} {r : Rec} (hn : (q.map Rec.subject).Nodup)
include hn

theorem placedIn_same {l1 l2 : List Rec} {o : Rec} (hq : q = l1 ++ o :: l2) (hsubject : o.subject = r.subject)
    (hclass : o.urgent = r.urgent) : placedIn q r = l1 ++ r :: l2 := by
  subst hq
  rw [placedIn_of_some (hsubject ▸ recFor_of_split hn), placeUpdated_same hn hclass]

theorem placedIn_answer {p : Nat} (hr : r.subject = .answer p) (hold : recFor q (.answer p) = none) {l1 l2 : List Rec} {o : Rec}
    (hq : q = l1 ++ o :: l2) (ho : o.subject = .permit p) : placedIn q r = l1 ++ o :: r :: l2 := by
  subst hq
  rw [placedIn_of_none (hr ▸ hold), placeNew_answer hn hr ho]

end

section
variable {q : List Rec} {r : Rec}

/-- Where a record placed anew, or one that changes its class, stands before an ANSWER is tucked behind it. -/
def borderPlaced (q run rest : List Rec) (r : Rec) : List Rec :=
  if recFor q r.subject = none ∧ r.urgent = false then q ++ [r] else run ++ r :: rest

theorem placedIn_border {run rest : List Rec} (hparts : InTwoParts (without q r.subject) run rest)
    (hclass : ∀ o, recFor q r.subject = some o → o.urgent ≠ r.urgent)
    (hanswer : ∀ p, r.subject = .answer p → recFor q (.permit p) = none) :
    placedIn q r = tuckFor r.subject (borderPlaced q run rest r) := by
  cases hold : recFor q r.subject with
  | some o =>
    rw [placedIn_of_some hold, placeUpdated_moved (hclass o hold), (recFor_some hold).1, behindRun_of_parts hparts, borderPlaced,
      if_neg (by simp [hold])]
  | none =>
    rw [without_of_forall_ne (recFor_none.mp hold)] at hparts
    rw [placedIn_of_none hold, placeNew_eq hanswer, behindRun_of_parts hparts, borderPlaced]
    cases r.urgent <;> simp [hold]

theorem borderPlaced_perm {run rest : List Rec} (hparts : InTwoParts (without q r.subject) run rest) :
    (borderPlaced q run rest r).Perm (r :: without q r.subject) := by
  unfold borderPlaced
  split_ifs with hnew
  · rw [without_of_forall_ne (recFor_none.mp hnew.1)]
    exact List.perm_append_comm
  · rw [hparts.1]
    exact List.perm_middle

theorem borderPlaced_nodup {run rest : List Rec} (hn : (q.map Rec.subject).Nodup)
    (hparts : InTwoParts (without q r.subject) run rest) : ((borderPlaced q run rest r).map Rec.subject).Nodup := by
  refine (((borderPlaced_perm hparts).map Rec.subject).nodup_iff).mpr (nodup_cons_of_recFor_none (nodup_without hn _) ?_)
  rw [recFor_without, if_pos rfl]

/-- Every other record stands among them as before. -/
theorem recFor_borderPlaced {run rest : List Rec} (hparts : InTwoParts (without q r.subject) run rest) {x : Subject}
    (hx : x ≠ r.subject) : recFor (borderPlaced q run rest r) x = recFor q x := by
  have hgone : recFor (run ++ rest) r.subject = none := by rw [← hparts.1, recFor_without, if_pos rfl]
  unfold borderPlaced
  split_ifs with hnew
  · rw [recFor_append, recFor_cons, if_neg (Ne.symm hx)]
    cases recFor q x <;> rfl
  · rw [recFor_insert hgone, if_neg hx, ← hparts.1, recFor_without, if_neg hx]

/-- A PERMIT record at the border takes its ANSWER with it (R117). -/
theorem tuckFor_border {run rest : List Rec} (hn : (q.map Rec.subject).Nodup)
    (hparts : InTwoParts (without q r.subject) run rest) {p : Nat} (hr : r.subject = .permit p) {a : Rec}
    (ha : recFor q (.answer p) = some a) {l1 l2 : List Rec}
    (hsplit : without (borderPlaced q run rest r) (.answer p) = l1 ++ r :: l2) :
    tuckFor r.subject (borderPlaced q run rest r) = l1 ++ r :: a :: l2 := by
  have hrec : recFor (borderPlaced q run rest r) (.answer p) = some a :=
    (recFor_borderPlaced hparts (by simp [hr])).trans ha
  rw [hr]
  exact tuckAnswer_of_split (borderPlaced_nodup hn hparts) hr hrec hsplit

theorem tuckFor_border_of_none {run rest : List Rec} (hparts : InTwoParts (without q r.subject) run rest)
    (h : ∀ p, r.subject = .permit p → recFor q (.answer p) = none) :
    tuckFor r.subject (borderPlaced q run rest r) = borderPlaced q run rest r := by
  cases hr : r.subject with
  | permit p => exact tuckAnswer_of_none ((recFor_borderPlaced hparts (by simp [hr])).trans (h p hr))
  | _ => rfl

end

end Sys2Proof.Machine

/-!
PROOFS. What giving and dropping a record leave of a queue, and SEND_TEXT (R114 to R118, R129).
-/
namespace Sys2Proof.Machine

-- The proofs are taken one after another: side by side they wait for each other in more threads than the check can hold.
set_option Elab.async false

theorem canGive_iff_truck (s : State) (n : Nat) (x : Subject) : canGive s n x = true ↔
    ∃ k, truckOf s n = some k ∧ ((recFor k.queue x).isSome = true ∨ k.queue.length < 12) := by
  cases hk : truckOf s n with
  | none => simp [canGive, hk]
  | some k => simp [canGive_iff hk]

/-! ## A removal (R118) -/

theorem afterLeaving_of_ne {x : Subject} (h : ∀ p, x ≠ .permit p) (q : List Rec) : afterLeaving q x = without q x := by
  cases x with
  | permit p => exact absurd rfl (h p)
  | _ => rfl

theorem afterLeaving_permit {q run rest : List Rec} {p : Nat} (h : InTwoParts q run rest) :
    match recFor rest (.answer p) with
    | some a => if (recFor q (.permit p)).isSome = true then
        ∀ run' rest', InTwoParts (without (without q (.permit p)) (.answer p)) run' rest' →
          afterLeaving q (.permit p) = run' ++ a :: rest'
        else afterLeaving q (.permit p) = q
    | none => afterLeaving q (.permit p) = without q (.permit p) := by
  have hrest := routinePart_of_parts h
  cases ha : recFor rest (.answer p) with
  | none =>
    simp only [afterLeaving, hrest, ha, ite_self]
  | some a =>
    dsimp only
    split_ifs with hstands
    · intro run' rest' hparts
      simp only [afterLeaving, hstands, if_true, hrest, ha]
      exact behindRun_of_parts hparts a
    · simp only [afterLeaving, hstands, if_false, Bool.false_eq_true]
      exact without_of_forall_ne (recFor_none.mp (by simpa using hstands))

/-- What a removal leaves of the state (R118). -/
theorem dropRec_spec {s : State} {n : Nat} {k : Truck} (hk : truckOf s n = some k) (x : Subject) :
    truckOf (dropRec s n x) n = some { k with queue := afterLeaving k.queue x } ∧
      ∀ m, m ≠ n → truckOf (dropRec s n x) m = truckOf s m :=
  ⟨by rw [truckOf_dropRec, hk, Option.map_some, if_pos rfl], fun m hm => by simp [truckOf_dropRec, hm]⟩

/-! ## SEND_TEXT (R129) -/

section
variable {s : State} (h : Ready s) (tag n : Nat) (text : Text)
include h

theorem sendText_notFound (hk : truckOf s n = none) : Refuses (.sendText tag n text) s .notFound :=
  refuses_of_refuse h rfl rfl fun u hu => by simp only [sendText, truckOf_of_keeps hu, hk]

variable {k : Truck} (hk : truckOf s n = some k)
include hk

theorem sendText_queueFull (hfull : (recFor k.queue .text).isSome = true ∨ 12 ≤ k.queue.length) :
    Refuses (.sendText tag n text) s .queueFull :=
  refuses_of_refuse h rfl rfl fun u hu => by
    rcases hfull with hfull | hfull <;> simp only [sendText, truckOf_of_keeps hu, hk, hfull, if_true, ite_self]

theorem exec_sendText (hnone : ¬(recFor k.queue .text).isSome = true) (hshort : ¬12 ≤ k.queue.length) :
    exec (.sendText tag n text) s = .next (give (answered s 0x1C tag (okOr (textCut 120 text))
      (.text k.nextSeq (Content.text (text.take 120)).units)) n (.text (text.take 120))) := by
  have hexec := request_carried (f := sendText n text) (g := (give · n (.text (text.take 120)))) (k := 0x1C) (tag := tag)
    (c := okOr (textCut 120 text)) (b := .text k.nextSeq (Content.text (text.take 120)).units) h fun u hu => by
      simp only [sendText, truckOf_of_keeps hu, hk, hnone, hshort, if_false, Bool.false_eq_true]
  have hkeeps := answered_keeps s 0x1C tag (okOr (textCut 120 text)) (.text k.nextSeq (Content.text (text.take 120)).units)
  have hroom : k.canTake (Content.text (text.take 120)).subject = true := by
    simp only [Truck.canTake, Bool.or_eq_true, decide_eq_true_eq]
    exact .inr (by omega)
  refine hexec.trans (congrArg Host.Outcome.next (settleEvent_of_quiet ?_))
  have hquiet : recFor k.queue .text = none := by simpa using hnone
  rw [give_eq ((truckOf_of_keeps hkeeps n).trans hk) hroom]
  simp [Content.urgent, Content.subject, hquiet, answered_askArb, h.2.1]

/-- The text stands at the tail, and nothing else changes but the reply (R129). -/
theorem sendText_spec (hnone : ¬(recFor k.queue .text).isSome = true) (hshort : ¬12 ≤ k.queue.length) :
    ∃ u r, exec (.sendText tag n text) s = .next u ∧
      r = { content := .text (text.take 120), seq := r.seq, attempts := 0, inFlight := false, entry := s.now
            discard := none, origin := .console } ∧
      (∀ x ∈ k.queue, x.seq ≠ r.seq) ∧ (k.seqCtr < 256 → r.seq < 256) ∧
      truckOf u n = some { k with queue := k.queue ++ [r], seqCtr := (r.seq + 1) % 256 } ∧
      (∀ m, m ≠ n → truckOf u m = truckOf s m) ∧
      u = { answered s 0x1C tag (if text.length ≤ 120 then .ok else .clamped)
          (.text r.seq (1 + (min text.length 120 + 39) / 40)) with trucks := u.trucks } := by
  let w := answered s 0x1C tag (okOr (textCut 120 text)) (.text k.nextSeq (Content.text (text.take 120)).units)
  have hkeeps : Keeps [.sup, .port] s w := answered_keeps s 0x1C tag _ _
  have hkw : truckOf w n = some k := (truckOf_of_keeps hkeeps n).trans hk
  have hnow : w.now = s.now := answered_now s 0x1C tag _ _
  have habsent : recFor k.queue (Content.text (text.take 120)).subject = none := by
    simpa only [Content.subject, Option.not_isSome_iff_eq_none] using hnone
  have hroom : k.canTake (Content.text (text.take 120)).subject = true := by
    simp only [Truck.canTake, Bool.or_eq_true, decide_eq_true_eq]
    exact .inr (by omega)
  let r := k.givenRec w.now w.timeouts.discard (.text (text.take 120))
  have hplaced : placedIn k.queue r = k.queue ++ [r] :=
    (placedIn_of_none (r := r) habsent).trans (placeNew_eq fun p hp => Subject.noConfusion hp)
  have hrec : r = { content := .text (text.take 120), seq := r.seq, attempts := 0, inFlight := false, entry := s.now
                    discard := none, origin := .console } := by
    simp only [r, Truck.givenRec, habsent, hnow]
    rfl
  have hgiven := truckOf_given hkw hroom
  have hcode : okOr (textCut 120 text) = if text.length ≤ 120 then .ok else .clamped := okOr_eq (by simp [textCut])
  have hunits : (Content.text (text.take 120)).units = 1 + (min text.length 120 + 39) / 40 := by
    rw [Content.units_eq, ← Nat.min_comm 120, ← List.length_take (i := 120)]
  have hquiet : w.askArb = false := (answered_askArb s 0x1C tag _ _).trans h.2.1
  refine ⟨_, r, exec_sendText h tag n text hk hnone hshort, hrec, nextSeq_fresh k (by omega), fun hctr => freeSeq_lt _ hctr 13,
    ?_, fun m hm => ?_, ?_⟩
  · rw [← hplaced]
    exact hgiven
  · rw [truckOf_give_ne _ _ hm]
    exact truckOf_of_keeps hkeeps m
  · rw [← hcode, ← hunits]
    change give w n _ = { w with trucks := (give w n _).trucks }
    rw [give_eq hkw hroom, habsent]
    simp [Content.urgent, hquiet, modTruck]

end

/-- Settles O39: class and size, what giving and dropping a record leave, and SEND_TEXT. -/
theorem sendTextJoinsTail : Obligations.SendTextJoinsTail := by
  unfold Obligations.SendTextJoinsTail
  refine ⟨fun c => ⟨Content.urgent_eq c, Content.units_eq c⟩, canGive_iff_truck, fun s n c => ?_, fun s n x k hk _ => ?_,
    fun s tag n text h => ?_⟩
  case refine_1 =>
    cases hk : truckOf s n with
    | none => simp only [give, hk]
    | some k =>
      intro hwf old
      by_cases hfull : old = none ∧ 12 ≤ k.queue.length
      · rw [if_pos hfull]
        refine give_refused (Bool.eq_false_iff.mpr (mt (canGive_iff hk).mp ?_))
        simpa [old] using hfull
      rw [if_neg hfull]
      have hroom : k.canTake c.subject = true := by
        cases hold : recFor k.queue c.subject with
        | none => simpa [Truck.canTake, old, hold] using hfull
        | some o => simp [Truck.canTake, hold]
      let r := k.givenRec s.now s.timeouts.discard c
      have hsubject : r.subject = c.subject := rfl
      have hurgent : r.urgent = c.urgent := rfl
      refine ⟨_, r, placedIn k.queue r, rfl, rfl, nextSeq_fresh k hwf.room, fun _ hfree => Truck.nextSeq_eq hfree,
        discardFor_eq _ _ _ _, truckOf_given hk hroom, fun m hm => truckOf_give_ne s c hm, ?_,
        fun l1 o l2 hq ho hclass => placedIn_same hwf.subjects hq ho hclass,
        fun p l1 o l2 hc hold hq ho => placedIn_answer (r := r) hwf.subjects hc (hc ▸ hold) hq ho,
        fun run rest hparts hclass hanswer => ?_⟩
      · rw [give_eq hk hroom]
        rfl
      · have hplaced : placedIn k.queue r = tuckFor r.subject (borderPlaced k.queue run rest r) :=
          placedIn_border hparts hclass hanswer
        have hkept (h : ∀ p, r.subject = .permit p → recFor k.queue (.answer p) = none) :=
          hplaced.trans (tuckFor_border_of_none hparts h)
        dsimp only
        rw [show (if old = none ∧ c.urgent = false then k.queue ++ [r] else run ++ r :: rest) =
          borderPlaced k.queue run rest r from rfl]
        cases hc : c.subject with
        | permit p =>
          dsimp only
          cases ha : recFor k.queue (.answer p) with
          | none =>
            refine hkept fun p' hp' => ?_
            obtain rfl : p = p' := Subject.permit.inj (hc.symm.trans hp')
            exact ha
          | some a => exact fun l1 l2 hsplit => hplaced.trans (tuckFor_border (r := r) hwf.subjects hparts hc ha hsplit)
        | _ => exact hkept fun p' hp' => absurd (hc.symm.trans hp') (by simp)
  case refine_2 =>
    obtain ⟨hself, hothers⟩ := dropRec_spec hk x
    refine ⟨_, _, rfl, hself, hothers, rfl, fun hx => afterLeaving_of_ne hx k.queue, fun p run rest hx hparts => ?_⟩
    subst hx
    exact afterLeaving_permit hparts
  case refine_3 =>
    cases hk : truckOf s n with
    | none => exact sendText_notFound h tag n text hk
    | some k =>
      dsimp only
      by_cases hstands : (recFor k.queue .text).isSome = true
      · rw [if_pos hstands]
        exact sendText_queueFull h tag n text hk (.inl hstands)
      rw [if_neg hstands]
      by_cases hfull : 12 ≤ k.queue.length
      · rw [if_pos hfull]
        exact sendText_queueFull h tag n text hk (.inr hfull)
      rw [if_neg hfull]
      exact sendText_spec h tag n text hk hstands hfull

end Sys2Proof.Machine

/-!
PROOFS. Serving sites, routes and the cause SITE (R83, R150, R158).
-/
namespace Sys2Proof.Machine

-- The proofs are taken one after another: side by side they wait for each other in more threads than the check can hold.
set_option Elab.async false

/-! ## Serving sites (R150) -/

theorem Site.used_iff (x : Site) : x.used = true ↔ x.state ≠ .unused := by simp [Site.used]

/-- In a well-formed table at most one used site of each depth covers a zone. -/
theorem SitesInv.eq_of_covers {s : State} (hs : SitesInv s) {z : Nat} {x y : Site} (hx : x ∈ s.sites) (hy : y ∈ s.sites)
    (hcx : x.covers z = true) (hcy : y.covers z = true) (hparent : x.parent = y.parent) : x = y := by
  have hused {w : Site} (h : w.covers z = true) : w.used = true := ((Site.covers_iff w z).mp h).1
  have hnum : x.num = y.num := by
    by_contra hne
    exact hs.siblings x hx y hy (hused hcx) (hused hcy) hne hparent z ⟨hcx, hcy⟩
  exact Option.some.inj ((hs.siteOf_of_mem hx).symm.trans ((congrArg (siteOf s) hnum).trans (hs.siteOf_of_mem hy)))

theorem SitesInv.deep_eq {s : State} (hs : SitesInv s) {z : Nat} {x y : Site} (hx : x ∈ s.sites) (hy : y ∈ s.sites)
    (hcx : x.covers z = true) (hcy : y.covers z = true) (hpx : x.parent ≠ 0) (hpy : y.parent ≠ 0) : x = y := by
  obtain ⟨a, ha, hax, -, hroota, hcovera⟩ := hs.parent x hx ((Site.covers_iff x z).mp hcx).1 hpx
  obtain ⟨b, hb, hby, -, hrootb, hcoverb⟩ := hs.parent y hy ((Site.covers_iff y z).mp hcy).1 hpy
  have hab : a = b := hs.eq_of_covers ha hb (hcovera z hcx) (hcoverb z hcy) (hroota.trans hrootb.symm)
  exact hs.eq_of_covers hx hy hcx hcy (by rw [← hax, ← hby, hab])

section
variable {s : State} (hs : SitesInv s) {z : Nat} {x : Site}
include hs

theorem servingSite_deep (hx : x ∈ s.sites) (hc : x.covers z = true) (hp : x.parent ≠ 0) :
    servingSite s z = x.num ∧ routeOfZone s z = [x.parent, x.num] := by
  have hserving : servingSite s z = x.num := by
    unfold servingSite
    cases hfind : s.sites.find? fun y => y.covers z && y.parent != 0 with
    | none => simpa [hc, hp] using List.find?_eq_none.mp hfind x hx
    | some y =>
      have hy := List.find?_some hfind
      simp only [Bool.and_eq_true, bne_iff_ne] at hy
      simp only [hs.deep_eq (List.mem_of_find?_eq_some hfind) hx hy.1 hc hy.2 hp]
  refine ⟨hserving, ?_⟩
  simp only [routeOfZone, hserving, hs.siteOf_of_mem hx, if_neg hp]

theorem servingSite_root (hx : x ∈ s.sites) (hc : x.covers z = true)
    (hroots : ∀ y ∈ s.sites, y.covers z = true → y.parent = 0) :
    servingSite s z = x.num ∧ routeOfZone s z = [x.num] := by
  have hp := hroots x hx hc
  have hdeep : (s.sites.find? fun y => y.covers z && y.parent != 0) = none := by
    rw [List.find?_eq_none]
    intro y hy
    simpa using hroots y hy
  have hserving : servingSite s z = x.num := by
    unfold servingSite
    rw [hdeep]
    cases hfind : s.sites.find? fun y => y.covers z with
    | none => exact absurd hc (List.find?_eq_none.mp hfind x hx)
    | some y =>
      have hy := List.find?_some hfind
      have hmem := List.mem_of_find?_eq_some hfind
      simp only [hs.eq_of_covers hmem hx hy hc ((hroots y hmem hy).trans hp.symm)]
  refine ⟨hserving, ?_⟩
  simp only [routeOfZone, hserving, hs.siteOf_of_mem hx, if_pos hp]

theorem servingSite_none (hno : ∀ y ∈ s.sites, ¬y.covers z = true) : servingSite s z = 0 ∧ routeOfZone s z = [] := by
  have hdeep : (s.sites.find? fun y => y.covers z && y.parent != 0) = none := by
    rw [List.find?_eq_none]
    intro y hy
    simp [hno y hy]
  have hroot : (s.sites.find? fun y => y.covers z) = none := List.find?_eq_none.mpr hno
  have hserving : servingSite s z = 0 := by simp only [servingSite, hdeep, hroot]
  have hhome : siteOf s 0 = none := by
    cases h : siteOf s 0 with
    | none => rfl
    | some y =>
      obtain ⟨hnum, hmem⟩ := findBy_some h
      have hin : y.num ∈ s.sites.map Site.num := List.mem_map_of_mem hmem
      rw [hs.numbers, hnum] at hin
      simp at hin
  exact ⟨hserving, by simp only [routeOfZone, hserving, hhome]⟩

end

/-! ## The cause SITE (R83, R158) -/

theorem isDown_eq (s : State) (n : Nat) : isDown s n = (siteOf s n).any fun x => x.state == .down := by
  unfold isDown
  cases siteOf s n <;> rfl

theorem isDown_iff (s : State) (n : Nat) : isDown s n = true ↔ ∃ x, siteOf s n = some x ∧ x.state = .down := by
  rw [isDown_eq, Option.any_eq_true]
  simp

/-- Where a holder's route, or the site table, has a DOWN site (R158). -/
theorem siteCondition_affected {s : State} (h : s.policy = .affected) (n : Nat) :
    siteCondition s n = (truckOf s n).any fun t => (routeOf s t).any (isDown s) := by
  unfold siteCondition
  rw [h]
  cases truckOf s n <;> rfl

theorem siteCondition_global {s : State} (h : s.policy = .global) (n : Nat) :
    siteCondition s n = s.sites.any fun x => x.state == .down := by
  unfold siteCondition
  rw [h]
  rfl

theorem PermitState.isActive_eq_false (x : PermitState) :
    x.isActive = false ↔ x ≠ .isolating ∧ x ≠ .cleared ∧ x ≠ .restoring := by
  cases x <;> simp [PermitState.isActive]

/-- Two states that agree outside permits. -/
theorem eq_of_keeps_permits {s v : State} (h : Keeps [.permits] s v) : v = { s with permits := v.permits } := by
  have htrucks : v.trucks = s.trucks := h .trucks (by decide)
  have harb : v.askArb = s.askArb := h .askArb (by decide)
  exact (eq_of_keeps_permitsTrucks h.to).trans (by rw [htrucks, harb])

section
variable {s : State} {n : Nat} {p : Permit} (hp : permitOf s n = some p)
include hp

theorem evalSite_eq : evalSite s n =
    if p.state.isActive = true then
      if siteCondition s p.holder = true then addCause s n .site else removeCause s n .site
    else s := by
  simp only [evalSite, hp]

/-- SITE left by a permit (R80, R83). -/
theorem removeSite_spec (hsite : p.causes.site = true) :
    ∃ v, permitOf v n = some { p with causes := { p.causes with site := false } } ∧
      (∀ m, m ≠ n → permitOf v m = permitOf s m) ∧
      v = { posted s [.permitHalt n p.holder .site false { p.causes with site := false }] with permits := v.permits } ∧
      removeCause s n .site = if p.issueTime.isSome = true then
        give v p.holder (.permit (permitContent { p with causes := { p.causes with site := false } })) else v := by
  have hhas : p.causes.has .site = true := hsite
  have hdropped := (CauseState.start hp).drop .site
  rw [if_pos hhas, List.nil_append] at hdropped
  refine ⟨_, hdropped.permit, hdropped.others, eq_of_keeps_permits hdropped.keeps, ?_⟩
  simp only [removeCause, hp, hhas, if_true, afterDrop, hdropped.permit, Permit.issued, givePermit_eq hdropped.permit]
  rfl

end

/-! ## SET_SITE_POLICY (R158) -/

theorem policyOf_eq (policy : Nat) : policyOf policy = [Policy.global, .affected][policy]? := by
  match policy with
  | 0 | 1 => rfl
  | _ + 2 => rfl

section
variable {s : State} (h : Ready s) (tag policy : Nat)
include h

theorem setSitePolicy_badField (hx : policyOf policy = none) : Refuses (.setSitePolicy tag policy) s .badField :=
  refuses_of_refuse h rfl rfl fun u _ => by simp only [setSitePolicy, hx]

variable {x : Policy} (hx : policyOf policy = some x)
include hx

theorem exec_setSitePolicy_same (hsame : x = s.policy) :
    exec (.setSitePolicy tag policy) s = .next (answered s 0x23 tag .ok .none) :=
  request_carried_quiet (f := setSitePolicy policy) (g := id) h (fun u hu => by
    have hpolicy : u.policy = s.policy := hu .policy (by decide)
    simp only [setSitePolicy, hx, hsame, hpolicy, if_true, id]) fun _ => rfl

theorem exec_setSitePolicy (hother : x ≠ s.policy) :
    exec (.setSitePolicy tag policy) s = .next (settleEvent
      ((s.permits.map Permit.num).foldl evalSite { answered s 0x23 tag .ok .none with policy := x })) :=
  request_carried (f := setSitePolicy policy)
    (g := fun u => (s.permits.map Permit.num).foldl evalSite { u with policy := x }) h fun u hu => by
      have hpolicy : u.policy = s.policy := hu .policy (by decide)
      have hpermits : u.permits = s.permits := hu .permits (by decide)
      simp only [setSitePolicy, hx, hpolicy, hother, if_false, evalAllSites, permitNums, eachOf, hpermits]

end

/-- Settles O41: serving sites and routes, the evaluation of SITE, and SET_SITE_POLICY. -/
theorem siteCauseFollowsPolicy : Obligations.SiteCauseFollowsPolicy := by
  unfold Obligations.SiteCauseFollowsPolicy
  refine ⟨fun s z hs => ?_, fun s t => ?_, fun s n => ⟨isDown_iff s n, ?_⟩, fun s => rfl, fun s n p hp => ?_,
    fun s tag policy h => ?_⟩
  case refine_1 =>
    intro covers
    have hcovers (x : Site) : covers x ↔ x.covers z = true := by rw [Site.covers_iff, Site.used_iff]
    simp only [hcovers]
    exact ⟨fun x hx hc hp => servingSite_deep hs hx hc hp, fun x hx hc hroots => servingSite_root hs hx hc hroots,
      fun hno => servingSite_none hs hno⟩
  case refine_2 =>
    exact ⟨fun z hz => by simp only [routeOf, hz], fun hz => by simp only [routeOf, hz]⟩
  case refine_3 =>
    cases hpolicy : s.policy with
    | global => exact siteCondition_global hpolicy n
    | affected => exact siteCondition_affected hpolicy n
  case refine_4 =>
    intro stands
    have hstands : siteCondition s p.holder = stands := by
      cases hpolicy : s.policy with
      | global => simp only [siteCondition_global hpolicy, stands, hpolicy]
      | affected => simp only [siteCondition_affected hpolicy, stands, hpolicy, ← isDown_eq]
    rw [evalSite_eq hp, hstands]
    by_cases hidle : p.state ≠ .isolating ∧ p.state ≠ .cleared ∧ p.state ≠ .restoring
    · rw [if_pos hidle, if_neg (by simp [(PermitState.isActive_eq_false _).mpr hidle])]
    have hactive : p.state.isActive = true := by
      rw [← Bool.not_eq_false, PermitState.isActive_eq_false]
      exact hidle
    rw [if_neg hidle, if_pos hactive]
    by_cases hsite : p.causes.site = true
    · cases stands with
      | true => rw [if_pos hsite.symm, if_pos rfl, addCause_of_has (c := .site) hp hsite]
      | false =>
        rw [if_neg (by simp [hsite]), if_neg (by decide), if_neg (by decide)]
        exact removeSite_spec hp hsite
    · have hnone := Bool.eq_false_iff.mpr hsite
      cases stands with
      | true => rw [if_neg (by simp [hsite]), if_pos rfl, if_pos rfl]
      | false => rw [if_pos hnone.symm, if_neg (by decide), removeCause_of_not_has (c := .site) hp hnone]
  case refine_5 =>
    rw [← policyOf_eq]
    cases hx : policyOf policy with
    | none => exact setSitePolicy_badField h tag policy hx
    | some x =>
      dsimp only
      split_ifs with hsame
      · exact exec_setSitePolicy_same h tag policy hx hsame
      · exact exec_setSitePolicy h tag policy hx hsame

end Sys2Proof.Machine

/-!
PROOFS. Trucks forced one after another (R10, R11, R152): what becomes of each, and the notices in their order.
-/
namespace Sys2Proof.Machine

-- The proofs are taken one after another: side by side they wait for each other in more threads than the check can hold.
set_option Elab.async false

/-- A truck forced to a reachability with a miss count, or left as it is. -/
def Truck.forced (d : Option (Reach × Nat)) (t : Truck) : Truck := d.elim t fun x => { t with reach := x.1, miss := x.2 }

/-- The notice of a truck whose reachability a force changes (R11). -/
def Truck.forceNotice (d : Option (Reach × Nat)) (t : Truck) : Option NoticeBody :=
  d.bind fun x => if t.reach = x.1 then none else some (.truckState t.num x.1 x.2 t.zone)

/-- A truck forced as `d` has it for its number and record. -/
def forceBy (d : Nat → Truck → Option (Reach × Nat)) (s : State) (n : Nat) : State :=
  match truckOf s n with
  | some t => (d n t).elim s fun x => setReach s n x.1 x.2
  | none => s

/-- A route going down (R10). -/
def downForce (t : Truck) : Option (Reach × Nat) := if t.reach = .absent then none else some (.lost, 6)

/-- A route restored (R10). -/
def restoreForce (t : Truck) : Option (Reach × Nat) := if t.reach = .lost then some (.missed, 3) else none

theorem routeDown_eq : routeDown = forceBy fun _ => downForce := by
  funext s n
  unfold routeDown forceBy downForce
  cases truckOf s n with
  | none => rfl
  | some t => by_cases h : t.reach = .absent <;> simp [h]

theorem routeRestored_eq : routeRestored = forceBy fun _ => restoreForce := by
  funext s n
  unfold routeRestored forceBy restoreForce
  cases truckOf s n with
  | none => rfl
  | some t => by_cases h : t.reach = .lost <;> simp [h]

section
variable {s : State} {n : Nat} {t : Truck} (ht : truckOf s n = some t)
include ht

theorem setReach_eq (r : Reach) (m : Nat) : setReach s n r m =
    if t.reach = r then modTruck s n fun t => { t with reach := r, miss := m }
    else post { modTruck s n (fun t => { t with reach := r, miss := m }) with askArb := true } (.truckState n r m t.zone) := by
  simp only [setReach, ht]

theorem truckOf_setReach (r : Reach) (m k : Nat) : truckOf (setReach s n r m) k =
    (truckOf s k).map fun t => if k = n then { t with reach := r, miss := m } else t := by
  have hmod := truckOf_modTruck s n k (fun t => { t with reach := r, miss := m }) fun _ h => h
  rw [setReach_eq ht]
  by_cases hsame : t.reach = r
  · rw [if_pos hsame]
    exact hmod
  · rw [if_neg hsame, truckOf_of_keeps (post_keeps _ _)]
    exact hmod

theorem setReach_posted (r : Reach) (m : Nat) :
    Keeps [.trucks, .askArb] (posted s (Truck.forceNotice (some (r, m)) t).toList) (setReach s n r m) := by
  have hmod : Keeps [.trucks, .askArb] s (modTruck s n fun t => { t with reach := r, miss := m }) := (modTruck_keeps s n _).to
  have hasked : Keeps [.trucks, .askArb] s { modTruck s n (fun t => { t with reach := r, miss := m }) with askArb := true } :=
    hmod.trans (askArb_keeps _ true).to
  have hnum : t.num = n := (findBy_some ht).1
  rw [setReach_eq ht, Truck.forceNotice, Option.bind_some]
  by_cases hsame : t.reach = r
  · rw [if_pos hsame, if_pos hsame]
    exact hmod
  · rw [if_neg hsame, if_neg hsame, hnum]
    exact hasked.post _

theorem setReach_asks (r : Reach) (m : Nat) (h : s.askArb = true) : (setReach s n r m).askArb = true := by
  rw [setReach_eq ht]
  split_ifs
  · exact h
  · exact post_keeps _ _ .askArb (by decide)

end

section
variable (d : Nat → Truck → Option (Reach × Nat))

theorem truckOf_forceBy (s : State) (n k : Nat) : truckOf (forceBy d s n) k =
    (truckOf s k).map fun t => if k = n then t.forced (d n t) else t := by
  cases ht : truckOf s n with
  | none =>
    simp only [forceBy, ht]
    cases hk : truckOf s k with
    | none => rfl
    | some t =>
      have hne : k ≠ n := fun h => by simp [h, ht] at hk
      simp [hne]
  | some t =>
    cases hd : d n t with
    | none =>
      simp only [forceBy, ht, hd, Option.elim_none]
      by_cases hk : k = n
      · subst hk
        simp [ht, hd, Truck.forced]
      · simp [hk]
    | some x =>
      simp only [forceBy, ht, hd, Option.elim_some, truckOf_setReach ht]
      by_cases hk : k = n
      · subst hk
        simp [ht, hd, Truck.forced]
      · simp [hk]

/-- The notice of a truck as it stands. -/
def noticeAt (s : State) (n : Nat) : Option NoticeBody := (truckOf s n).bind fun t => t.forceNotice (d n t)

theorem forceBy_posted (s : State) (n : Nat) : Keeps [.trucks, .askArb] (posted s (noticeAt d s n).toList) (forceBy d s n) := by
  unfold noticeAt
  cases ht : truckOf s n with
  | none =>
    simp only [forceBy, ht]
    exact .refl _ s
  | some t =>
    cases hd : d n t with
    | none =>
      simp only [forceBy, ht, hd, Option.bind_some, Option.elim_none]
      exact .refl _ s
    | some x =>
      simp only [forceBy, ht, hd, Option.bind_some, Option.elim_some]
      exact setReach_posted ht x.1 x.2

theorem forceBy_asks (s : State) (n : Nat) (h : s.askArb = true) : (forceBy d s n).askArb = true := by
  cases ht : truckOf s n with
  | none => simpa only [forceBy, ht] using h
  | some t =>
    cases hd : d n t with
    | none => simpa only [forceBy, ht, hd, Option.elim_none] using h
    | some x =>
      simp only [forceBy, ht, hd, Option.elim_some]
      exact setReach_asks ht x.1 x.2 h

variable {l : List Nat} (hl : l.Nodup) (s : State)
include hl

theorem truckOf_forced (k : Nat) : truckOf (eachOf (forceBy d) l s) k =
    (truckOf s k).map fun t => if k ∈ l then t.forced (d k t) else t := by
  induction l generalizing s with
  | nil => simp [eachOf]
  | cons n l ih =>
    rw [List.nodup_cons] at hl
    refine (ih hl.2 (forceBy d s n)).trans ?_
    rw [truckOf_forceBy, Option.map_map]
    refine congrArg (Option.map · _) (funext fun t => ?_)
    by_cases hk : k = n
    · subst hk
      simp [hl.1]
    · simp [hk]

theorem forced_posted : Keeps [.trucks, .askArb] (posted s (l.filterMap (noticeAt d s))) (eachOf (forceBy d) l s) := by
  induction l generalizing s with
  | nil => exact .refl _ s
  | cons n l ih =>
    rw [List.nodup_cons] at hl
    have hrest := ih hl.2 (forceBy d s n)
    have hkept : l.filterMap (noticeAt d (forceBy d s n)) = l.filterMap (noticeAt d s) := by
      refine List.filterMap_congr fun m hm => ?_
      have hne : m ≠ n := fun h => hl.1 (h ▸ hm)
      simp [noticeAt, truckOf_forceBy, hne]
    rw [hkept] at hrest
    refine Keeps.trans ?_ hrest
    have hfirst := (forceBy_posted d s n).posted (l.filterMap (noticeAt d s))
    rw [List.filterMap_cons]
    cases hn : noticeAt d s n <;> rw [hn] at hfirst <;> exact hfirst

end

theorem forced_asks (d : Nat → Truck → Option (Reach × Nat)) (l : List Nat) {s : State} (h : s.askArb = true) :
    (eachOf (forceBy d) l s).askArb = true := by
  induction l generalizing s with
  | nil => exact h
  | cons n l ih => exact ih (forceBy_asks d s n h)

/-! ## Trucks of the table (R1) -/

section
variable {s : State} (hasc : ascending Truck.num s.trucks)
include hasc

theorem truckOf_of_mem {t : Truck} (ht : t ∈ s.trucks) : truckOf s t.num = some t :=
  findBy_of_mem (ascending_nodup hasc) ht

theorem trucksWhere_nodup (p : Truck → Bool) : (trucksWhere s p).Nodup :=
  (ascending_nodup hasc).sublist (List.filter_sublist.map _)

theorem mem_trucksWhere {p : Truck → Bool} {k : Nat} {t : Truck} (ht : truckOf s k = some t) :
    k ∈ trucksWhere s p ↔ p t = true := by
  obtain ⟨rfl, hmem⟩ := findBy_some ht
  unfold trucksWhere
  rw [List.mem_map]
  refine ⟨fun ⟨u, hu, he⟩ => ?_, fun hp => ⟨t, List.mem_filter.mpr ⟨hmem, hp⟩, rfl⟩⟩
  obtain ⟨hu, hp⟩ := List.mem_filter.mp hu
  rwa [← Option.some.inj ((truckOf_of_mem hasc hu).symm.trans ((congrArg (truckOf s) he).trans ht))]

/-- The notices of trucks chosen from the table, in ascending number. -/
theorem filterMap_trucksWhere (p : Truck → Bool) (d : Nat → Truck → Option (Reach × Nat)) :
    (trucksWhere s p).filterMap (noticeAt d s) =
      s.trucks.filterMap fun t => if p t = true then t.forceNotice (d t.num t) else none := by
  have hsub : ∀ l : List Truck, (∀ t ∈ l, t ∈ s.trucks) → ((l.filter p).map Truck.num).filterMap (noticeAt d s) =
      l.filterMap fun t => if p t = true then t.forceNotice (d t.num t) else none := by
    intro l
    induction l with
    | nil => exact fun _ => rfl
    | cons t l ih =>
      intro h
      have hrest := ih fun u hu => h u (List.mem_cons_of_mem t hu)
      have hnotice : noticeAt d s t.num = t.forceNotice (d t.num t) := by
        rw [noticeAt, truckOf_of_mem hasc (h t List.mem_cons_self), Option.bind_some]
      cases hp : p t with
      | true => simp [hp, List.filterMap_cons, hnotice, hrest]
      | false => simp [hp, hrest]
  exact hsub s.trucks fun _ h => h

/-- Trucks chosen from the table and forced alike, in ascending number. -/
theorem truckOf_forcedWhere (p : Truck → Bool) (f : Truck → Option (Reach × Nat)) (k : Nat) :
    truckOf (eachOf (forceBy fun _ => f) (trucksWhere s p) s) k =
      (truckOf s k).map fun t => t.forced (if p t = true then f t else none) := by
  rw [truckOf_forced _ (trucksWhere_nodup hasc p)]
  cases hk : truckOf s k with
  | none => rfl
  | some t =>
    simp only [Option.map_some, mem_trucksWhere hasc hk]
    split_ifs <;> rfl

theorem forcedWhere_posted (p : Truck → Bool) (f : Truck → Option (Reach × Nat)) : Keeps [.trucks, .askArb]
    (posted s (s.trucks.filterMap fun t => t.forceNotice (if p t = true then f t else none)))
    (eachOf (forceBy fun _ => f) (trucksWhere s p) s) := by
  have h := forced_posted (fun _ => f) (trucksWhere_nodup hasc p) s
  rw [filterMap_trucksWhere hasc] at h
  have hnotices : (fun t : Truck => if p t = true then t.forceNotice (f t) else none) =
      fun t => t.forceNotice (if p t = true then f t else none) := by
    funext t
    split_ifs <;> rfl
  rwa [hnotices] at h

end

end Sys2Proof.Machine

/-!
PROOFS. Routes under a change of the site table, BEACON and the beacon timeout (R155 to R157).
-/
namespace Sys2Proof.Machine

-- The proofs are taken one after another: side by side they wait for each other in more threads than the check can hold.
set_option Elab.async false

/-! ## Routes (R150) -/

theorem routeOf_of_sites {s u : State} (h : u.sites = s.sites) (t : Truck) : routeOf u t = routeOf s t := by
  unfold routeOf routeOfZone servingSite siteOf
  rw [h]

theorem isDown_of_sites {s u : State} (h : u.sites = s.sites) (n : Nat) : isDown u n = isDown s n := by
  unfold isDown siteOf
  rw [h]

/-- A change of a site that keeps its shape keeps every route. -/
theorem routeOf_modSite {s : State} {n : Nat} {f : Site → Site} (hnum : ∀ x : Site, x.num = n → (f x).num = n)
    (h : ∀ x ∈ s.sites, x.num = n → x.SameShape (f x)) (t : Truck) : routeOf (modSite s n f) t = routeOf s t := by
  let g : Site → Site := fun x => if x.num = n then f x else x
  have hshape : ∀ x ∈ s.sites, x.SameShape (g x) := by
    intro x hx
    simp only [g]
    split_ifs with hn
    · exact h x hx hn
    · exact .refl x
  have hfind (p : Site → Bool) (hp : ∀ x ∈ s.sites, p (g x) = p x) : (s.sites.map g).find? p = (s.sites.find? p).map g := by
    rw [List.find?_map]
    exact congrArg (Option.map g) (List.find?_congr hp)
  have hkept {x : Site} {p : Site → Bool} (hx : s.sites.find? p = some x) : (g x).num = x.num :=
    (hshape x (List.mem_of_find?_eq_some hx)).num
  have hserving (z : Nat) : servingSite (modSite s n f) z = servingSite s z := by
    have hdeep := hfind (fun x => x.covers z && x.parent != 0) fun x hx => by
      rw [(hshape x hx).covers, (hshape x hx).parent]
    have hroot := hfind (fun x => x.covers z) fun x hx => (hshape x hx).covers z
    unfold servingSite
    change (match (s.sites.map g).find? _ with
      | some x => x.num
      | none => match (s.sites.map g).find? _ with
        | some x => x.num
        | none => 0) = _
    rw [hdeep, hroot]
    cases hx : s.sites.find? fun x => x.covers z && x.parent != 0 with
    | some x => exact hkept hx
    | none =>
      cases hy : s.sites.find? fun x => x.covers z with
      | some y => exact hkept hy
      | none => rfl
  have hroute (z : Nat) : routeOfZone (modSite s n f) z = routeOfZone s z := by
    unfold routeOfZone
    rw [hserving, siteOf_modSite s n _ f hnum]
    cases hx : siteOf s (servingSite s z) with
    | none => rfl
    | some x =>
      have hmem := (findBy_some hx).2
      have hg : (if servingSite s z = n then f x else x) = g x := by simp only [g, (findBy_some hx).1]
      simp only [Option.map_some, hg, (hshape x hmem).parent, (hshape x hmem).num]
  unfold routeOf
  cases t.zone with
  | none => rfl
  | some z => exact hroute z

/-! ## What a change of the table forces (R10, R152) -/

/-- What a change of the site table from that of `s` forces on a truck. -/
def changeForce (s : State) (sites : List Site) (t : Truck) : Option (Reach × Nat) :=
  let before := (routeOf s t).any (isDown s)
  let after := (routeOf { s with sites := sites } t).any (isDown { s with sites := sites })
  if before = false ∧ after = true ∧ t.reach ≠ .absent then some (.lost, 6)
  else if before = true ∧ after = false ∧ t.reach = .lost then some (.missed, 3)
  else none

theorem routesForced_of_trucks {s w : State}
    (h : ∀ k, truckOf w k = (truckOf s k).map fun t => t.forced (changeForce s w.sites t)) : RoutesForced s w := by
  intro k
  cases hk : truckOf s k with
  | none => simpa [hk] using h k
  | some t =>
    dsimp only
    rw [h k, hk, Option.map_some, changeForce]
    split_ifs <;> rfl

theorem forcedNotices_eq (s : State) (sites : List Site) :
    forcedNotices s sites = s.trucks.filterMap fun t => t.forceNotice (changeForce s sites t) := by
  unfold forcedNotices
  refine congrArg (List.filterMap · s.trucks) (funext fun t => ?_)
  unfold changeForce
  cases (routeOf s t).any (isDown s) <;>
    cases (routeOf { s with sites := sites } t).any (isDown { s with sites := sites }) <;>
      cases hreach : t.reach <;> simp [Truck.forceNotice, hreach]

/-! ## A site's state set (R156, R157) -/

theorem eq_of_keeps_sitesTrucks {s v : State} (h : Keeps [.sites, .trucks, .askArb] s v) :
    v = { s with sites := v.sites, trucks := v.trucks, askArb := v.askArb } := by
  obtain ⟨⟩ := v
  simp only [State.mk.injEq, true_and]
  exact ⟨h .clock (by decide), h .held (by decide), h .port (by decide), h .sup (by decide), h .orders (by decide),
    h .permits (by decide), h .points (by decide), h .asks (by decide), h .timeouts (by decide), h .air (by decide),
    h .policy (by decide), h .graces (by decide), h .load (by decide), h .choices (by decide), h .pending (by decide)⟩

section
variable {s : State} {n : Nat} {x : Site} (hx : siteOf s n = some x) (st : SiteState)
include hx

theorem setSiteState_eq : setSiteState s n st =
    post { modSite s n (fun x => { x with state := st }) with askArb := true }
      (.siteState n x.state st (stampOpt s x.lastBeacon)) := by
  simp only [setSiteState, hx]

theorem setSiteState_sites : (setSiteState s n st).sites = (modSite s n fun x => { x with state := st }).sites := by
  rw [setSiteState_eq hx]
  exact post_keeps _ _ .sites (by decide)

theorem setSiteState_asks : (setSiteState s n st).askArb = true := by
  rw [setSiteState_eq hx]
  exact post_keeps _ _ .askArb (by decide)

theorem siteOf_setSiteState (m : Nat) : siteOf (setSiteState s n st) m =
    (siteOf s m).map fun y => if m = n then { y with state := st } else y := by
  refine Eq.trans ?_ (siteOf_modSite s n m (fun y => { y with state := st }) fun _ h => h)
  unfold siteOf
  rw [setSiteState_sites hx]

theorem setSiteState_posted : Keeps [.sites, .askArb]
    (post s (.siteState n x.state st (stampOpt s x.lastBeacon))) (setSiteState s n st) := by
  have hmod : Keeps [.sites, .askArb] s (modSite s n fun y => { y with state := st }) := (modSite_keeps s n _).to
  rw [setSiteState_eq hx]
  exact (hmod.trans (askArb_keeps _ true).to).post _

end

/-- A used site that stays used keeps every route, whatever its state. -/
theorem routeOf_setSiteState {s : State} (hs : SitesInv s) {n : Nat} {x : Site} (hx : siteOf s n = some x) {st : SiteState}
    (hused : x.used = true) (hst : st ≠ .unused) (t : Truck) : routeOf (setSiteState s n st) t = routeOf s t := by
  rw [routeOf_of_sites (setSiteState_sites hx st)]
  refine routeOf_modSite (f := fun y => { y with state := st }) (fun _ h => h) (fun y hy hn => ?_) t
  obtain rfl : y = x := Option.some.inj ((hs.siteOf_of_mem hy).symm.trans ((congrArg (siteOf s) hn).trans hx))
  exact ⟨rfl, by rw [hused]; simpa [Site.used] using hst, rfl, rfl⟩

/-! ## A site goes DOWN (R156) -/

/-- The state with the site DOWN and its trucks forced, SITE not yet evaluated. -/
def downed (s : State) (n : Nat) : State :=
  eachOf routeDown (trucksWhere (setSiteState s n .down) fun t => (routeOf (setSiteState s n .down) t).contains n)
    (setSiteState s n .down)

theorem siteGoesDown_eq (s : State) (n : Nat) : siteGoesDown s n = evalAllSites (downed s n) := rfl

section
variable {s : State} (hasc : ascending Truck.num s.trucks) (hs : SitesInv s) {n : Nat} {x : Site} (hx : siteOf s n = some x)
include hasc hs hx

theorem downed_spec (hup : x.state = .up) {b : Nat} (hb : x.lastBeacon = some b) :
    siteOf (downed s n) n = some { x with state := .down } ∧ (∀ m, m ≠ n → siteOf (downed s n) m = siteOf s m) ∧
      (∀ k, truckOf (downed s n) k = (truckOf s k).map fun t =>
        if n ∈ routeOf s t ∧ t.reach ≠ .absent then { t with reach := .lost, miss := 6 } else t) ∧
      downed s n = { posted s (.siteState n .up .down (some (stamp s b)) :: s.trucks.filterMap fun t =>
          if n ∈ routeOf s t ∧ (t.reach = .reachable ∨ t.reach = .missed) then
            some (NoticeBody.truckState t.num .lost 6 t.zone) else none) with
        sites := (downed s n).sites, trucks := (downed s n).trucks, askArb := true } := by
  let s1 := setSiteState s n .down
  have hused : x.used = true := by simp [Site.used, hup]
  have hset := setSiteState_posted hx .down
  have htrucks : s1.trucks = s.trucks := (setSiteState_keeps s n .down) .trucks (by decide)
  have hroute (t : Truck) : routeOf s1 t = routeOf s t := routeOf_setSiteState hs hx hused (by decide) t
  have hasc1 : ascending Truck.num s1.trucks := htrucks ▸ hasc
  have hdown : downed s n = eachOf (forceBy fun _ => downForce) (trucksWhere s1 fun t => (routeOf s t).contains n) s1 := by
    rw [downed, routeDown_eq]
    simp only [hroute, s1]
  have hforced := truckOf_forcedWhere hasc1 (fun t => (routeOf s t).contains n) downForce
  have hposted := forcedWhere_posted hasc1 (fun t => (routeOf s t).contains n) downForce
  rw [← hdown] at hforced hposted
  have hsites (m : Nat) : siteOf (downed s n) m = siteOf s1 m := by
    unfold siteOf
    rw [show (downed s n).sites = s1.sites from (hposted .sites (by decide)).trans (posted_keeps s1 _ .sites (by decide))]
  have hnotices : (s1.trucks.filterMap fun t => t.forceNotice (if (routeOf s t).contains n = true then downForce t else none)) =
      s.trucks.filterMap fun t => if n ∈ routeOf s t ∧ (t.reach = .reachable ∨ t.reach = .missed) then
        some (NoticeBody.truckState t.num .lost 6 t.zone) else none := by
    rw [htrucks]
    refine congrArg (List.filterMap · s.trucks) (funext fun t => ?_)
    by_cases hn : n ∈ routeOf s t <;> cases hreach : t.reach <;> simp [hn, hreach, downForce, Truck.forceNotice]
  rw [hnotices] at hposted
  refine ⟨?_, fun m hm => ?_, fun k => ?_, ?_⟩
  · rw [hsites, siteOf_setSiteState hx, hx, Option.map_some, if_pos rfl]
  · rw [hsites, siteOf_setSiteState hx]
    simp [hm]
  · rw [hforced, truckOf_of_keeps (setSiteState_keeps s n .down)]
    refine congrArg (Option.map · _) (funext fun t => ?_)
    by_cases hn : n ∈ routeOf s t <;> by_cases hreach : t.reach = .absent <;> simp [hn, hreach, downForce, Truck.forced]
  · have hall : Keeps [.sites, .trucks, .askArb] _ (downed s n) := ((hset.to).posted _).trans hposted.to
    have harb : (downed s n).askArb = true := by
      rw [hdown]
      exact forced_asks _ _ (setSiteState_asks hx .down)
    have heq := eq_of_keeps_sitesTrucks hall
    rw [harb, hup, hb] at heq
    exact heq

end

/-! ## A site returns (R155, R157) -/

/-- The state with the site UP and its trucks forced, SITE not yet evaluated. -/
def returned (s : State) (n : Nat) : State :=
  eachOf routeRestored (trucksWhere (setSiteState s n .up) fun t => (routeOf (setSiteState s n .up) t).contains n &&
    !passesDown (setSiteState s n .up) (routeOf (setSiteState s n .up) t)) (setSiteState s n .up)

theorem siteReturns_eq (s : State) (n : Nat) : siteReturns s n = evalAllSites (returned s n) := rfl

theorem isDown_setSiteState {s : State} {n : Nat} {x : Site} (hx : siteOf s n = some x) (st : SiteState) (m : Nat) :
    isDown (setSiteState s n st) m = if m = n then st == .down else isDown s m := by
  rw [isDown_eq, isDown_eq, siteOf_setSiteState hx]
  by_cases hm : m = n
  · simp [hm, hx]
  · simp [hm]

/-- A route that passed the site that returns passed a DOWN site, and no route passes a DOWN site it did not pass. -/
theorem any_down_iff {l : List Nat} {f g : Nat → Bool} {n : Nat} (hn : f n = true) (hgn : g n = false)
    (hg : ∀ m, m ≠ n → g m = f m) : l.any f = true ↔ n ∈ l ∨ l.any g = true := by
  simp only [List.any_eq_true]
  constructor
  · rintro ⟨m, hm, hf⟩
    by_cases he : m = n
    · exact .inl (he ▸ hm)
    · exact .inr ⟨m, hm, (hg m he).trans hf⟩
  · rintro (hm | ⟨m, hm, hgm⟩)
    · exact ⟨n, hm, hn⟩
    · refine ⟨m, hm, (hg m fun he => ?_).symm.trans hgm⟩
      rw [he, hgn] at hgm
      exact absurd hgm (by decide)

/-- A site that returns from DOWN restores the routes that passed it and pass no other DOWN site. -/
theorem returned_spec {s u : State} (hasc : ascending Truck.num s.trucks) (hs : SitesInv s) {n : Nat} {x : Site}
    (hx : siteOf s n = some x) (hdown : x.state = .down) (hu : u = modSite s n fun y => { y with lastBeacon := some s.now }) :
    siteOf (returned u n) n = some { x with state := .up, lastBeacon := some s.now } ∧
      (∀ m, m ≠ n → siteOf (returned u n) m = siteOf s m) ∧ RoutesForced s (returned u n) ∧
      returned u n = { posted s (.siteState n .down .up (some (stamp s s.now)) :: forcedNotices s (returned u n).sites) with
        sites := (returned u n).sites, trucks := (returned u n).trucks, askArb := true } := by
  let f : Site → Site := fun y => { y with lastBeacon := some s.now }
  have hukeeps : Keeps [.sites] s u := hu ▸ modSite_keeps s n f
  have hsite (m : Nat) : siteOf u m = (siteOf s m).map fun y => if m = n then f y else y := by
    rw [hu]
    exact siteOf_modSite s n m f fun _ h => h
  have hux : siteOf u n = some (f x) := by rw [hsite, hx, Option.map_some, if_pos rfl]
  have hsu : SitesInv u := hu ▸ hs.modSite fun y _ _ => ⟨rfl, rfl, rfl, rfl⟩
  let s1 := setSiteState u n .up
  have htrucks : s1.trucks = s.trucks := ((setSiteState_keeps u n .up) .trucks (by decide)).trans (hukeeps .trucks (by decide))
  have hroute (t : Truck) : routeOf s1 t = routeOf s t := by
    refine (routeOf_setSiteState hsu hux (by simp [f, Site.used, hdown]) (by decide) t).trans ?_
    rw [hu]
    exact routeOf_modSite (f := f) (fun _ h => h) (fun _ _ _ => ⟨rfl, rfl, rfl, rfl⟩) t
  have hisdown (m : Nat) (hm : m ≠ n) : isDown s1 m = isDown s m := by
    rw [isDown_setSiteState hux, if_neg hm, isDown_eq, isDown_eq, hsite]
    simp [hm]
  let p : Truck → Bool := fun t => (routeOf s1 t).contains n && !passesDown s1 (routeOf s1 t)
  have hasc1 : ascending Truck.num s1.trucks := htrucks ▸ hasc
  have hret : returned u n = eachOf (forceBy fun _ => restoreForce) (trucksWhere s1 p) s1 := by
    rw [returned, routeRestored_eq]
  have hforced := truckOf_forcedWhere hasc1 p restoreForce
  have hposted := forcedWhere_posted hasc1 p restoreForce
  rw [← hret] at hforced hposted
  have hsites : (returned u n).sites = s1.sites := (hposted .sites (by decide)).trans (posted_keeps s1 _ .sites (by decide))
  have hsiteOf (m : Nat) : siteOf (returned u n) m = siteOf s1 m := by
    unfold siteOf
    rw [hsites]
  have hforce (t : Truck) : (if p t = true then restoreForce t else none) = changeForce s (returned u n).sites t := by
    have hbefore : (routeOf s t).any (isDown s) = true ↔ n ∈ routeOf s t ∨ (routeOf s t).any (isDown s1) = true :=
      any_down_iff ((isDown_iff s n).mpr ⟨x, hx, hdown⟩) (by rw [isDown_setSiteState hux, if_pos rfl]; rfl) hisdown
    have hafter : (routeOf { s with sites := (returned u n).sites } t).any (isDown { s with sites := (returned u n).sites }) =
        (routeOf s t).any (isDown s1) := by
      rw [routeOf_of_sites (s := s1) (u := { s with sites := (returned u n).sites }) hsites, hroute]
      exact congrArg (List.any _) (funext fun m => isDown_of_sites (s := s1) hsites m)
    have hp : p t = true ↔ n ∈ routeOf s t ∧ (routeOf s t).any (isDown s1) = false := by
      simp [p, hroute, passesDown]
    unfold changeForce
    rw [hafter]
    simp only [hp, restoreForce]
    by_cases hlater : (routeOf s t).any (isDown s1) = true
    · simp [hbefore.mpr (.inr hlater), hlater]
    have hclear := Bool.eq_false_iff.mpr hlater
    by_cases hn : n ∈ routeOf s t
    · simp [hn, hbefore.mpr (.inl hn), hclear]
    · have hnone : (routeOf s t).any (isDown s) = false := Bool.eq_false_iff.mpr (mt hbefore.mp (by simp [hn, hclear]))
      simp only [hn, hnone, hclear, false_and, if_false, Bool.false_eq_true, and_false]
  simp only [hforce] at hforced hposted
  refine ⟨?_, fun m hm => ?_, routesForced_of_trucks fun k => ?_, ?_⟩
  · rw [hsiteOf, siteOf_setSiteState hux, hux, Option.map_some, if_pos rfl]
  · rw [hsiteOf, siteOf_setSiteState hux, hsite]
    simp [hm]
  · rw [hforced, truckOf_of_keeps (setSiteState_keeps u n .up), truckOf_of_keeps hukeeps]
  · have hset := setSiteState_posted hux .up
    have hfirst : Keeps [.sites, .askArb] (post s (.siteState n .down .up (some (stamp s s.now)))) s1 := by
      have hstamp : stampOpt u (f x).lastBeacon = some (stamp s s.now) := by rw [stampOpt_of_keeps hukeeps]; rfl
      rw [hstamp, show (f x).state = .down from hdown] at hset
      exact (hukeeps.to.post _).trans hset
    rw [htrucks, ← forcedNotices_eq] at hposted
    have hall : Keeps [.sites, .trucks, .askArb] _ (returned u n) := ((hfirst.to).posted _).trans hposted.to
    have harb : (returned u n).askArb = true := by
      rw [hret]
      exact forced_asks _ _ (setSiteState_asks hux .up)
    have heq := eq_of_keeps_sitesTrucks hall
    rw [harb] at heq
    exact heq

end Sys2Proof.Machine

/-!
PROOFS. BEACON and the beacon timeout as commands (R155 to R157).
-/
namespace Sys2Proof.Machine

-- The proofs are taken one after another: side by side they wait for each other in more threads than the check can hold.
set_option Elab.async false

/-! ## BEACON (R155) -/

theorem takeBeacon_eq {s : State} {n : Nat} {x : Site} (hx : siteOf s n = some x) : takeBeacon s n =
    if x.state = .unused then s
    else if x.state = .down then siteReturns (modSite s n fun y => { y with lastBeacon := some s.now }) n
    else modSite s n fun y => { y with lastBeacon := some s.now } := by
  simp only [takeBeacon, hx]
  by_cases hunused : x.state = .unused <;> simp [Site.used, hunused]

/-- The octets of a BEACON with its relay (spec/11 section 11.5). -/
theorem beaconOctets_eq (relay : List Nat) : beaconOctets relay = 6 + if relay = [] then 0 else 1 + relay.length := by
  cases relay <;> rfl

section
variable {s : State} (h : Live s) (relay : List Nat) {n : Nat}
include h

theorem exec_beacon_unknown (hx : siteOf s n = none) : exec (.beacon relay n) s = .next { s with
    air := { s.air with rejected := min (s.air.rejected + 1) 65535 } } := by
  have hexec : exec (.beacon relay n) s = event (fun s => if (siteOf s n).isSome = true
    then takeBeacon (countUplink s (beaconOctets relay)) n else rejectFrame s) s := rfl
  have hreject : (if (siteOf s n).isSome = true then takeBeacon (countUplink s (beaconOctets relay)) n else rejectFrame s) =
      rejectFrame s := by rw [hx]; rfl
  rw [hexec, event_quiet h _ (by rw [hreject]; rfl), hreject]
  rfl

theorem exec_beacon {x : Site} (hx : siteOf s n = some x) : exec (.beacon relay n) s = .next (settleEvent
    (if x.state = .unused then countUplink s (beaconOctets relay)
     else if x.state = .down then
      siteReturns (modSite (countUplink s (beaconOctets relay)) n fun y => { y with lastBeacon := some s.now }) n
     else modSite (countUplink s (beaconOctets relay)) n fun y => { y with lastBeacon := some s.now })) := by
  have hexec : exec (.beacon relay n) s = event (fun s => if (siteOf s n).isSome = true
    then takeBeacon (countUplink s (beaconOctets relay)) n else rejectFrame s) s := rfl
  have hcounted : siteOf (countUplink s (beaconOctets relay)) n = some x := hx
  rw [hexec, event_live _ h.1, hx, Option.isSome_some, if_pos rfl, takeBeacon_eq hcounted]
  rfl

theorem exec_beaconTimeout : exec (.beaconTimeout n) s = .next (settleEvent (expireSite s n)) :=
  event_live (fun s => expireSite s n) h.1

end

/-- A site is taken DOWN where its timeout has been reached (R152, R156). -/
theorem expireSite_of_some {s : State} {n : Nat} {x : Site} (hx : siteOf s n = some x) :
    expireSite s n = if x.timedOut s.now = true then siteGoesDown s n else s := by
  simp only [expireSite, hx]

theorem expireSite_idle {s : State} {n : Nat}
    (h : ∀ x b, siteOf s n = some x → x.state = .up → x.lastBeacon = some b → s.now < b + x.timeout) : expireSite s n = s := by
  cases hx : siteOf s n with
  | none => simp only [expireSite, hx]
  | some x =>
    rw [expireSite_of_some hx, if_neg]
    intro hout
    obtain ⟨hup, b, hb, hreached⟩ := (Site.timedOut_iff x s.now).mp hout
    exact absurd (h x b hx hup hb) (by omega)

/-- Settles O42: a BEACON by the state of its site, and the beacon timeout. -/
theorem beaconsMoveSites : Obligations.BeaconsMoveSites := by
  unfold Obligations.BeaconsMoveSites
  intro s h htables hs
  refine ⟨fun relay n => ?_, fun n x b hx hup hb => ?_, fun n hno => ?_⟩
  · intro octets v
    have hoctets : beaconOctets relay = octets := beaconOctets_eq relay
    cases hx : siteOf s n with
    | none => exact exec_beacon_unknown h relay hx
    | some x =>
      have hexec := exec_beacon h relay hx
      rw [hoctets] at hexec
      dsimp only
      cases hstate : x.state with
      | unused =>
        rw [if_pos hstate, settleEvent_of_quiet (s := v) h.2] at hexec
        exact hexec
      | up =>
        let heard : Site → Site := fun y => { y with lastBeacon := some s.now }
        rw [if_neg (by simp [hstate]), if_neg (by simp [hstate]), settleEvent_of_quiet (s := modSite v n heard) h.2] at hexec
        have hsite (m : Nat) : siteOf (modSite v n heard) m = (siteOf s m).map fun y => if m = n then heard y else y :=
          siteOf_modSite v n m heard fun _ hn => hn
        refine ⟨_, hexec, ?_, fun m hm => ?_, rfl⟩
        · rw [hsite, hx, Option.map_some, if_pos rfl, ← hstate]
        · rw [hsite]
          simp [hm]
      | down =>
        rw [if_neg (by simp [hstate]), if_pos hstate, siteReturns_eq] at hexec
        obtain ⟨hself, hothers, hforced, heq⟩ := returned_spec (s := v) htables.trucks
          (show SitesInv v from ⟨hs.numbers, hs.range, hs.parent, hs.siblings⟩) hx hstate rfl
        exact ⟨_, hexec, hself, hothers, hforced, heq⟩
  · have hexec := exec_beaconTimeout h (n := n)
    rw [expireSite_of_some hx] at hexec
    by_cases hreached : b + x.timeout ≤ s.now
    · rw [if_pos hreached]
      rw [if_pos ((Site.timedOut_iff x s.now).mpr ⟨hup, b, hb, hreached⟩), siteGoesDown_eq] at hexec
      exact ⟨_, hexec, downed_spec htables.trucks hs hx hup hb⟩
    · rw [if_neg hreached]
      have hidle : x.timedOut s.now = false := by
        rw [Bool.eq_false_iff, ne_eq, Site.timedOut_iff]
        rintro ⟨-, b', hb', hreached'⟩
        rw [hb] at hb'
        obtain rfl := Option.some.inj hb'
        exact hreached hreached'
      rw [hidle, if_neg (by decide), settleEvent_of_quiet h.2] at hexec
      exact hexec
  · rw [exec_beaconTimeout h, expireSite_idle fun x b hx hup => absurd hup (hno x hx), settleEvent_of_quiet h.2]

end Sys2Proof.Machine

/-!
PROOFS. SET_SITE and CLEAR_SITE (R151 to R153): the checks, the trucks forced, and what the configuration leaves.
-/
namespace Sys2Proof.Machine

-- The proofs are taken one after another: side by side they wait for each other in more threads than the check can hold.
set_option Elab.async false

/-! ## The sites of a route (R150) -/

/-- The sites of a route are used ones of the table. -/
theorem used_of_mem_routeOf {s : State} (hs : SitesInv s) {t : Truck} {m : Nat} (hm : m ∈ routeOf s t) :
    ∃ y ∈ s.sites, y.num = m ∧ y.used = true := by
  unfold routeOf at hm
  cases hz : t.zone with
  | none => simp [hz] at hm
  | some z =>
    rw [hz] at hm
    change m ∈ routeOfZone s z at hm
    have hused {x : Site} (hc : x.covers z = true) : x.used = true := ((Site.covers_iff x z).mp hc).1
    by_cases hdeep : ∃ x ∈ s.sites, x.covers z = true ∧ x.parent ≠ 0
    · obtain ⟨x, hx, hc, hp⟩ := hdeep
      rw [(servingSite_deep hs hx hc hp).2, List.mem_pair] at hm
      obtain rfl | rfl := hm
      · obtain ⟨y, hy, hnum, hyused, -⟩ := hs.parent x hx (hused hc) hp
        exact ⟨y, hy, hnum, hyused⟩
      · exact ⟨x, hx, rfl, hused hc⟩
    by_cases hroot : ∃ x ∈ s.sites, x.covers z = true
    · obtain ⟨x, hx, hc⟩ := hroot
      have hroots : ∀ y ∈ s.sites, y.covers z = true → y.parent = 0 := fun y hy hcy => by
        by_contra hp
        exact hdeep ⟨y, hy, hcy, hp⟩
      rw [(servingSite_root hs hx hc hroots).2, List.mem_singleton] at hm
      exact ⟨x, hx, hm.symm, hused hc⟩
    · rw [(servingSite_none hs fun y hy hc => hroot ⟨y, hy, hc⟩).2] at hm
      exact absurd hm (by simp)

/-! ## The trucks forced by a change of the table (R152 step 3) -/

/-- What the change of the table from `a` to `b` forces on the truck of a number, by its route before and behind it. -/
def routeForce (a b : State) (n : Nat) (u : Truck) : Option (Reach × Nat) :=
  (truckOf a n).bind fun t =>
    if routeOf a t = routeOf b t then none
    else if passesDown b (routeOf b t) = true ∧ passesDown a (routeOf a t) = false then downForce u
    else if passesDown a (routeOf a t) = true ∧ passesDown b (routeOf b t) = false then restoreForce u
    else none

theorem forceRouteChanges_eq (a b : State) : forceRouteChanges a b = eachOf (forceBy (routeForce a b)) (truckNums a) b := by
  unfold forceRouteChanges
  refine congrArg (eachOf · (truckNums a) b) (funext fun v => funext fun n => ?_)
  cases ht : truckOf a n with
  | none =>
    unfold forceBy routeForce
    cases truckOf v n <;> simp [ht]
  | some t =>
    have hdown := congrFun (congrFun routeDown_eq v) n
    have hup := congrFun (congrFun routeRestored_eq v) n
    simp only [hdown, hup]
    unfold forceBy routeForce
    cases truckOf v n with
    | none => simp
    | some u =>
      simp only [ht, Option.bind_some, Bool.and_eq_true, Bool.not_eq_true']
      split_ifs <;> rfl

/-- Where equal routes stay as clear as they were, a truck is forced as its route newly passes or no longer passes a DOWN
site. -/
theorem routeForce_eq {a b : State} {t : Truck} (ht : truckOf a t.num = some t)
    (hkeep : routeOf a t = routeOf b t → (routeOf b t).any (isDown a) = (routeOf b t).any (isDown b)) :
    routeForce a b t.num t = changeForce a b.sites t := by
  have hafter : (routeOf { a with sites := b.sites } t).any (isDown { a with sites := b.sites }) = passesDown b (routeOf b t) := by
    rw [routeOf_of_sites (s := b) (u := { a with sites := b.sites }) rfl]
    exact congrArg (List.any _) (funext fun m => isDown_of_sites (s := b) rfl m)
  have hbefore : (routeOf a t).any (isDown a) = passesDown a (routeOf a t) := rfl
  rw [routeForce, ht, Option.bind_some]
  unfold changeForce
  simp only [hbefore, hafter]
  by_cases hroute : routeOf a t = routeOf b t
  · have hsame : passesDown a (routeOf a t) = passesDown b (routeOf b t) := by
      rw [hroute]
      exact hkeep hroute
    rw [if_pos hroute, hsame]
    cases passesDown b (routeOf b t) <;> simp
  · rw [if_neg hroute]
    cases passesDown a (routeOf a t) <;> cases passesDown b (routeOf b t) <;> simp [downForce, restoreForce]

/-- The force of a table counts its sites alone. -/
theorem changeForce_of_sites {s v : State} (h : v.sites = s.sites) (sites : List Site) : changeForce v sites = changeForce s sites := by
  funext t
  have hbefore : (routeOf v t).any (isDown v) = (routeOf s t).any (isDown s) := by
    rw [routeOf_of_sites h]
    exact congrArg (List.any _) (funext fun m => isDown_of_sites h m)
  have hafter : (routeOf { v with sites := sites } t).any (isDown { v with sites := sites }) =
      (routeOf { s with sites := sites } t).any (isDown { s with sites := sites }) := by
    rw [routeOf_of_sites (s := { s with sites := sites }) (u := { v with sites := sites }) rfl]
    exact congrArg (List.any _) (funext fun m => isDown_of_sites (s := { s with sites := sites }) rfl m)
  unfold changeForce
  rw [hbefore, hafter]

section
variable {s v b : State} {l : List NoticeBody} {n : Nat} {f : Site → Site}
  (hasc : ascending Truck.num s.trucks) (hv : Keeps [.sup, .port] s v) (hb : Keeps [.sites, .askArb] (posted v l) b)
  (hsite : ∀ m, siteOf b m = (siteOf s m).map fun y => if m = n then f y else y)
  (hkeep : ∀ t, routeOf s t = routeOf b t → (routeOf b t).any (isDown s) = (routeOf b t).any (isDown b))
include hasc hv hb hsite hkeep

/-- A site changed, with the notices of the change, and the trucks forced by it. -/
theorem changed_spec {x : Site} (hx : siteOf s n = some x) :
    siteOf (forceRouteChanges v b) n = some (f x) ∧ (∀ m, m ≠ n → siteOf (forceRouteChanges v b) m = siteOf s m) ∧
      RoutesForced s (forceRouteChanges v b) ∧
      forceRouteChanges v b = { posted v (l ++ forcedNotices s (forceRouteChanges v b).sites) with
        sites := (forceRouteChanges v b).sites, trucks := (forceRouteChanges v b).trucks
        askArb := (forceRouteChanges v b).askArb } := by
  have hvtrucks : v.trucks = s.trucks := hv .trucks (by decide)
  have hvsites : v.sites = s.sites := hv .sites (by decide)
  have hbtrucks : b.trucks = s.trucks := (hb .trucks (by decide)).trans ((posted_keeps v l .trucks (by decide)).trans hvtrucks)
  have htruckOf (k : Nat) : truckOf b k = truckOf s k := by simp only [truckOf, hbtrucks]
  have hnums : truckNums v = s.trucks.map Truck.num := by rw [truckNums, hvtrucks]
  have hnodup : (truckNums v).Nodup := hnums ▸ ascending_nodup hasc
  have hforced := truckOf_forced (routeForce v b) hnodup b
  have hposted := forced_posted (routeForce v b) hnodup b
  rw [← forceRouteChanges_eq] at hforced hposted
  have hsites : (forceRouteChanges v b).sites = b.sites :=
    (hposted .sites (by decide)).trans (posted_keeps b _ .sites (by decide))
  have hsiteOf (m : Nat) : siteOf (forceRouteChanges v b) m = siteOf b m := by simp only [siteOf, hsites]
  have hforce {k : Nat} {t : Truck} (ht : truckOf s k = some t) : routeForce v b k t = changeForce s b.sites t := by
    obtain ⟨rfl, -⟩ := findBy_some ht
    rw [← changeForce_of_sites hvsites]
    refine routeForce_eq (by rw [truckOf_of_keeps hv, ht]) fun hroute => ?_
    rw [funext fun m => isDown_of_sites hvsites m]
    exact hkeep t ((routeOf_of_sites hvsites t).symm.trans hroute)
  have hmem {k : Nat} {t : Truck} (ht : truckOf s k = some t) : k ∈ truckNums v := by
    obtain ⟨rfl, hin⟩ := findBy_some ht
    rw [hnums]
    exact List.mem_map_of_mem hin
  have hnotices : (truckNums v).filterMap (noticeAt (routeForce v b) b) = forcedNotices s b.sites := by
    rw [hnums, List.filterMap_map, forcedNotices_eq]
    refine List.filterMap_congr fun t ht => ?_
    have hfound := truckOf_of_mem hasc ht
    rw [Function.comp_apply, noticeAt, htruckOf, hfound, Option.bind_some, hforce hfound]
  rw [hnotices] at hposted
  refine ⟨?_, fun m hm => ?_, routesForced_of_trucks fun k => ?_, ?_⟩
  · rw [hsiteOf, hsite, hx, Option.map_some, if_pos rfl]
  · rw [hsiteOf, hsite]
    simp [hm]
  · rw [hforced, htruckOf, hsites]
    cases ht : truckOf s k with
    | none => rfl
    | some t => rw [Option.map_some, Option.map_some, if_pos (hmem ht), hforce ht]
  · have hall : Keeps [.sites, .trucks, .askArb] _ (forceRouteChanges v b) := ((hb.to).posted _).trans hposted.to
    rw [← hsites] at hall
    have hjoin : posted v (l ++ forcedNotices s (forceRouteChanges v b).sites) =
        posted (posted v l) (forcedNotices s (forceRouteChanges v b).sites) := List.foldl_append
    rw [hjoin]
    exact eq_of_keeps_sitesTrucks hall

end

/-! ## The checks of SET_SITE (R151) -/

theorem siteChecks_of_sites {s u : State} (h : u.sites = s.sites) (n parent : Nat) (r : Nat × Nat) :
    siteChecks u n parent r = siteChecks s n parent r := by
  unfold siteChecks parentFits hasChildren rangeOf siteOf
  rw [h]

theorem siteChecks_eq (s : State) (n parent : Nat) {a b : Nat} (ha : 1 ≤ a) (hb : b ≤ 250) : siteChecks s n parent (a, b) =
    if parent ≠ 0 ∧ ((siteOf s parent).any fun y => parent != n && y.state != .unused && y.parent == 0) = false then
      some .badField
    else if parent ≠ 0 ∧ (s.sites.any fun y => y.state != .unused && y.parent == n) = true then some .badField
    else if parent ≠ 0 ∧ ((siteOf s parent).any fun y => y.range.any fun r => r.1 ≤ a && b ≤ r.2) = false then some .badField
    else if (s.sites.any fun y => y.state != .unused && y.parent == n &&
        !(y.range.any fun r => a ≤ r.1 && r.2 ≤ b)) = true then some .badField
    else if (s.sites.any fun y => y.state != .unused && y.num != n && y.parent == parent &&
        y.range.any fun r => r.1 ≤ b && a ≤ r.2) = true then some .rangeOverlap
    else none := by
  unfold siteChecks
  refine ite_congr (propext ?_) (fun _ => rfl) fun hparent => ite_congr rfl (fun _ => rfl) fun _ =>
    ite_congr (propext ?_) (fun _ => rfl) fun _ => ite_congr (propext ?_) (fun _ => rfl) fun _ => rfl
  · rw [← Bool.not_eq_true, parentFits_iff, ← Bool.not_eq_true]
    cases hp : siteOf s parent <;> simp [Site.used]
  · by_cases hzero : parent = 0
    · simp [rangeOf, hzero, within, ha, hb]
    · cases hp : siteOf s parent with
      | none => simp [hp, hzero] at hparent
      | some y =>
        have hused : y.used = true := by
          rw [hp] at hparent
          simp_all [Site.used]
        simp [rangeOf, hzero, hp, hused, within]
  · rw [List.all_eq_not_any_not]
    simp [Site.used, within]

/-! ## A site changed and set to a state -/

/-- Sites of the same state are DOWN together. -/
theorem isDown_changed {s b : State} {n : Nat} {f : Site → Site}
    (hsite : ∀ m, siteOf b m = (siteOf s m).map fun y => if m = n then f y else y)
    (hstate : ∀ x, siteOf s n = some x → ((f x).state == .down) = (x.state == .down)) (m : Nat) : isDown b m = isDown s m := by
  rw [isDown_eq, isDown_eq, hsite]
  by_cases hm : m = n
  · subst hm
    cases hx : siteOf s m with
    | none => rfl
    | some x => simp [hstate x hx]
  · simp [hm]

section
variable {v : State} {n : Nat} {x : Site} (hx : siteOf v n = some x) {f : Site → Site} (hf : ∀ y, y.num = n → (f y).num = n)
  (st : SiteState)
include hx hf

theorem siteOf_modSet (m : Nat) : siteOf (setSiteState (modSite v n f) n st) m =
    (siteOf v m).map fun y => if m = n then { f y with state := st } else y := by
  have hchanged : siteOf (modSite v n f) n = some (f x) := by rw [siteOf_modSite v n n f hf, hx, Option.map_some, if_pos rfl]
  rw [siteOf_setSiteState hchanged, siteOf_modSite v n m f hf, Option.map_map]
  refine congrArg (Option.map · _) (funext fun y => ?_)
  by_cases hm : m = n <;> simp [hm]

theorem modSet_posted : Keeps [.sites, .askArb] (posted v [.siteState n (f x).state st (stampOpt v (f x).lastBeacon)])
    (setSiteState (modSite v n f) n st) := by
  have hchanged : siteOf (modSite v n f) n = some (f x) := by rw [siteOf_modSite v n n f hf, hx, Option.map_some, if_pos rfl]
  have hmod : Keeps [.sites, .askArb] v (modSite v n f) := (modSite_keeps v n f).to
  exact (hmod.post _).trans (setSiteState_posted hchanged st)

theorem modSet_sites : (setSiteState (modSite v n f) n st).sites = (modSite v n fun y => { f y with state := st }).sites := by
  rw [setSiteState_modSite v n hf, hx]
  exact post_keeps _ _ .sites (by decide)

end

/-! ## SET_SITE (R151, R152) -/

/-- The table with SET_SITE's values, the trucks not yet forced. -/
def siteSet (v : State) (x : Site) (g : SiteGiven) : State :=
  if x.used = true then modSite v g.num (Site.configured v.now g)
  else setSiteState (modSite v g.num (Site.configured v.now g)) g.num .up

theorem applySite_eq (v : State) (x : Site) (g : SiteGiven) : applySite v x g = expireSite (askIfIdle
    (if (forceRouteChanges v (siteSet v x g)).policy = .affected then evalAllSites (forceRouteChanges v (siteSet v x g))
     else forceRouteChanges v (siteSet v x g))) g.num := rfl

/-- The notice of SET_SITE (R152 step 2). -/
def siteSetNotices (s : State) (x : Site) (n : Nat) : List NoticeBody :=
  if x.state = .unused then [.siteState n .unused .up (some (stamp s s.now))] else []

/-- The site as SET_SITE leaves it (R152). -/
theorem siteSet_spec {s v : State} (hasc : ascending Truck.num s.trucks) (hv : Keeps [.sup, .port] s v) {x : Site}
    {g : SiteGiven} (hx : siteOf s g.num = some x) :
    let w := forceRouteChanges v (siteSet v x g)
    siteOf w g.num = some { x with
      state := if x.state = .unused then .up else x.state, parent := g.parent, range := some (g.lo, g.hi), hop := g.hop
      timeout := g.timeout, lastBeacon := if x.state = .unused then some s.now else x.lastBeacon } ∧
      (∀ m, m ≠ g.num → siteOf w m = siteOf s m) ∧ RoutesForced s w ∧
      w = { posted v (siteSetNotices s x g.num ++ forcedNotices s w.sites) with
        sites := w.sites, trucks := w.trucks, askArb := w.askArb } := by
  intro w
  have hvsites : v.sites = s.sites := hv .sites (by decide)
  have hvsite (m : Nat) : siteOf v m = siteOf s m := by simp only [siteOf, hvsites]
  have hnow : v.now = s.now := now_of_keeps hv
  have hnum : ∀ y : Site, y.num = g.num → (Site.configured v.now g y).num = g.num := fun _ h => h
  have hkeep {b : State} (hdown : ∀ m, isDown b m = isDown s m) (t : Truck) (_ : routeOf s t = routeOf b t) :
      (routeOf b t).any (isDown s) = (routeOf b t).any (isDown b) := by rw [funext hdown]
  by_cases hunused : x.state = .unused
  · have hset : siteSet v x g = setSiteState (modSite v g.num (Site.configured v.now g)) g.num .up := by
      rw [siteSet, if_neg (by simp [Site.used, hunused])]
    have hsite := siteOf_modSet ((hvsite g.num).trans hx) hnum .up
    have hposted := modSet_posted ((hvsite g.num).trans hx) hnum .up
    have hnotice : [NoticeBody.siteState g.num (Site.configured v.now g x).state .up
        (stampOpt v (Site.configured v.now g x).lastBeacon)] = siteSetNotices s x g.num := by
      rw [siteSetNotices, if_pos hunused, stampOpt_of_keeps hv]
      simp [Site.configured, Site.used, hunused, hnow, stampOpt]
    rw [hnotice] at hposted
    simp only [hvsite] at hsite
    rw [← hset] at hsite hposted
    have hspec := changed_spec hasc hv hposted hsite (hkeep (isDown_changed hsite fun y hy => ?_)) hx
    · simpa [Site.configured, Site.used, hunused, hnow] using hspec
    · rw [hx] at hy
      obtain rfl := Option.some.inj hy
      rw [hunused]
      rfl
  · have hset : siteSet v x g = modSite v g.num (Site.configured v.now g) := by
      rw [siteSet, if_pos (by simp [Site.used, hunused])]
    have hsite (m : Nat) := siteOf_modSite v g.num m (Site.configured v.now g) hnum
    have hposted : Keeps [.sites, .askArb] (posted v (siteSetNotices s x g.num)) (modSite v g.num (Site.configured v.now g)) := by
      rw [siteSetNotices, if_neg hunused]
      exact (modSite_keeps v g.num _).to
    simp only [hvsite] at hsite
    rw [← hset] at hsite hposted
    have hspec := changed_spec hasc hv hposted hsite (hkeep (isDown_changed hsite fun y _ => rfl)) hx
    simpa [Site.configured, Site.used, hunused] using hspec

section
variable {s : State} (h : Ready s) (tag : Nat) {n : Nat} (parent lo hi hop timeout : Nat)
include h

theorem setSite_notFound (hx : siteOf s n = none) : Refuses (.setSite tag n parent lo hi hop timeout) s .notFound :=
  refuses_of_refuse h rfl rfl fun u hu => by
    have hux : siteOf u n = none := (congrArg (findBy _ n) (hu .sites (by decide))).trans hx
    simp only [setSite, hux]

variable {x : Site} (hx : siteOf s n = some x)
include hx

theorem setSite_badRange (hrange : clamp 1 250 hi < clamp 1 250 lo) :
    Refuses (.setSite tag n parent lo hi hop timeout) s .badField :=
  refuses_of_refuse h rfl rfl fun u hu => by
    have hux : siteOf u n = some x := (congrArg (findBy _ n) (hu .sites (by decide))).trans hx
    simp only [setSite, hux, hrange, if_true]

variable (hrange : ¬clamp 1 250 hi < clamp 1 250 lo)
include hrange

theorem setSite_refused {c : Result} (hc : siteChecks s n parent (clamp 1 250 lo, clamp 1 250 hi) = some c) :
    Refuses (.setSite tag n parent lo hi hop timeout) s c :=
  refuses_of_refuse h rfl rfl fun u hu => by
    have hux : siteOf u n = some x := (congrArg (findBy _ n) (hu .sites (by decide))).trans hx
    simp only [setSite, hux, hrange, if_false, siteChecks_of_sites (hu .sites (by decide)), hc]

theorem exec_setSite (hc : siteChecks s n parent (clamp 1 250 lo, clamp 1 250 hi) = none) :
    exec (.setSite tag n parent lo hi hop timeout) s = .next (settleEvent (applySite
      (answered s 0x21 tag (if clamp 1 250 lo = lo ∧ clamp 1 250 hi = hi ∧ clamp 100 1500 hop = hop ∧
        clamp 30 600 timeout = timeout then .ok else .clamped) .none) x
      { num := n, parent := parent, lo := clamp 1 250 lo, hi := clamp 1 250 hi, hop := clamp 100 1500 hop
        timeout := clamp 30 600 timeout })) := by
  refine request_carried (f := setSite n parent lo hi hop timeout) (g := fun u => applySite u x
    { num := n, parent := parent, lo := clamp 1 250 lo, hi := clamp 1 250 hi, hop := clamp 100 1500 hop
      timeout := clamp 30 600 timeout }) h fun u hu => ?_
  have hux : siteOf u n = some x := (congrArg (findBy _ n) (hu .sites (by decide))).trans hx
  simp only [setSite, hux, hrange, if_false, siteChecks_of_sites (hu .sites (by decide)), hc]
  rw [okOr_eq (P := clamp 1 250 lo = lo ∧ clamp 1 250 hi = hi ∧ clamp 100 1500 hop = hop ∧ clamp 30 600 timeout = timeout)
    (by simp [and_assoc])]

end

/-! ## CLEAR_SITE (R153) -/

section
variable {s : State} (h : Ready s) (tag : Nat) {n : Nat}
include h

theorem clearSite_notFound (hx : siteOf s n = none) : Refuses (.clearSite tag n) s .notFound :=
  refuses_of_refuse h rfl rfl fun u hu => by
    have hux : siteOf u n = none := (congrArg (findBy _ n) (hu .sites (by decide))).trans hx
    simp only [clearSite, hux]

variable {x : Site} (hx : siteOf s n = some x)
include hx

theorem clearSite_wrongState (hunused : x.state = .unused) : Refuses (.clearSite tag n) s .wrongState :=
  refuses_of_refuse h rfl rfl fun u hu => by
    have hux : siteOf u n = some x := (congrArg (findBy _ n) (hu .sites (by decide))).trans hx
    simp [clearSite, hux, Site.used, hunused]

variable (hused : x.state ≠ .unused)
include hused

theorem clearSite_inUse (hc : hasChildren s n = true) : Refuses (.clearSite tag n) s .inUse :=
  refuses_of_refuse h rfl rfl fun u hu => by
    have hux : siteOf u n = some x := (congrArg (findBy _ n) (hu .sites (by decide))).trans hx
    have huc : hasChildren u n = true := (congrArg (List.any · _) (hu .sites (by decide))).trans hc
    simp [clearSite, hux, Site.used, hused, huc]

theorem exec_clearSite (hc : hasChildren s n = false) : exec (.clearSite tag n) s =
    .next (settleEvent (applyClear (answered s 0x22 tag .ok .none) n)) :=
  request_carried (f := clearSite n) (g := fun u => applyClear u n) h fun u hu => by
    have hux : siteOf u n = some x := (congrArg (findBy _ n) (hu .sites (by decide))).trans hx
    have huc : hasChildren u n = false := (congrArg (List.any · _) (hu .sites (by decide))).trans hc
    simp [clearSite, hux, Site.used, hused, huc]

end

/-- The table with the site UNUSED, the trucks not yet forced. -/
def siteCleared (v : State) (n : Nat) : State :=
  setSiteState (modSite v n fun x => { x with range := none, lastBeacon := none }) n .unused

/-- A site without children, cleared: no route passes it any more (R153). -/
theorem siteCleared_spec {s v : State} (hasc : ascending Truck.num s.trucks) (hs : SitesInv s) (hv : Keeps [.sup, .port] s v)
    {n : Nat} {x : Site} (hx : siteOf s n = some x) (hc : hasChildren s n = false) :
    let w := forceRouteChanges v (siteCleared v n)
    siteOf w n = some { x with state := .unused, range := none, lastBeacon := none } ∧
      (∀ m, m ≠ n → siteOf w m = siteOf s m) ∧ RoutesForced s w ∧
      w = { posted v (.siteState n x.state .unused none :: forcedNotices s w.sites) with
        sites := w.sites, trucks := w.trucks, askArb := w.askArb } := by
  intro w
  let f : Site → Site := fun x => { x with range := none, lastBeacon := none }
  have hvsites : v.sites = s.sites := hv .sites (by decide)
  have hvsite (m : Nat) : siteOf v m = siteOf s m := by simp only [siteOf, hvsites]
  have hnum : ∀ y : Site, y.num = n → (f y).num = n := fun _ h => h
  have hsite := siteOf_modSet ((hvsite n).trans hx) hnum .unused
  have hposted := modSet_posted ((hvsite n).trans hx) hnum .unused
  have hinv : SitesInv (siteCleared v n) := by
    refine (SitesInv.cleared (f := fun y => { f y with state := .unused }) hs (fun _ _ h => ⟨h, rfl⟩) hc).congr ?_
    refine (modSet_sites ((hvsite n).trans hx) hnum .unused).trans ?_
    simp only [modSite, hvsites]
  simp only [hvsite] at hsite
  refine changed_spec hasc hv hposted hsite (fun t _ => ?_) hx
  rw [Bool.eq_iff_iff, List.any_eq_true, List.any_eq_true]
  refine exists_congr fun m => and_congr_right fun hm => ?_
  have hne : m ≠ n := by
    rintro rfl
    obtain ⟨y, hy, rfl, hused⟩ := used_of_mem_routeOf hinv hm
    have hfound : some y = some { f x with state := .unused } := by
      rw [← hinv.siteOf_of_mem hy]
      exact (hsite y.num).trans (by simp [hx])
    rw [Option.some.inj hfound] at hused
    exact Bool.false_ne_true hused
  rw [isDown_eq, isDown_eq, hsite]
  simp [hne]

/-- Settles O40: SET_SITE, CLEAR_SITE, and a site whose timeout has been reached. -/
theorem sitesAreConfigured : Obligations.SitesAreConfigured := by
  unfold Obligations.SitesAreConfigured
  refine ⟨fun s tag n parent lo hi hop timeout h htables hs => ?_, fun s tag n h htables hs => ?_, fun s n htables hs =>
    ⟨expireSite_idle, fun x b hx hup hb hreached => ?_⟩⟩
  · intro c a b d e
    cases hx : siteOf s n with
    | none => exact setSite_notFound h tag parent lo hi hop timeout hx
    | some x =>
      dsimp only
      by_cases hrange : b < a
      · rw [if_pos hrange]
        exact setSite_badRange h tag parent lo hi hop timeout hx hrange
      have hchecks := siteChecks_eq s n parent (a := a) (b := b) (clamp_bounds (by decide) lo).1 (clamp_bounds (by decide) hi).2
      have hrefused {r : Result} (hr : siteChecks s n parent (a, b) = some r) : Refuses c s r :=
        setSite_refused h tag parent lo hi hop timeout hx hrange hr
      rw [if_neg hrange]
      refine ite_told hchecks hrefused fun _ hchecks => ite_told hchecks hrefused fun _ hchecks =>
        ite_told hchecks hrefused fun _ hchecks => ite_told hchecks hrefused fun _ hchecks =>
        ite_told hchecks hrefused fun _ hchecks => ?_
      have hexec := exec_setSite h tag parent lo hi hop timeout hx hrange hchecks
      have hv := answered_keeps s 0x21 tag (if a = lo ∧ b = hi ∧ d = hop ∧ e = timeout then .ok else .clamped) .none
      obtain ⟨hself, hothers, hforced, heq⟩ := siteSet_spec htables.trucks hv
        (g := { num := n, parent := parent, lo := a, hi := b, hop := d, timeout := e }) hx
      rw [applySite_eq] at hexec
      have hpolicy := (congrArg State.policy heq).trans ((posted_keeps _ _ .policy (by decide)).trans
        (hv .policy (by decide)))
      rw [hpolicy] at hexec
      exact ⟨_, hexec, hself, hothers, hforced, heq⟩
  · cases hx : siteOf s n with
    | none => exact clearSite_notFound h tag hx
    | some x =>
      dsimp only
      by_cases hunused : x.state = .unused
      · rw [if_pos hunused]
        exact clearSite_wrongState h tag hx hunused
      rw [if_neg hunused]
      by_cases hc : hasChildren s n = true
      · exact (if_pos hc).mpr (clearSite_inUse h tag hx hunused hc)
      have hnone := Bool.eq_false_iff.mpr hc
      refine (if_neg hc).mpr ⟨_, exec_clearSite h tag hx hunused hnone, ?_⟩
      exact siteCleared_spec htables.trucks hs (answered_keeps s 0x22 tag .ok .none) hx hnone
  · exact ⟨_, (expireSite_of_some hx).trans ((if_pos ((Site.timedOut_iff x s.now).mpr ⟨hup, b, hb, hreached⟩)).trans
      (siteGoesDown_eq s n)), downed_spec htables.trucks hs hx hup hb⟩

end Sys2Proof.Machine

/-!
PROOFS. The lapse (R174, R175, R104): the pending requests answered one after another, the GRANTs superseded, and what the
assist records leave untouched.
-/
namespace Sys2Proof.Machine

-- The proofs are taken one after another: side by side they wait for each other in more threads than the check can hold.
set_option Elab.async false

/-! ## Answers under a record of another subject -/

theorem answerIn_give_other (s : State) (t : Nat) {c : Content} (m n : Nat) (hc : c.subject ≠ .answer n) :
    answerIn (give s t c) m n = answerIn s m n := by
  by_cases hroom : canGive s t c.subject = true
  · obtain ⟨r, -, hrec⟩ := recOf_give hroom m (.answer n)
    rw [answerIn, hrec, if_neg fun h => hc h.2.symm]
    rfl
  · rw [give_refused (Bool.eq_false_iff.mpr hroom)]

theorem answerIn_dropAssist (s : State) (t m n : Nat) : answerIn (dropRec s t .assist) m n = answerIn s m n := by
  unfold answerIn recOf
  rw [truckOf_dropAssist]
  cases truckOf s m with
  | none => rfl
  | some k =>
    have hkept : recFor k.withoutAssist.queue (.answer n) = recFor k.queue (.answer n) :=
      (recFor_without k.queue .assist (.answer n)).trans (if_neg (by simp))
    by_cases hm : m = t <;> simp [hm, hkept]

theorem answerIn_assistOne (s : State) (t m n : Nat) : answerIn (assistOne s t) m n = answerIn s m n := by
  cases hk : truckOf s t with
  | none => simp only [assistOne, hk]
  | some k =>
    have hgiven := answerIn_give_other s t (c := .assist (assistList s k)) m n (by simp [Content.subject])
    cases hr : recFor k.queue .assist with
    | none =>
      rw [assistOne_none hk hr]
      split_ifs
      · rfl
      · exact hgiven
    | some r =>
      rw [assistOne_some hk hr]
      split_ifs
      · exact answerIn_dropAssist s t m n
      · rfl
      · exact hgiven

theorem answerIn_eachOf {f : State → Nat → State} (m n : Nat) (h : ∀ s k, answerIn (f s k) m n = answerIn s m n)
    (l : List Nat) (s : State) : answerIn (eachOf f l s) m n = answerIn s m n := by
  induction l generalizing s with
  | nil => rfl
  | cons k l ih => exact (ih (f s k)).trans (h s k)

theorem answerIn_assistAll (s : State) (m n : Nat) : answerIn (assistAll s) m n = answerIn s m n :=
  answerIn_eachOf m n (fun s _ => answerIn_eachOf m n (fun s k => answerIn_assistOne s k m n) _ s) _ s

theorem assistAll_keeps (s : State) : Keeps [.trucks, .askArb] s (assistAll s) := Keeps.foldl assistSite_keeps _ s

/-- The sites the entry into UNATTENDED recomputes for (R63). -/
theorem siteHasAlarm_eq (s : State) : siteHasAlarm s = fun x => s.trucks.any fun t =>
    t.zone.map (servingSite s) == some x && (t.w1.state == .alarm || t.w2.state == .alarm) := by
  funext x
  unfold siteHasAlarm
  refine congrArg (List.any s.trucks) (funext fun t => ?_)
  cases hz : t.zone with
  | none => simp [servingOf, hz]
  | some z =>
    have hopen : (!(openAlarms t).isEmpty) = (t.w1.state == .alarm || t.w2.state == .alarm) := by
      have hone : t.watch 1 = t.w1 := rfl
      have htwo : t.watch 2 = t.w2 := rfl
      rw [openAlarms_some hz, hone, htwo]
      by_cases h1 : t.w1.state = .alarm <;> by_cases h2 : t.w2.state = .alarm <;> simp [h1, h2]
    rw [hopen, servingOf, hz]

theorem alarmCount_eq (s : State) : alarmCount s = (s.trucks.map fun t =>
    (if t.w1.state = .alarm then 1 else 0) + (if t.w2.state = .alarm then 1 else 0)).sum := by
  unfold alarmCount
  refine congrArg List.sum (congrArg (List.map · s.trucks) (funext fun t => ?_))
  by_cases h1 : t.w1.state = .alarm <;> by_cases h2 : t.w2.state = .alarm <;> simp [h1, h2]

/-! ## The steps of refused requests and superseded GRANTs (R104) -/

theorem stepIn_stepPending (s : State) (n m : Nat) (i j : StepId) (why : Option Reason) : stepIn (stepPending s n i why) m j =
    (stepIn s m j).map fun x => if m = n ∧ j = i then x.returned why else x := by
  have hpermit := permitOf_modStep s n m i (StepRec.returned why)
  change (permitOf (modStep s n i (StepRec.returned why)) m).bind _ = _
  rw [hpermit]
  unfold stepIn
  cases permitOf s m with
  | none => rfl
  | some p =>
    by_cases hm : m = n
    · simp [hm, Permit.step_withStep]
    · simp [hm]

theorem stepIn_refusePending (s : State) (n m : Nat) (j : StepId) (why : Reason) : stepIn (refusePending s n why) m j =
    (stepIn s m j).map fun x => if m = n ∧ (askOf s n).map Ask.step = some j then x.returned (some why) else x := by
  cases hask : askOf s n with
  | none => simp [refusePending_of_none why hask]
  | some a =>
    rw [refusePending_eq why hask, stepIn_stepPending]
    have hkept : stepIn (removeAsk (give s a.holder (.answer (refuseContent n a.step why))) n) m j = stepIn s m j := by
      unfold stepIn
      rw [permitOf_of_keeps (removeAsk_keeps _ n), permitOf_of_keeps (give_keeps s _ _)]
    rw [hkept]
    simp [eq_comm]

theorem askOf_refusePending (s : State) (n m : Nat) (why : Reason) :
    askOf (refusePending s n why) m = if m = n then none else askOf s m := by
  unfold askOf
  rw [refusePending_asks, List.find?_filter]
  by_cases hm : m = n
  · rw [if_pos hm, List.find?_eq_none]
    simp [hm]
  · rw [if_neg hm]
    refine List.find?_congr fun a _ => ?_
    by_cases ha : a.permit = m <;> simp [ha, hm]

/-- Requests refused one after another: each one's step is PENDING with the reason. -/
theorem stepIn_refused (why : Reason) (l : List Nat) (s : State) (m : Nat) (j : StepId) :
    stepIn (eachOf (fun s n => refusePending s n why) l s) m j =
      (stepIn s m j).map fun x => if m ∈ l ∧ (askOf s m).map Ask.step = some j then x.returned (some why) else x := by
  induction l generalizing s with
  | nil => simp [eachOf]
  | cons n l ih =>
    refine (ih (refusePending s n why)).trans ?_
    rw [stepIn_refusePending, askOf_refusePending, Option.map_map]
    refine congrArg (Option.map · _) (funext fun x => ?_)
    by_cases hm : m = n
    · subst hm
      simp
    · simp [hm]

/-- A step returned with a reason stays as it is where GRANTs are superseded for the same reason. -/
theorem stepIn_supersede_returned {s : State} {m : Nat} {j : StepId} {why : Reason} {o : Option StepRec}
    (h : stepIn s m j = o.map (StepRec.returned (some why))) (n : Nat) :
    stepIn (supersede s n why) m j = o.map (StepRec.returned (some why)) := by
  unfold supersede
  cases hc : answerIn s (holderOf s n) n with
  | none => exact h
  | some c =>
    by_cases hgrant : c.kind = .grant
    · have hkept (u : State) : stepIn (clearStepBusy u n c.step) m j = stepIn u m j := by
        unfold stepIn
        rw [permitOf_of_keeps (clearStepBusy_keeps _ _ _)]
      have hgiven : stepIn (give s (holderOf s n) (.answer (refuseContent n c.step why))) m j = stepIn s m j := by
        unfold stepIn
        rw [permitOf_of_keeps (give_keeps _ _ _)]
      simp only [hgrant, if_true]
      rw [hkept, stepIn_stepPending, hgiven, h, Option.map_map]
      refine congrArg (Option.map · o) (funext fun x => ?_)
      exact (apply_ite id _ _ _).trans (ite_self _)
    · simpa only [hgrant, if_false] using h

theorem stepIn_superseded_returned {m : Nat} {j : StepId} {why : Reason} {o : Option StepRec} (l : List Nat) {s : State}
    (h : stepIn s m j = o.map (StepRec.returned (some why))) :
    stepIn (eachOf (fun s n => supersede s n why) l s) m j = o.map (StepRec.returned (some why)) := by
  induction l generalizing s with
  | nil => exact h
  | cons n l ih => exact ih (stepIn_supersede_returned h n)

/-! ## The lapse -/

theorem Action.energizing_eq (a : Action) : a.energizing = (a == .close || a == .unground) := by cases a <;> rfl

theorem grantLapses_eq (s : State) (n : Nat) : grantLapses s n = (answerIn s (holderOf s n) n).any fun c =>
    c.kind == .grant && (stepIn s n c.step).any fun x => x.action == .close || x.action == .unground || x.confirm := by
  unfold grantLapses
  cases answerIn s (holderOf s n) n with
  | none => rfl
  | some c =>
    cases hx : stepIn s n c.step with
    | none => simp [hx]
    | some x => simp only [hx, Action.energizing_eq, Option.any_some]

/-- The state behind the requests answered and the GRANTs superseded. -/
def withdrawn (s : State) : State := eachOf (fun s n => supersede s n .unattended) (lapsingGrants (answerAll s)) (answerAll s)

theorem answerAll_keeps (s : State) : Keeps [.trucks, .permits, .asks, .askArb] s (answerAll s) :=
  Keeps.foldl (fun u n => refusePending_keeps u n _) _ s

theorem withdrawn_keeps (s : State) : Keeps [.trucks, .permits, .points, .asks, .askArb] s (withdrawn s) :=
  (answerAll_keeps s).to.trans (Keeps.foldl (fun u n => (supersede_keeps u n _).to) _ _)

/-- The console becomes UNATTENDED: requests, GRANTs and assist records, then CONSOLE_LAPSED. -/
theorem becomeUnattended_eq (s : State) : becomeUnattended s =
    post (assistAll (withdrawn { s with sup := { s.sup with console := .unattended } }))
      (.consoleLapsed (stampOpt s s.sup.lastValid) s.sup.window s.asks.length
        (lapsingGrants (answerAll { s with sup := { s.sup with console := .unattended } })).length (alarmCount s)) := rfl

/-- No request is pending once all have been answered. -/
theorem withdrawn_asks (s : State) : (withdrawn s).asks = [] :=
  (Keeps.foldl (l := [.trucks, .permits, .points, .askArb]) (fun u n => supersede_keeps u n _) (lapsingGrants (answerAll s))
    (answerAll s) .asks (by decide)).trans (answerAll_asks s)

theorem withdrawn_ask (s : State) {a : Ask} (ha : askOf s a.permit = some a) : stepIn (withdrawn s) a.permit a.step =
    (stepIn s a.permit a.step).map (StepRec.returned (some .unattended)) := by
  refine stepIn_superseded_returned (lapsingGrants (answerAll s)) ?_
  have hlisted : a.permit ∈ s.asks.map Ask.permit := List.mem_map_of_mem (List.mem_of_find?_eq_some ha)
  refine (stepIn_refused .unattended _ s a.permit a.step).trans ?_
  simp [hlisted, ha]

/-- No GRANT that stands is for a step that needs a dispatcher. -/
theorem withdrawn_grant {s : State} {n : Nat} {p : Permit} {x : StepRec} {c : AnswerContent}
    (hp : permitOf (withdrawn s) n = some p) (hx : p.step c.step = some x)
    (hc : answerIn (withdrawn s) p.holder n = some c) (hgrant : c.kind = .grant) :
    x.action ≠ .close ∧ x.action ≠ .unground ∧ x.confirm = false := by
  obtain ⟨hstood, hnot⟩ := answerIn_superseded hgrant _ hc
  obtain ⟨y, hy, haction, hconfirm⟩ := stepIn_superseded (i := c.step) (y := x) (lapsingGrants (answerAll s))
    ((stepIn_eq hp c.step).trans hx)
  obtain ⟨q, hq, -⟩ := Option.bind_eq_some_iff.mp hy
  have hholder : holderOf (answerAll s) n = p.holder := by
    have hsame : holderOf (withdrawn s) n = holderOf (answerAll s) n := by
      have hall (l : List Nat) (u : State) : holderOf (eachOf (fun s m => supersede s m .unattended) l u) n = holderOf u n := by
        induction l generalizing u with
        | nil => rfl
        | cons m l ih => exact (ih _).trans (holderOf_supersede u m _ n)
      exact hall _ _
    exact hsame.symm.trans (holderOf_eq hp)
  have hstands : grantLapses (answerAll s) n = false := by
    by_contra hlapses
    refine hnot (List.mem_filter.mpr ⟨mem_permitNums hq, by simpa using hlapses⟩) hholder.symm
  rw [grantLapses_eq, hholder, hstood] at hstands
  simpa [hgrant, hy, ← haction, ← hconfirm, and_assoc] using hstands

section
variable {s : State} (h : Live s)
include h

theorem exec_lapse : exec .lapse s = .next (settleEvent (if lapseReached s = true then takeLapse s else s)) :=
  event_live (fun s => if lapseReached s = true then takeLapse s else s) h.1

theorem exec_lapse_idle (hidle : ∀ e, s.sup.lapse = some e → s.now < e) : exec .lapse s = .next s := by
  rw [exec_lapse h, if_neg, settleEvent_of_quiet h.2]
  rw [lapseReached_iff]
  rintro ⟨e, he, hreached⟩
  exact absurd (hidle e he) (by omega)

theorem exec_lapse_reached {e : Nat} (he : s.sup.lapse = some e) (hreached : e ≤ s.now) :
    exec .lapse s = .next (settleEvent (takeLapse s)) := by
  rw [exec_lapse h, if_pos ((lapseReached_iff s).mpr ⟨e, he, hreached⟩)]

end

/-- The state with the lapse expired and reported (R174). -/
def lapsedState (s : State) : State := setLapsed { s with sup := { s.sup with lapse := none } }

/-- That state with the console left (R175). -/
def leftState (s : State) : State := { lapsedState s with sup := { (lapsedState s).sup with console := .unattended } }

section
variable {s : State}

theorem takeLapse_off (hoff : s.sup.mode = .off) : takeLapse s = { s with sup := { s.sup with lapse := none } } := by
  simp only [takeLapse, hoff]

variable (hoff : s.sup.mode ≠ .off)
include hoff

theorem takeLapse_reports (h : s.sup.mode = .report ∨ s.sup.console = .unattended) : takeLapse s = lapsedState s := by
  cases hmode : s.sup.mode with
  | off => exact absurd hmode hoff
  | report => simp only [takeLapse, hmode, lapsedState]
  | act =>
    have hleft : s.sup.console = .unattended := h.resolve_left (by simp [hmode])
    simp [takeLapse, hmode, hleft, lapsedState]

theorem takeLapse_takes (h : ¬(s.sup.mode = .report ∨ s.sup.console = .unattended)) :
    takeLapse s = becomeUnattended (lapsedState s) := by
  cases hmode : s.sup.mode with
  | off => exact absurd hmode hoff
  | report => exact absurd (.inl hmode) h
  | act =>
    have hattended : s.sup.console = .attended := by
      cases hc : s.sup.console with
      | attended => rfl
      | unattended => exact absurd (.inr hc) h
    simp [takeLapse, hmode, hattended, lapsedState]

end

/-- Settles O44: what answers a request and supersedes a GRANT, and the lapse by mode and console state. -/
theorem lapseTakesConsole : Obligations.LapseTakesConsole := by
  unfold Obligations.LapseTakesConsole
  refine ⟨fun s n why => ?_, fun s n why p hp => ⟨fun hno => supersede_of_no_grant hp why hno, fun c hc hgrant => ?_⟩,
    fun s => ?_, fun s h => ?_⟩
  · cases hask : askOf s n with
    | none => exact refusePending_of_none why hask
    | some a =>
      refine ⟨_, rfl, refusePending_asks s n why, refusePending_step why hask, ?_, ?_⟩
      · by_cases hroom : canGive s a.holder (.answer n) = true
        · rw [if_pos hroom]
          exact ⟨refusePending_record why hask, refusePending_answered why hask hroom⟩
        · rw [if_neg hroom]
          exact refusePending_trucks why hask hroom
      · have hkeeps := refusePending_keeps s n why
        have hpoints : (refusePending s n why).points = s.points := hkeeps .points (by decide)
        exact (eq_of_keeps_permitsAsks hkeeps.to).trans (by rw [hpoints])
  · refine ⟨_, rfl, supersede_record hp why hc hgrant, supersede_answered hp why hc hgrant, supersede_step hp why hc hgrant,
      fun m => ?_, ?_⟩
    · rw [supersede_point hp why hc hgrant]
      refine congrArg (Option.map · _) (funext fun q => ?_)
      rw [Point.unmarked, ite_and]
    · have hkeeps := supersede_keeps s n why
      have hasks : (supersede s n why).asks = s.asks := hkeeps .asks (by decide)
      exact (eq_of_keeps_permitsAsks hkeeps.to).trans (by rw [hasks])
  · rw [assistAll, siteHasAlarm_eq]
    rfl
  · dsimp only
    refine ⟨fun hnone => exec_lapse_idle h fun e he => by simp [hnone] at he, fun e he => ?_⟩
    by_cases hearly : s.now < e
    · rw [if_pos hearly]
      exact exec_lapse_idle h fun e' he' => by simp_all
    rw [if_neg hearly]
    have hexec := exec_lapse_reached h he (by omega)
    by_cases hoff : s.sup.mode = .off
    · rw [if_pos hoff, hexec, takeLapse_off hoff,
        settleEvent_of_quiet (s := { s with sup := { s.sup with lapse := none } }) h.2]
    rw [if_neg hoff]
    by_cases hreport : s.sup.mode = .report ∨ s.sup.console = .unattended
    · rw [if_pos hreport, hexec, takeLapse_reports hoff hreport, settleEvent_of_quiet (s := lapsedState s) h.2]
      rfl
    rw [if_neg hreport]
    rw [takeLapse_takes hoff hreport, becomeUnattended_eq] at hexec
    have hassists := assistAll_keeps (withdrawn (leftState s))
    have hleft : Keeps [.trucks, .permits, .points, .asks, .askArb] (leftState s) (assistAll (withdrawn (leftState s))) :=
      (withdrawn_keeps (leftState s)).trans hassists.to
    have hasks : (assistAll (withdrawn (leftState s))).asks = [] := (hassists .asks (by decide)).trans (withdrawn_asks _)
    refine ⟨assistAll (withdrawn (leftState s)), _, _, answerAll (leftState s), withdrawn (leftState s),
      lapsingGrants (answerAll (leftState s)), hexec, rfl, ?_, rfl, rfl, rfl, ?_, ?_, fun a ha => ?_,
      fun n p i x c hp hx hc hstep hgrant => ?_, fun hnone => ?_⟩
    · exact congrArg (List.filter · _) (funext fun n => grantLapses_eq _ n)
    · rw [alarmCount_eq]
      rfl
    · have hframe := eq_of_keeps_permitsAsks hleft
      rw [hasks] at hframe
      exact hframe
    · have hreturned := withdrawn_ask (leftState s) ha
      refine Eq.trans ?_ hreturned
      unfold stepIn
      rw [permitOf_of_keeps hassists]
    · rw [permitOf_of_keeps hassists] at hp
      rw [answerIn_assistAll] at hc
      subst hstep
      exact withdrawn_grant hp hx hc hgrant
    · have hnobody : answerAll (leftState s) = leftState s := by
        have hasks : (leftState s).asks = [] := hnone
        rw [answerAll, hasks]
        rfl
      rw [hnobody]
      exact congrArg (fun f => (List.filter f _).length) (funext fun n => grantLapses_eq (leftState s) n)

end Sys2Proof.Machine

/-!
PROOFS. The offer timer (R25), the decision expiry (R100) and the discard time (R124).
-/
namespace Sys2Proof.Machine

-- The proofs are taken one after another: side by side they wait for each other in more threads than the check can hold.
set_option Elab.async false

/-! ## An expired offer (R25) -/

/-- What an expired offer does for its truck: the undelivered record goes with the slot, a delivered offer is withdrawn. -/
def offerTakenBack (s u : State) (t n : Nat) : State :=
  if (orderRecIn s t n).isSome = true then freeOrderSlot (dropRec u t (.order n)) t n else giveOrder u t n .withdrawn false

theorem offerTakenBack_keeps (s u : State) (t n : Nat) : Keeps [.trucks, .askArb] u (offerTakenBack s u t n) := by
  unfold offerTakenBack
  split_ifs
  · exact (dropRec_keeps u t _).to.trans (freeOrderSlot_keeps _ t n).to
  · exact giveOrder_keeps u t n _ _

theorem truckOf_offerTakenBack_ne (s u : State) {t m : Nat} (n : Nat) (hm : m ≠ t) :
    truckOf (offerTakenBack s u t n) m = truckOf u m := by
  unfold offerTakenBack
  split_ifs
  · rw [truckOf_freeOrderSlot, truckOf_dropRec]
    simp [hm]
  · exact truckOf_giveOrder_ne u n .withdrawn false hm

section
variable {s u : State} {t n : Nat} {k : Truck} (hk : truckOf s t = some k) (hu : truckOf u t = some k)
include hk hu

theorem truckOf_offerTakenBack_undelivered (hrec : (recFor k.queue (.order n)).isSome = true) :
    truckOf (offerTakenBack s u t n) t = some { k with
      queue := k.queue.filter fun r => r.content.subject != .order n
      orderSlots := k.orderSlots.filter (· != n) } := by
  rw [offerTakenBack, orderRecIn_isSome hk, if_pos hrec, truckOf_freeOrderSlot, truckOf_dropRec, hu]
  simp only [Option.map_some, if_true]
  rfl

variable (hrec : ¬(recFor k.queue (.order n)).isSome = true)
include hrec

theorem truckOf_offerTakenBack_full (hfull : 12 ≤ k.queue.length) : truckOf (offerTakenBack s u t n) t = some k := by
  rw [offerTakenBack, orderRecIn_isSome hk, if_neg hrec, giveOrder_of_full hu .withdrawn false (by simp [hrec]; omega), hu]

theorem truckOf_offerTakenBack_withdrawn {o : Order} (ho : orderOf u n = some o) (hroom : k.queue.length < 12) :
    ∃ k' r, truckOf (offerTakenBack s u t n) t = some k' ∧ recFor k'.queue (.order n) = some r ∧
      r.content = .order { num := n, disp := .withdrawn, state := none, prio := o.prio, loc := o.loc, desc := o.desc
                           linked := o.linked, permitOpen := false } ∧
      (∀ x, x ≠ .order n → recFor k'.queue x = recFor k.queue x) ∧ k' = { k with queue := k'.queue, seqCtr := k'.seqCtr } := by
  obtain ⟨k', r, hk', hframe, hr, hcontent, -, -, hothers⟩ := truckOf_giveOrder ho hu .withdrawn false (.inr hroom)
  refine ⟨k', r, ?_, hr, ?_, hothers, hframe⟩
  · rw [offerTakenBack, orderRecIn_isSome hk, if_neg hrec, hk']
  · have hnone : recFor k.queue (.order n) = none := by simpa using hrec
    rw [hcontent, hnone]
    obtain rfl : o.num = n := (findBy_some ho).1
    rfl

end

/-- The state of an expired offer before rollover. -/
def offerReturned (s : State) (n : Nat) (o : Order) : State :=
  o.assigned.elim (backToQueued s n) fun t => offerTakenBack s (backToQueued s n) t n

theorem offerReturned_keeps (s : State) (n : Nat) (o : Order) :
    Keeps [.trucks, .askArb] (backToQueued s n) (offerReturned s n o) := by
  unfold offerReturned
  cases o.assigned with
  | none => exact .refl _ _
  | some t => exact offerTakenBack_keeps s _ t n

theorem orderOf_offerReturned (s : State) (n : Nat) (o : Order) (m : Nat) :
    orderOf (offerReturned s n o) m = (orderOf s m).map fun o => if m = n then o.requeued else o := by
  rw [orderOf_of_keeps (offerReturned_keeps s n o), orderOf_backToQueued]

section
variable {s : State} {n : Nat} {o : Order} (ho : orderOf s n = some o)
include ho

theorem offerExpires_eq : offerExpires s n = rollover (offerReturned s n o) n := by
  simp only [offerExpires, ho, offerReturned]
  cases o.assigned <;> rfl

theorem offerReturned_frame : offerReturned s n o = { posted s [.orderState n .queued none] with
    orders := (offerReturned s n o).orders, trucks := (offerReturned s n o).trucks
    askArb := (offerReturned s n o).askArb } := by
  have hback : Keeps [.orders] (posted s [.orderState n .queued none]) (backToQueued s n) := by
    rw [backToQueued_eq ho]
    exact modOrder_keeps _ n _
  have hall : Keeps [.permits, .points, .orders, .trucks, .askArb] (posted s [.orderState n .queued none])
      (offerReturned s n o) := hback.to.trans (offerReturned_keeps s n o).to
  have hrest := hback.to.trans ((offerReturned_keeps s n o).to (l := [.orders, .trucks, .askArb]))
  have hpermits := hrest .permits (by decide)
  have hpoints := hrest .points (by decide)
  exact (eq_of_keeps_loading hall).trans (by
    rw [show (offerReturned s n o).permits = _ from hpermits, show (offerReturned s n o).points = _ from hpoints])

end

section
variable {s : State} (h : Live s) {n : Nat}
include h

theorem exec_offerTimeout_none (ho : orderOf s n = none) : exec (.offerTimeout n) s = .next s := by
  change execOfferTimeout n s = _
  unfold execOfferTimeout
  rw [event_live _ h.1]
  simp only [ho]
  rw [settleEvent_of_quiet h.2]

theorem exec_offerTimeout {o : Order} (ho : orderOf s n = some o) : exec (.offerTimeout n) s =
    .next (settleEvent (if o.offerReached s.now = true then offerExpires s n else s)) := by
  change execOfferTimeout n s = _
  unfold execOfferTimeout
  rw [event_live _ h.1]
  simp only [ho]

theorem exec_decisionTimeout_none (ha : askOf s n = none) : exec (.decisionTimeout n) s = .next s := by
  change execDecisionTimeout n s = _
  unfold execDecisionTimeout
  rw [event_live _ h.1]
  simp only [ha]
  rw [settleEvent_of_quiet h.2]

theorem exec_decisionTimeout {a : Ask} (ha : askOf s n = some a) : exec (.decisionTimeout n) s =
    .next (settleEvent (if a.expiry ≤ s.now then expireAsk s a else s)) := by
  change execDecisionTimeout n s = _
  unfold execDecisionTimeout
  rw [event_live _ h.1]
  simp only [ha]

theorem exec_discardTime_none {t : Nat} (hr : recOf s t (.answer n) = none) : exec (.discardTime t n) s = .next s := by
  change execDiscardTime t n s = _
  unfold execDiscardTime
  rw [event_live _ h.1]
  simp only [hr]
  rw [settleEvent_of_quiet h.2]

theorem exec_discardTime {t : Nat} {r : Rec} (hr : recOf s t (.answer n) = some r) : exec (.discardTime t n) s =
    .next (settleEvent (if r.discardReached s.now = true then loseRec s t r .discarded r.attempts else s)) := by
  change execDiscardTime t n s = _
  unfold execDiscardTime
  rw [event_live _ h.1]
  simp only [hr]

end

/-! ## A record lost (R123, R127) -/

/-- The state with a record gone and UNDELIVERABLE posted, its owner not yet told. -/
def recLost (s : State) (t : Nat) (r : Rec) (why : LossReason) (attempts : Nat) : State :=
  post (dropRec s t r.subject) (.undeliverable t r.subject r.content.summary r.origin why attempts (stamp s r.entry))

theorem loseRec_eq (s : State) (t : Nat) (r : Rec) (why : LossReason) (attempts : Nat) :
    loseRec s t r why attempts = ownerLost (recLost s t r why attempts) t r.content := rfl

theorem recLost_keeps (s : State) (t : Nat) (r : Rec) (why : LossReason) (attempts : Nat) : Keeps [.trucks]
    (posted s [.undeliverable t r.subject r.content.summary r.origin why attempts (stamp s r.entry)])
    (recLost s t r why attempts) := (dropRec_keeps s t _).posted _

theorem truckOf_recLost (s : State) (t : Nat) (r : Rec) (why : LossReason) (attempts m : Nat) :
    truckOf (recLost s t r why attempts) m =
      (truckOf s m).map fun k => if m = t then { k with queue := afterLeaving k.queue r.subject } else k := by
  rw [recLost, truckOf_of_keeps (post_keeps _ _), truckOf_dropRec]

/-- A GRANT lost: its step PENDING without a reason, its busy mark cleared (R103). -/
theorem stepIn_grantLost (s : State) (c : AnswerContent) (m : Nat) (j : StepId) : stepIn (grantLost s c) m j =
    (stepIn s m j).map fun x => if m = c.permit ∧ j = c.step then x.returned none else x := by
  unfold grantLost
  rw [← stepIn_stepPending]
  unfold stepIn
  rw [permitOf_of_keeps (clearStepBusy_keeps _ _ _)]

theorem pointOf_grantLost (s : State) (c : AnswerContent) (m : Nat) : pointOf (grantLost s c) m = (pointOf s m).map fun q =>
    if (stepIn s c.permit c.step).map StepRec.point = some m then q.unmarked c.permit c.step else q := by
  unfold grantLost
  rw [pointOf_clearStepBusy, stepIn_stepPending, pointOf_of_keeps (stepPending_keeps _ _ _ _), Option.map_map]
  simp only [and_self, if_true]
  rfl

theorem grantLost_keeps (s : State) (c : AnswerContent) : Keeps [.permits, .points] s (grantLost s c) :=
  (stepPending_keeps _ _ _ _).to.trans (clearStepBusy_keeps _ _ _).to

theorem eq_of_keeps_truckPermitPoints {s v : State} (h : Keeps [.trucks, .permits, .points] s v) :
    v = { s with trucks := v.trucks, permits := v.permits, points := v.points } := by
  have horders : v.orders = s.orders := h .orders (by decide)
  exact (eq_of_keeps_tables h.to).trans (by rw [horders])

/-- Settles O45: the three timers before, at and without their moment. -/
theorem timersEndWhatTheyWereSetFor : Obligations.TimersEndWhatTheyWereSetFor := by
  unfold Obligations.TimersEndWhatTheyWereSetFor
  refine fun s h => ⟨fun n => ?_, fun n => ?_, fun t n => ?_⟩
  · cases ho : orderOf s n with
    | none => exact exec_offerTimeout_none h ho
    | some o =>
      dsimp only
      have hexec := exec_offerTimeout h ho
      have hiff : o.offerReached s.now = true ↔ o.state = .offered ∧ (o.offerExpiry.any fun e => e ≤ s.now) = true := by
        rw [Order.offerReached_iff]
        cases o.offerExpiry <;> simp
      by_cases hreached : o.state = .offered ∧ (o.offerExpiry.any fun e => e ≤ s.now) = true
      · rw [if_pos (hiff.mpr hreached), offerExpires_eq ho] at hexec
        rw [if_pos hreached]
        have hback (m : Nat) : truckOf (backToQueued s n) m = truckOf s m := truckOf_of_keeps (backToQueued_keeps s n) m
        refine ⟨_, hexec, ?_, fun m hm => ?_, offerReturned_frame ho, fun hnone => ?_, fun t ht => ?_⟩
        · rw [orderOf_offerReturned s n o, ho]
          simp [Order.requeued, hreached.1]
        · rw [orderOf_offerReturned s n o]
          simp [hm]
        · rw [offerReturned, hnone]
          exact backToQueued_keeps s n .trucks (by decide)
        · have hreturned : offerReturned s n o = offerTakenBack s (backToQueued s n) t n := by rw [offerReturned, ht]; rfl
          rw [hreturned]
          refine ⟨fun m hm => (truckOf_offerTakenBack_ne s _ n hm).trans (hback m), fun k hk => ?_⟩
          have hu := (hback t).trans hk
          by_cases hrec : (recFor k.queue (.order n)).isSome = true
          · rw [if_pos hrec]
            exact truckOf_offerTakenBack_undelivered hk hu hrec
          rw [if_neg hrec]
          by_cases hfull : 12 ≤ k.queue.length
          · rw [if_pos hfull]
            exact truckOf_offerTakenBack_full hk hu hrec hfull
          rw [if_neg hfull]
          have hqueued : orderOf (backToQueued s n) n = some o.requeued := by
            rw [orderOf_backToQueued, ho, Option.map_some, if_pos rfl]
          exact truckOf_offerTakenBack_withdrawn (o := o.requeued) hk hu hrec hqueued (by omega)
      · rw [if_neg (mt hiff.mp hreached), settleEvent_of_quiet h.2] at hexec
        rw [if_neg hreached]
        exact hexec
  · cases ha : askOf s n with
    | none => exact exec_decisionTimeout_none h ha
    | some a =>
      dsimp only
      have hexec := exec_decisionTimeout h ha
      by_cases hearly : s.now < a.expiry
      · rw [if_neg (by omega), settleEvent_of_quiet h.2] at hexec
        rw [if_pos hearly]
        exact hexec
      rw [if_pos (by omega)] at hexec
      rw [if_neg hearly]
      obtain rfl : a.permit = n := by simpa using List.find?_some ha
      let u := refusePending s a.permit .timeout
      have hpost := post_keeps u (.decisionTimeout a.permit a.step a.holder (canGive s a.holder (.answer a.permit)))
      have hstep := stepIn_refusePending s a.permit a.permit a.step .timeout
      refine ⟨_, hexec, (hpost .asks (by decide)).trans (refusePending_asks s a.permit .timeout), ?_, ?_, ?_⟩
      · simp only [ha, Option.map_some, and_self, if_true] at hstep
        refine Eq.trans ?_ hstep
        unfold stepIn
        exact congrArg (Option.bind · _) (congrFun (permitOf_of_keeps hpost) _)
      · by_cases hroom : canGive s a.holder (.answer a.permit) = true
        · rw [if_pos hroom]
          exact (answerIn_of_keeps hpost _ _).trans (refusePending_answered .timeout ha hroom)
        · rw [if_neg hroom]
          exact (hpost .trucks (by decide)).trans (refusePending_trucks .timeout ha hroom)
      · have hkeeps := (refusePending_keeps s a.permit .timeout).posted
          [.decisionTimeout a.permit a.step a.holder (canGive s a.holder (.answer a.permit))]
        have hpoints := hkeeps .points (by decide)
        have hframe := eq_of_keeps_permitsAsks (hkeeps.to)
        rw [hpoints] at hframe
        exact hframe
  · cases hr : recOf s t (.answer n) with
    | none => exact exec_discardTime_none h hr
    | some r =>
      dsimp only
      have hexec := exec_discardTime h hr
      have hiff : r.discardReached s.now = (r.discard.any fun d => d ≤ s.now) := by
        unfold Rec.discardReached
        cases r.discard <;> rfl
      rw [hiff] at hexec
      by_cases hearly : (r.discard.any fun d => d ≤ s.now) = false
      · rw [if_neg (by simp [hearly]), settleEvent_of_quiet h.2] at hexec
        rw [if_pos hearly]
        exact hexec
      rw [if_pos (by simpa using hearly), loseRec_eq] at hexec
      rw [if_neg hearly]
      obtain ⟨k, hk, hrec⟩ := Option.bind_eq_some_iff.mp hr
      have hsubject : r.subject = .answer n := (recFor_some hrec).1
      let u := recLost s t r .discarded r.attempts
      have hlost := recLost_keeps s t r .discarded r.attempts
      rw [hsubject] at hlost
      have htruck (m : Nat) : truckOf u m = (truckOf s m).map fun k => if m = t then
          { k with queue := without k.queue (.answer n) } else k := by
        rw [truckOf_recLost, hsubject]
        rfl
      obtain ⟨c, hc, rfl⟩ : ∃ c, r.content = .answer c ∧ c.permit = n := by
        cases hc : r.content <;> simp_all [Rec.subject, Content.subject]
      rw [hc] at hexec
      have hquiet {v : State} (hv : Keeps [.trucks, .permits, .points] (posted s [.undeliverable t (.answer c.permit)
          r.content.summary r.origin .discarded r.attempts (stamp s r.entry)]) v) : v.askArb = false :=
        (hv .askArb (by decide)).trans ((posted_keeps s _ .askArb (by decide)).trans h.2)
      by_cases hgrant : c.kind = .grant
      · have howner : ownerLost u t (.answer c) = grantLost u c := if_pos hgrant
        have hkeeps := grantLost_keeps u c
        have hall := hlost.to.trans (hkeeps.to (l := [.trucks, .permits, .points]))
        have hstepIn (i : StepId) : stepIn u c.permit i = stepIn s c.permit i := by
          unfold stepIn
          rw [permitOf_of_keeps hlost, permitOf_of_keeps (posted_keeps s _)]
        have hpointOf (m : Nat) : pointOf u m = pointOf s m := by
          rw [pointOf_of_keeps hlost, pointOf_of_keeps (posted_keeps s _)]
        rw [howner, settleEvent_of_quiet (hquiet hall)] at hexec
        refine ⟨_, hexec, fun k hk => ?_, fun m hm => ?_, fun d hd _ => ?_, fun d hd hother => ?_, ?_⟩
        · rw [truckOf_of_keeps hkeeps, htruck, hk, Option.map_some, if_pos rfl]
          rfl
        · rw [truckOf_of_keeps hkeeps, htruck]
          simp [hm]
        · obtain rfl : c = d := Content.answer.inj (hc.symm.trans hd)
          refine ⟨?_, fun x q hx hq => ?_⟩
          · rw [stepIn_grantLost, hstepIn]
            simp only [and_self, if_true]
            rfl
          · rw [pointOf_grantLost, hpointOf, hstepIn, hx, hq, Option.map_some, Option.map_some, if_pos rfl]
            rfl
        · obtain rfl : c = d := Content.answer.inj (hc.symm.trans hd)
          exact absurd hgrant hother
        · exact eq_of_keeps_truckPermitPoints hall
      · have howner : ownerLost u t (.answer c) = u := if_neg hgrant
        rw [howner, settleEvent_of_quiet (hquiet hlost.to)] at hexec
        refine ⟨_, hexec, fun k hk => ?_, fun m hm => ?_, fun d hd hno => ?_, fun _ _ _ => ?_, ?_⟩
        · rw [htruck, hk, Option.map_some, if_pos rfl]
          rfl
        · rw [htruck]
          simp [hm]
        · obtain rfl : c = d := Content.answer.inj (hc.symm.trans hd)
          exact absurd hno hgrant
        · exact ⟨(hlost .permits (by decide)).trans (posted_keeps s _ .permits (by decide)),
            (hlost .points (by decide)).trans (posted_keeps s _ .points (by decide))⟩
        · exact eq_of_keeps_truckPermitPoints hlost.to

end Sys2Proof.Machine

/-!
PROOFS. The header of a decoded frame (R5, R6) and a missed turn (R9).
-/
namespace Sys2Proof.Machine

-- The proofs are taken one after another: side by side they wait for each other in more threads than the check can hold.
set_option Elab.async false

section
variable {s : State} {n : Nat} {t : Truck} (ht : truckOf s n = some t)
include ht

theorem setReach_askArb (r : Reach) (m : Nat) : (setReach s n r m).askArb = (s.askArb || t.reach != r) := by
  rw [setReach_eq ht]
  by_cases hsame : t.reach = r
  · rw [if_pos hsame]
    simp [hsame, modTruck]
  · rw [if_neg hsame]
    exact (post_keeps _ _ .askArb (by decide)).trans (by simp [hsame])

/-- The notice of a reachability set (R11). -/
theorem forceNotice_toList (r : Reach) (m : Nat) : (t.forceNotice (some (r, m))).toList =
    if t.reach = r then [] else [.truckState n r m t.zone] := by
  rw [Truck.forceNotice, Option.bind_some, (findBy_some ht).1]
  split_ifs <;> rfl

/-- Reachability and count set together, told of in one statement. -/
theorem setReach_frame (r : Reach) (m : Nat) : setReach s n r m =
    { posted s (if t.reach = r then [] else [.truckState n r m t.zone]) with
      trucks := (setReach s n r m).trucks, askArb := s.askArb || t.reach != r } := by
  have hframe := eq_of_keeps_trucksArb (setReach_posted ht r m)
  rw [setReach_askArb ht, forceNotice_toList ht] at hframe
  exact hframe

theorem truckOf_setReach_self (r : Reach) (m : Nat) : truckOf (setReach s n r m) n = some { t with reach := r, miss := m } := by
  rw [truckOf_setReach ht, ht, Option.map_some, if_pos rfl]

theorem truckOf_setReach_ne (r : Reach) (m : Nat) {k : Nat} (hk : k ≠ n) : truckOf (setReach s n r m) k = truckOf s k := by
  rw [truckOf_setReach ht]
  simp [hk]

end

/-! ## The header (R5, R6) -/

/-- The truck as heard now, its zone not yet taken (R5). -/
def headerHeard (s : State) (n : Nat) : State := modTruck (setReach s n .reachable 0) n fun t => { t with lastHeard := some s.now }

/-- The truck in another zone, the SITE causes not yet evaluated (R6). -/
def headerMoved (s : State) (n z : Nat) (t : Truck) : State :=
  post (modTruck (headerHeard s n) n fun t => { t with zone := some z }) (.zoneChange n t.zone z)

section
variable {s : State} {n : Nat} {t : Truck} (ht : truckOf s n = some t)
include ht

theorem truckOf_headerHeard (k : Nat) : truckOf (headerHeard s n) k =
    (truckOf s k).map fun t => if k = n then { t with reach := .reachable, miss := 0, lastHeard := some s.now } else t := by
  refine (truckOf_modTruck _ n k (fun t => { t with lastHeard := some s.now }) fun _ h => h).trans ?_
  rw [truckOf_setReach ht, Option.map_map]
  refine congrArg (Option.map · _) (funext fun t => ?_)
  by_cases hk : k = n <;> simp [hk]

theorem headerHeard_keeps : Keeps [.trucks, .askArb]
    (posted s (if t.reach = .reachable then [] else [.truckState n .reachable 0 t.zone])) (headerHeard s n) := by
  have hset := setReach_posted ht .reachable 0
  rw [forceNotice_toList ht] at hset
  exact hset.trans (modTruck_keeps _ n _).to

theorem headerHeard_askArb : (headerHeard s n).askArb = (s.askArb || t.reach != .reachable) := setReach_askArb ht .reachable 0

/-- The truck as the header leaves it, before the zone. -/
theorem truckOf_headerHeard_self :
    truckOf (headerHeard s n) n = some { t with reach := .reachable, miss := 0, lastHeard := some s.now } := by
  rw [truckOf_headerHeard ht, ht, Option.map_some, if_pos rfl]

theorem takeHeader_stays {z : Nat} (h : ¬(1 ≤ z ∧ z ≤ 250 ∧ t.zone ≠ some z)) : takeHeader s n z = headerHeard s n := by
  change takeZone (headerHeard s n) n z = _
  simp only [takeZone, truckOf_headerHeard_self ht, h, if_false]

theorem truckOf_headerMoved (z k : Nat) : truckOf (headerMoved s n z t) k = (truckOf s k).map fun t => if k = n then
    { t with reach := .reachable, miss := 0, lastHeard := some s.now, zone := some z } else t := by
  rw [headerMoved, truckOf_of_keeps (post_keeps _ _)]
  refine (truckOf_modTruck _ n k (fun t => { t with zone := some z }) fun _ h => h).trans ?_
  rw [truckOf_headerHeard ht, Option.map_map]
  refine congrArg (Option.map · _) (funext fun t => ?_)
  by_cases hk : k = n <;> simp [hk]

theorem headerMoved_askArb (z : Nat) : (headerMoved s n z t).askArb = (s.askArb || t.reach != .reachable) :=
  (post_keeps _ _ .askArb (by decide)).trans (headerHeard_askArb ht)

theorem headerMoved_keeps (z : Nat) : Keeps [.trucks, .askArb]
    (posted s ((if t.reach = .reachable then [] else [.truckState n .reachable 0 t.zone]) ++ [.zoneChange n t.zone z]))
    (headerMoved s n z t) := by
  rw [posted, List.foldl_append]
  exact ((headerHeard_keeps ht).trans (modTruck_keeps _ n _).to).post _

theorem takeHeader_moves {z : Nat} (h : 1 ≤ z ∧ z ≤ 250 ∧ t.zone ≠ some z) :
    takeHeader s n z = t.permitSlots.foldl evalSite (headerMoved s n z t) := by
  change takeZone (headerHeard s n) n z = _
  simp only [takeZone, truckOf_headerHeard_self ht, h, if_true, and_self, not_false_eq_true, ne_eq]
  change evalSlots (headerMoved s n z t) n = _
  simp only [evalSlots, truckOf_headerMoved ht, ht, Option.map_some, if_true]
  rfl

/-! ## A missed turn (R9) -/

theorem missedTurn_absent (h : t.reach = .absent) : missedTurn s n = s := by
  simp only [missedTurn, ht, h, if_true]

theorem missedTurn_counts (h : t.reach ≠ .absent) :
    let c := if t.miss < 6 then t.miss + 1 else 6
    missedTurn s n = setReach s n (if c = 6 then .lost else if 3 ≤ c then .missed else .reachable) c := by
  intro c
  have hc : min (t.miss + 1) 6 = c := by simp only [c]; split_ifs <;> omega
  have hle : c ≤ 6 := hc ▸ Nat.min_le_right _ _
  have hreach : reachAfterMiss t.reach c = if c = 6 then .lost else if 3 ≤ c then .missed else .reachable := by
    rw [reachAfterMiss, if_neg h]
    exact if_congr (by omega) rfl rfl
  simp only [missedTurn, ht, h, if_false, hc, hreach]

end

/-- Settles O46: the header by whether the zone changes, and a missed turn. -/
theorem headerAndMissedTurn : Obligations.HeaderAndMissedTurn := by
  unfold Obligations.HeaderAndMissedTurn
  refine fun s n t ht => ⟨fun z => ?_, missedTurn_absent ht, fun h => ?_⟩
  · dsimp only
    by_cases hmoves : 1 ≤ z ∧ z ≤ 250 ∧ t.zone ≠ some z
    · refine ⟨headerMoved s n z t, _, [.zoneChange n t.zone z], ?_, fun m hm => ?_, rfl,
        fun _ => ⟨rfl, takeHeader_moves ht hmoves⟩, fun hno => absurd hmoves hno, ?_⟩
      · rw [truckOf_headerMoved ht, ht, Option.map_some, if_pos rfl, if_pos ⟨hmoves.1, hmoves.2.1⟩]
      · rw [truckOf_headerMoved ht]
        simp [hm]
      · have hframe := eq_of_keeps_trucksArb (headerMoved_keeps ht z)
        rw [headerMoved_askArb ht] at hframe
        exact hframe
    · refine ⟨headerHeard s n, _, [], ?_, fun m hm => ?_, rfl, fun hyes => absurd hyes hmoves,
        fun _ => ⟨rfl, takeHeader_stays ht hmoves⟩, ?_⟩
      · have hzone : (if 1 ≤ z ∧ z ≤ 250 then some z else t.zone) = t.zone := by
          split_ifs with hz
          · by_contra hne
            exact hmoves ⟨hz.1, hz.2, fun he => hne he.symm⟩
          · rfl
        rw [truckOf_headerHeard_self ht, hzone]
      · rw [truckOf_headerHeard ht]
        simp [hm]
      · have hframe := eq_of_keeps_trucksArb (headerHeard_keeps ht)
        rw [headerHeard_askArb ht] at hframe
        rw [List.append_nil]
        exact hframe
  · intro c r
    exact ⟨_, missedTurn_counts ht h, truckOf_setReach_self ht r c, fun m hm => truckOf_setReach_ne ht r c hm,
      setReach_frame ht r c⟩

end Sys2Proof.Machine

/-!
PROOFS. What a frame's items and the outcomes of records leave alone: the clock, the air channel, the Load Meter and the
other fields outside the tables and the port.
-/
namespace Sys2Proof.Machine

-- The proofs are taken one after another: side by side they wait for each other in more threads than the check can hold.
set_option Elab.async false

theorem ite_keeps {l : List Field} {s u v : State} {P : Prop} [Decidable P] (hu : Keeps l s u) (hv : Keeps l s v) :
    Keeps l s (if P then u else v) := by
  split_ifs
  · exact hu
  · exact hv

section
variable (s : State)

theorem postCrew_keeps (b : NoticeBody) : Keeps crewFields s (post s b) := (post_keeps s b).to

/-! ## Contact (R47 to R57) -/

section
variable (n seat : Nat)

theorem warnToWatch_keeps (why : WatchReason) : Keeps crewFields s (warnToWatch s n seat why) := by
  unfold warnToWatch
  split
  · exact ite_keeps ((modWatch_keeps s n seat _).to.trans ((postWatchState_keeps _ n seat why).to.trans
      (removePrompt_keeps _ n seat _).to)) (.refl _ s)
  · exact .refl _ s

theorem restartUnderStaged_keeps : Keeps crewFields s (restartUnderStaged s n seat) :=
  (modWatch_keeps s n seat _).to.trans ((warnToWatch_keeps _ n seat _).trans ((modWatch_keeps _ n seat _).to.trans
    ((computeWatch_keeps _ n seat).to.trans (warnAtOnce_keeps _ n seat).to)))

theorem checkIn_keeps : Keeps crewFields s (checkIn s n seat) := by
  unfold checkIn
  split
  · split
    · exact (modWatch_keeps s n seat _).to
    · exact ite_keeps (restartUnderStaged_keeps s n seat) ((modWatch_keeps s n seat _).to.trans
        ((computeWatch_keeps _ n seat).to.trans ((warnToWatch_keeps _ n seat _).trans
          ((removePrompt_keeps _ n seat _).to.trans (warnAtOnce_keeps _ n seat).to))))
    · have hback (f : Watch → Watch) : Keeps crewFields s (warnToWatch (modWatch s n seat f) n seat .checkIn) :=
        (modWatch_keeps s n seat f).to.trans (warnToWatch_keeps _ n seat _)
      exact ite_keeps (restartUnderStaged_keeps s n seat)
        (ite_keeps ((hback _).trans (warnAtOnce_keeps _ n seat).to) (hback _))
  · exact .refl _ s

theorem motionStill_keeps : Keeps crewFields s (motionStill s n seat) := by
  unfold motionStill
  split
  · exact ite_keeps (modWatch_keeps s n seat _).to ((modWatch_keeps s n seat _).to.trans (warnAtOnce_keeps _ n seat).to)
  · exact .refl _ s

theorem motionMoving_keeps : Keeps crewFields s (motionMoving s n seat) := by
  unfold motionMoving
  split
  · split
    · exact (modWatch_keeps s n seat _).to.trans (warnToWatch_keeps _ n seat _)
    · exact (modWatch_keeps s n seat _).to
  · exact .refl _ s

theorem endTask_keeps : Keeps crewFields s (endTask s n seat) := by
  unfold endTask
  split
  · exact (modWatch_keeps s n seat _).to.trans ((removePrompt_keeps _ n seat _).to.trans (postCrew_keeps _ _))
  · exact .refl _ s

theorem contactLatched_keeps (item : ItemKind) : Keeps crewFields s (contactLatched s n seat item) :=
  (modWatch_keeps s n seat _).to.trans ((postCrew_keeps _ _).trans (assistFor_keeps _ n).to)

theorem recover_keeps (item : ItemKind) : Keeps crewFields s (recover s n seat item) :=
  (modWatch_keeps s n seat _).to.trans ((computeWatch_keeps _ n seat).to.trans ((postCrew_keeps _ _).trans
    ((removePrompt_keeps _ n seat _).to.trans ((assistFor_keeps _ n).to.trans (warnAtOnce_keeps _ n seat).to))))

theorem takeRunning_keeps (item : ItemKind) (still : Bool) : Keeps crewFields s (takeRunning s n seat item still) := by
  unfold takeRunning
  split
  · split
    · exact checkIn_keeps s n seat
    · split
      · exact endTask_keeps s n seat
      · exact checkIn_keeps s n seat
    · split
      · exact ite_keeps (motionStill_keeps s n seat) (motionMoving_keeps s n seat)
      · exact .refl _ s
    · exact .refl _ s
  · exact .refl _ s

theorem contactAfterAlarm_keeps (item : ItemKind) (still : Bool) :
    Keeps crewFields s (contactAfterAlarm s n seat item still) := by
  unfold contactAfterAlarm
  split
  · split
    · exact contactLatched_keeps s n seat item
    · exact (recover_keeps s n seat item).trans (takeRunning_keeps _ n seat item still)
  · exact .refl _ s

theorem deadlineAlarm_keeps : Keeps crewFields s (deadlineAlarm s n seat) := by
  unfold deadlineAlarm
  split
  · exact (enterAlarm_keeps s n seat _).to
  · exact .refl _ s

theorem takeContact_keeps (item : ItemKind) (still : Bool) : Keeps crewFields s (takeContact s n seat item still) := by
  unfold takeContact
  split
  · split
    · split
      · exact .refl _ s
      · exact contactAfterAlarm_keeps s n seat item still
      · exact ite_keeps ((deadlineAlarm_keeps s n seat).trans (contactAfterAlarm_keeps _ n seat item still))
          (takeRunning_keeps s n seat item still)
    · exact .refl _ s
  · exact .refl _ s

theorem takeEmergency_keeps : Keeps crewFields s (takeEmergency s n seat) := by
  unfold takeEmergency
  dsimp only
  split
  · split
    · exact (modWatch_keeps s n _ _).to.trans (contactLatched_keeps _ n _ _)
    · exact (modWatch_keeps s n _ _).to.trans (enterAlarm_keeps _ n _ _).to
  · exact .refl _ s

end

/-! ## Order replies (R26 to R29) -/

section
variable (n t : Nat)

theorem tellLate_keeps (d : Disposition) : Keeps crewFields s (tellLate s n t d) := by
  unfold tellLate
  split
  · exact ite_keeps (.refl _ s) (ite_keeps ((takeOrderSlot_keeps s t n).to.trans (giveOrder_keeps _ t n d _).to) (.refl _ s))
  · exact .refl _ s

theorem replyAccept_keeps : Keeps crewFields s (replyAccept s n t) := by
  unfold replyAccept
  split
  · exact postCrew_keeps s _
  · exact ite_keeps ((modOrder_keeps s n _).to.trans ((postOrderState_keeps _ n).to.trans (updateOrderRec_keeps _ t n _).to))
      (ite_keeps (.refl _ s) ((postCrew_keeps s _).trans (tellLate_keeps _ n t _)))

theorem replyDecline_keeps : Keeps crewFields s (replyDecline s n t) := by
  unfold replyDecline
  split
  · exact postCrew_keeps s _
  · exact ite_keeps ((backToQueued_keeps s n).to.trans ((freeOrderSlot_keeps _ t n).to.trans ((dropRec_keeps _ t _).to.trans
      (rollover_keeps _ n).to))) (postCrew_keeps s _)

theorem applyProfile_keeps (order : Nat) (p : Profile) : Keeps crewFields s (applyProfile s n order p) := by
  unfold applyProfile
  split
  · exact ite_keeps ((modWatch_keeps s n _ _).to.trans (startContext_keeps _ n _ _ _).to) (modWatch_keeps s n _ _).to
  · exact .refl _ s

theorem onSite_keeps : Keeps crewFields s (onSite s n t) := by
  unfold onSite
  split
  · exact applyProfile_keeps s t n _
  · exact .refl _ s

theorem replyProgress_keeps (st : OrderState) (c : ReplyCode) : Keeps crewFields s (replyProgress s n t st c) := by
  have hmoved : Keeps crewFields s (updateOrderRec (postOrderState (modOrder s n fun o => { o with state := st }) n) t n .held) :=
    (modOrder_keeps s n _).to.trans ((postOrderState_keeps _ n).to.trans (updateOrderRec_keeps _ t n _).to)
  unfold replyProgress
  split
  · exact postCrew_keeps s _
  · exact ite_keeps (ite_keeps (ite_keeps (hmoved.trans (onSite_keeps _ n t)) hmoved)
      (ite_keeps (.refl _ s) (postCrew_keeps s _))) (postCrew_keeps s _)

theorem replyComplete_keeps : Keeps crewFields s (replyComplete s n t) := by
  unfold replyComplete
  split
  · exact postCrew_keeps s _
  · refine ite_keeps ?_ (ite_keeps (.refl _ s) (postCrew_keeps s _))
    split
    · exact (giveOrder_keeps s t n _ _).to.trans (postCrew_keeps _ _)
    · exact (modOrder_keeps s n _).to.trans ((postOrderState_keeps _ n).to.trans ((freeOrderSlot_keeps _ t n).to.trans
        ((dropRec_keeps _ t _).to.trans (stopForOrder_keeps _ t n).to)))

theorem orderReply_keeps (c : ReplyCode) : Keeps crewFields s (orderReply s n t c) := by
  cases c with
  | accept => exact replyAccept_keeps s n t
  | decline => exact replyDecline_keeps s n t
  | enRoute => exact replyProgress_keeps s n t _ _
  | onSite => exact replyProgress_keeps s n t _ _
  | complete => exact replyComplete_keeps s n t

end

/-! ## Permits and steps (R74 to R77, R92 to R108) -/

section
variable (n : Nat) (i : StepId)

theorem stateEntered_keeps (st : PermitState) : Keeps crewFields s (postPermitState (givePermit (setPermitState s n st) n) n) :=
  (setPermitState_keeps s n st).to.trans ((givePermit_keeps _ n).to.trans (postPermitState_keeps _ n).to)

theorem enterIsolating_keeps : Keeps crewFields s (enterIsolating s n) :=
  (setPermitState_keeps s n _).to.trans ((evalSite_keeps _ n).to.trans ((givePermit_keeps _ n).to.trans
    (postPermitState_keeps _ n).to))

theorem closedEntered_keeps : Keeps crewFields s (enterClosed s n) :=
  (releaseHolds_keeps s n).to.trans ((modPermit_keeps _ n _).to.trans ((giveFinal_keeps _ n).to.trans
    (postPermitState_keeps _ n).to))

theorem afterDone_keeps : Keeps crewFields s (afterDone s n) := by
  unfold afterDone
  split
  · exact ite_keeps (stateEntered_keeps s n _) (ite_keeps (closedEntered_keeps s n) (.refl _ s))
  · exact .refl _ s

theorem refuseAsk_keeps (t : Nat) (why : Reason) : Keeps crewFields s (refuseAsk s t n i why) := by
  have hreason : Keeps crewFields s (reasonLeft s t n i why) := (reasonLeft_keeps s t n i why).to
  rw [refuseAsk_eq]
  exact ite_keeps (hreason.trans (postCrew_keeps _ _))
    (ite_keeps (hreason.trans (give_keeps _ _ _).to) (hreason.trans (postCrew_keeps _ _)))

theorem grantAsk_keeps (p : Permit) (x : StepRec) : Keeps crewFields s (grantAsk s p i x) :=
  ite_keeps (placeGrant_keeps s p i x).to (postCrew_keeps s _)

theorem holdAsk_keeps (p : Permit) (x : StepRec) : Keeps crewFields s (holdAsk s p i x) :=
  ite_keeps (refuseAsk_keeps s _ i _ _) (ite_keeps ((give_keeps s _ _).to.trans ((asks_keeps _ _).to.trans
    ((modStep_keeps _ _ i _).to.trans (postCrew_keeps _ _)))) (postCrew_keeps s _))

theorem repeatHeld_keeps (p : Permit) : Keeps crewFields s (repeatHeld s p i) := ite_keeps (.refl _ s) (give_keeps s _ _).to

theorem stepAsk_keeps (t point action : Nat) : Keeps crewFields s (stepAsk s t n i point action) := by
  have hrefused (why : Reason) := refuseAsk_keeps s n i t why
  unfold stepAsk
  split
  · exact hrefused _
  · split
    · exact hrefused _
    · iterate 4 refine ite_keeps (hrefused _) ?_
      split
      · exact repeatHeld_keeps s i _
      · split
        · exact hrefused _
        · exact ite_keeps (holdAsk_keeps s i _ _) (grantAsk_keeps s i _ _)
      · exact .refl _ s

variable (x : StepRec) (pos : Position) (revoked : Bool)

theorem postRevoke_keeps : Keeps crewFields s (postRevoke s n i x pos revoked) := by
  unfold postRevoke
  split
  · exact ite_keeps (postCrew_keeps s _) (.refl _ s)
  · exact .refl _ s

theorem endStep_keeps : Keeps crewFields s (endStep s n i x pos revoked) := by
  have hend (u : State) (b : NoticeBody) : Keeps crewFields u (afterDone (postRevoke (post u b) n i x pos revoked) n) :=
    (postCrew_keeps u b).trans ((postRevoke_keeps _ n i x pos revoked).trans (afterDone_keeps _ n))
  refine ite_keeps ?_ ?_
  · exact (setReported_keeps s _ n i pos _).to.trans ((modStep_keeps _ n i _).to.trans ((placeHold_keeps _ n i x).to.trans
      ((weigh_keeps _ _ _).to.trans (hend _ _))))
  · exact (setReported_keeps s _ n i pos _).to.trans ((addCause_keeps _ n _).to.trans ((weigh_keeps _ _ _).to.trans
      ((modStep_keeps _ n i _).to.trans (hend _ _))))

theorem doneAfterRevoke_keeps (p : Permit) : Keeps crewFields s (doneAfterRevoke s p i x pos) := by
  unfold doneAfterRevoke
  split
  · exact (withdrawStep_keeps s p i x).to.trans (endStep_keeps _ _ i x pos true)
  · split
    · exact (modPoint_keeps s _ _).to.trans ((weigh_keeps _ _ _).to.trans (postCrew_keeps _ _))
    · exact .refl _ s

theorem stepDone_keeps (t code : Nat) : Keeps crewFields s (stepDone s t n i code) := by
  unfold stepDone
  split
  · exact postCrew_keeps s _
  · refine ite_keeps (postCrew_keeps s _) ?_
    split
    · exact postCrew_keeps s _
    · split_ifs
      · exact .refl _ s
      · exact endStep_keeps s n i _ _ _
      · exact doneAfterRevoke_keeps s i _ _ _
      · exact postCrew_keeps s _

theorem permitAccept_keeps (t : Nat) : Keeps crewFields s (permitAccept s t n) := by
  unfold permitAccept
  split
  · exact postCrew_keeps s _
  · refine ite_keeps (postCrew_keeps s _) ?_
    split
    · exact enterIsolating_keeps s n
    · exact postCrew_keeps s _
    · exact postCrew_keeps s _
    · exact .refl _ s

theorem workDone_keeps (t : Nat) : Keeps crewFields s (workDone s t n) := by
  have hrestoring : Keeps crewFields s (enterRestoring s n) := stateEntered_keeps s n _
  unfold workDone
  split
  · exact postCrew_keeps s _
  · refine ite_keeps (postCrew_keeps s _) ?_
    split
    · exact ite_keeps (postCrew_keeps s _) (ite_keeps (hrestoring.trans (closedEntered_keeps _ n)) hrestoring)
    · exact .refl _ s
    · exact .refl _ s
    · exact postCrew_keeps s _

end

/-! ## Outcomes (R121 to R127) -/

section
variable (t : Nat)

theorem permitOutcome_keeps (c : PermitContent) : Keeps crewFields s (permitOutcome s t c) :=
  ite_keeps (.refl _ s) (freePermitSlot_keeps s t _).to

theorem grantAcknowledged_keeps (c : AnswerContent) : Keeps crewFields s (grantAcknowledged s c) := by
  unfold grantAcknowledged
  dsimp only
  split
  · exact ite_keeps ((modStep_keeps s _ _ _).to.trans (releaseHold_keeps _ _ _).to) (modStep_keeps s _ _ _).to
  · exact (modStep_keeps s _ _ _).to

theorem orderAcknowledged_keeps (c : OrderContent) : Keeps crewFields s (orderAcknowledged s t c) := by
  unfold orderAcknowledged
  split
  · exact ite_keeps (freeOrderSlot_keeps s t _).to (.refl _ s)
  · exact ite_keeps (freeOrderSlot_keeps s t _).to (.refl _ s)
  · exact .refl _ s

theorem orderUndeliverable_keeps (c : OrderContent) : Keeps crewFields s (orderUndeliverable s t c) := by
  unfold orderUndeliverable
  split
  · exact .refl _ s
  · split
    · exact (freeOrderSlot_keeps s t _).to
    · exact (freeOrderSlot_keeps s t _).to
    · exact .refl _ s
    · exact ite_keeps ((backToQueued_keeps s _).to.trans ((freeOrderSlot_keeps _ t _).to.trans (rollover_keeps _ _).to)) (.refl _ s)

theorem ownerAcknowledged_keeps (seq : Nat) (c : Content) : Keeps crewFields s (ownerAcknowledged s t seq c) := by
  cases c with
  | order c => exact orderAcknowledged_keeps s t c
  | permit c => exact permitOutcome_keeps s t c
  | answer c => exact ite_keeps (grantAcknowledged_keeps s c) (.refl _ s)
  | text x => exact postCrew_keeps s _
  | _ => exact .refl _ s

theorem ownerLost_keeps (c : Content) : Keeps crewFields s (ownerLost s t c) := by
  cases c with
  | order c => exact orderUndeliverable_keeps s t c
  | permit c => exact permitOutcome_keeps s t c
  | answer c => exact ite_keeps (grantLost_keeps s c).to (.refl _ s)
  | _ => exact .refl _ s

theorem takeAck_keeps (seq : Nat) : Keeps crewFields s (takeAck t s seq) := by
  unfold takeAck
  split
  · exact (dropRec_keeps s t _).to.trans (ownerAcknowledged_keeps _ t seq _)
  · exact .refl _ s

theorem takeAcks_keeps (acks : List Nat) : Keeps crewFields s (takeAcks s t acks) :=
  Keeps.foldl (fun u seq => takeAck_keeps u t seq) acks s

theorem loseRec_keeps (r : Rec) (why : LossReason) (m : Nat) : Keeps crewFields s (loseRec s t r why m) :=
  (dropRec_keeps s t _).to.trans ((postCrew_keeps _ _).trans (ownerLost_keeps _ t _))

theorem endTurnRec_keeps (seq : Nat) : Keeps crewFields s (endTurnRec t s seq) := by
  unfold endTurnRec
  split
  · exact ite_keeps ((askArb_keeps s true).to.trans (loseRec_keeps _ t _ _ _))
      ((modTruck_keeps s t _).to.trans (askArb_keeps _ true).to)
  · exact .refl _ s

theorem endTurnQueue_keeps : Keeps crewFields s (endTurnQueue s t) := by
  unfold endTurnQueue
  split
  · exact Keeps.foldl (fun u seq => endTurnRec_keeps u t seq) _ s
  · exact .refl _ s

end

/-! ## Frames (R138, R144, R145) -/

/-- The fields a frame's items change: the tables, the port and the count of skipped items. -/
def frameFields : List Field := .air :: crewFields

section
variable (n : Nat)

theorem skipItem_keeps : Keeps frameFields s (skipItem s) := (air_keeps s _).to

theorem dispatch_keeps (x : Item) : Keeps frameFields s (dispatch n s x) := by
  cases x with
  | register => exact .refl _ s
  | checkIn seat => exact (takeContact_keeps s n seat _ _).to
  | motion seat value =>
    exact ite_keeps (takeContact_keeps s n seat _ _).to (ite_keeps (takeContact_keeps s n seat _ _).to (skipItem_keeps s))
  | taskDone seat => exact (takeContact_keeps s n seat _ _).to
  | emergency seat => exact (takeEmergency_keeps s n seat).to
  | orderReply order code =>
    simp only [dispatch]
    split
    · exact (orderReply_keeps s order n _).to
    · exact skipItem_keeps s
  | permitAccept permit => exact (permitAccept_keeps s permit n).to
  | workDone permit => exact (workDone_keeps s permit n).to
  | stepAsk permit step point action => exact (stepAsk_keeps s permit step n point action).to
  | stepDone permit step position => exact (stepDone_keeps s permit step n position).to
  | other _ _ => exact skipItem_keeps s

theorem dispatchAll_keeps (items : List Item) : Keeps frameFields s (dispatchAll n s items) :=
  Keeps.foldl (fun u x => dispatch_keeps u n x) items s

theorem joinUplink_keeps (uplink : Nat) : Keeps [.trucks] s (joinUplink s n uplink) := modTruck_keeps s n _

theorem takeBurst_keeps (h : Header) (items : List Item) : Keeps frameFields s (takeBurst s h items) := by
  unfold takeBurst
  split
  · exact (takeHeader_keeps s _ _).to.trans ((joinUplink_keeps _ _ _).to.trans (dispatchAll_keeps _ _ items))
  · exact ite_keeps (post_keeps s _).to (.refl _ s)

theorem replyStages_keeps (h : Header) (acks : List Nat) (items : List Item) :
    Keeps frameFields s (replyStages s h acks items) :=
  (takeHeader_keeps s _ _).to.trans ((takeAcks_keeps _ _ acks).to.trans ((endTurnQueue_keeps _ _).to.trans
    ((air_keeps _ _).to.trans ((joinUplink_keeps _ _ _).to.trans (dispatchAll_keeps _ _ items)))))

end
end

end Sys2Proof.Machine

/-!
PROOFS. What the Scheduler's operations do besides their turn: the clock and the busy time stand, and a turn that was not in
flight before has its window ahead (R137).
-/
namespace Sys2Proof.Machine

-- The proofs are taken one after another: side by side they wait for each other in more threads than the check can hold.
set_option Elab.async false

/-- From `s` to `u` clock and busy time stand, and a turn in flight is the one of before or opens later than now. -/
structure Schedules (s u : State) : Prop where
  clock : u.clock = s.clock
  busy : u.load.busy = s.load.busy
  turn : ∀ y, u.air.turn = some y → s.air.turn = some y ∨ (s.nowMs < y.winOpen ∧ y.winOpen ≤ y.winClose)

theorem nowMs_of_clock {s u : State} (h : u.clock = s.clock) : u.nowMs = s.nowMs := by
  unfold State.nowMs
  rw [h]

namespace Schedules

theorem refl (s : State) : Schedules s s := ⟨rfl, rfl, fun _ h => .inl h⟩

theorem nowMs {s u : State} (h : Schedules s u) : u.nowMs = s.nowMs := nowMs_of_clock h.clock

theorem trans {s u v : State} (h : Schedules s u) (h' : Schedules u v) : Schedules s v where
  clock := h'.clock.trans h.clock
  busy := h'.busy.trans h.busy
  turn := fun y hy => (h'.turn y hy).elim (h.turn y) fun hy => .inr (h.nowMs ▸ hy)

theorem of_air {s u : State} {l : List Field} (h : Keeps l s u) (hturn : u.air.turn = s.air.turn)
    (hl : .clock ∉ l ∧ .load ∉ l := by decide) : Schedules s u where
  clock := h .clock hl.1
  busy := congrArg Load.busy (h .load hl.2)
  turn := fun _ hy => .inl (hturn ▸ hy)

theorem of_keeps {s u : State} {l : List Field} (h : Keeps l s u) (hl : .clock ∉ l ∧ .load ∉ l ∧ .air ∉ l := by decide) :
    Schedules s u := of_air h (congrArg Air.turn (h .air hl.2.2)) ⟨hl.1, hl.2.1⟩

theorem ite {s u v : State} {P : Prop} [Decidable P] (hu : Schedules s u) (hv : Schedules s v) :
    Schedules s (if P then u else v) := by
  split_ifs
  · exact hu
  · exact hv

end Schedules

/-- A change of the air channel that keeps the turn. -/
theorem air_schedules (s : State) (a : Air) (h : a.turn = s.air.turn := by rfl) : Schedules s { s with air := a } :=
  .of_air (air_keeps s a) h

theorem handOver_schedules (s : State) (f : DownFrame) (octets : Nat) : Schedules s (handOver s f octets) :=
  ⟨rfl, rfl, fun _ h => .inl h⟩

theorem beginTurn_schedules (s : State) (n : Nat) (kind : TurnKind) : Schedules s (beginTurn s n kind) := by
  unfold beginTurn
  cases ht : truckOf s n with
  | none => exact .refl s
  | some t =>
    have hsent := (modTruck_keeps s n fun t =>
      { t with queue := markLeading (leading s.air.budget t.queue) t.queue, upAcks := [] }).to.trans
        ((reportSent_keeps _ (turnRecs t s.air.budget)).to (l := [.trucks, .permits]))
    have hbusy := congrArg Load.busy (hsent .load (by decide))
    refine ⟨hsent .clock (by decide), hbusy, fun y hy => .inr ?_⟩
    obtain rfl := Option.some.inj hy
    simp only [airtime]
    omega

theorem askInGap_schedules (s : State) : Schedules s (askInGap s) := by
  unfold askInGap
  split
  · exact beginTurn_schedules s _ _
  · exact .refl s

theorem enterGap_schedules (s : State) : Schedules s (enterGap s) := (air_schedules s _).trans (askInGap_schedules _)

theorem enterWindow_schedules {past : State → State} (h : ∀ u, Schedules u (past u)) (s : State) :
    Schedules s (enterWindow past s) :=
  .ite (h s) ((handOver_schedules s _ 8).trans (air_schedules _ _))

theorem takeEntries_schedules {past : State → State} (h : ∀ u, Schedules u (past u)) (l : List ListEntry) (s : State) :
    Schedules s (takeEntries past l s) := by
  induction l with
  | nil => exact (air_schedules s _).trans (enterWindow_schedules h _)
  | cons e l ih => exact .ite ih ((air_schedules s _).trans (beginTurn_schedules _ _ _))

theorem startCycle_schedules (first : Bool) (s : State) : Schedules s (startCycle first s) := by
  refine Schedules.trans ?_ (takeEntries_schedules enterGap_schedules _ _)
  exact ⟨rfl, rfl, fun _ h => .inl h⟩

theorem pastWindow_schedules (s : State) : Schedules s (pastWindow s) :=
  .ite (startCycle_schedules false s) (enterGap_schedules s)

theorem goOn_schedules (s : State) : Schedules s (goOn s) := by
  unfold goOn
  split
  · have hentries : Schedules s (takeEntries pastWindow s.air.list s) := takeEntries_schedules pastWindow_schedules _ s
    refine .ite ?_ hentries
    split
    · exact (air_schedules s _).trans (beginTurn_schedules _ _ _)
    · exact hentries
  · exact .refl s
  · exact .ite (startCycle_schedules false s) (askInGap_schedules s)

theorem settleEvent_schedules (s : State) : Schedules s (settleEvent s) := by
  have hasked : Schedules s { s with askArb := false } := .of_keeps (askArb_keeps s false)
  exact .ite (hasked.trans (.ite (askInGap_schedules _) (.refl _))) hasked

/-- With a turn in flight the end of an event leaves it. -/
theorem settleEvent_turn {s : State} (h : s.air.turn.isSome = true) : (settleEvent s).air.turn = s.air.turn := by
  have hidle : askIfIdle { s with askArb := false } = { s with askArb := false } := by
    refine if_neg fun hgap => ?_
    rw [show s.air.turn = none from hgap.2] at h
    exact absurd h (by decide)
  unfold settleEvent
  dsimp only
  rw [hidle, ite_self]

/-! ## The window closing (R139) -/

/-- The state behind a missed turn, before the Scheduler goes on (R139). -/
def turnMissed (s : State) (x : Turn) : State :=
  { missedTurn (clearTurn (endTurnQueue s x.truck)) x.truck with
    air := { (missedTurn (clearTurn (endTurnQueue s x.truck)) x.truck).air with
      missedTurns := bump (missedTurn (clearTurn (endTurnQueue s x.truck)) x.truck).air.missedTurns } }

theorem closeWindow_eq (s : State) (x : Turn) :
    closeWindow s x = goOn (if x.abandoned = true then clearTurn s else turnMissed s x) := by
  unfold closeWindow turnMissed
  split_ifs <;> rfl

theorem turnMissed_keeps (s : State) (x : Turn) : Keeps frameFields s (turnMissed s x) :=
  (endTurnQueue_keeps s x.truck).to.trans ((air_keeps _ _).to.trans ((missedTurn_keeps _ x.truck).to.trans (air_keeps _ _).to))

/-- The air channel behind a missed turn (R139). -/
theorem turnMissed_air (s : State) (x : Turn) : (turnMissed s x).air =
    { s.air with turn := none, missedTurns := min (s.air.missedTurns + 1) 65535 } := by
  have hmissed : (missedTurn (clearTurn (endTurnQueue s x.truck)) x.truck).air = { s.air with turn := none } :=
    (missedTurn_keeps _ x.truck .air (by decide)).trans
      (congrArg (fun a : Air => { a with turn := none }) (endTurnQueue_keeps s x.truck .air (by decide)))
  unfold turnMissed
  simp only [hmissed]
  rfl

theorem windowClosed_keeps (s : State) (x : Turn) :
    Keeps frameFields s (if x.abandoned = true then clearTurn s else turnMissed s x) :=
  ite_keeps (air_keeps s _).to (turnMissed_keeps s x)

theorem windowClosed_turn (s : State) (x : Turn) : (if x.abandoned = true then clearTurn s else turnMissed s x).air.turn = none := by
  split_ifs
  · rfl
  · rw [turnMissed_air]

/-- A turn in flight once a window has closed is one begun in that event. -/
theorem closed_turn (s : State) (x : Turn) {y : Turn} (hy : (settleEvent (closeWindow s x)).air.turn = some y) :
    s.nowMs < y.winOpen ∧ y.winOpen ≤ y.winClose := by
  rw [closeWindow_eq] at hy
  have hafter := ((goOn_schedules _).trans (settleEvent_schedules _)).turn y hy
  rw [windowClosed_turn s x] at hafter
  have hnow : (if x.abandoned = true then clearTurn s else turnMissed s x).nowMs = s.nowMs :=
    nowMs_of_clock (windowClosed_keeps s x .clock (by decide))
  rw [hnow] at hafter
  exact hafter.resolve_left (by simp)

end Sys2Proof.Machine

/-!
PROOFS. Decoded frames (R138, R140, R144, R8, R163): a REPLY that ends a turn, a burst, a late REPLY, and their airtime.
-/
namespace Sys2Proof.Machine

-- The proofs are taken one after another: side by side they wait for each other in more threads than the check can hold.
set_option Elab.async false

theorem routeOctets_eq (l : List Nat) : routeOctets l = if l = [] then 0 else 1 + l.length := by cases l <;> rfl

/-! ## The window closing as a command (R139) -/

section
variable {s : State} (h : Live s)
include h

theorem exec_windowClosing_idle (hidle : ∀ x, s.air.turn = some x → s.nowMs < x.winClose) :
    exec .windowClosing s = .next s := by
  change execWindowClosing s = _
  unfold execWindowClosing
  rw [event_live _ h.1]
  cases hx : s.air.turn with
  | none => simp only [settleEvent_of_quiet h.2]
  | some x =>
    have hearly := hidle x hx
    simp only [show ¬x.winClose ≤ s.nowMs by omega, if_false, settleEvent_of_quiet h.2]

theorem exec_windowClosing {x : Turn} (hx : s.air.turn = some x) (hclosed : x.winClose ≤ s.nowMs) :
    exec .windowClosing s = .next (settleEvent (closeWindow s x)) := by
  change execWindowClosing s = _
  unfold execWindowClosing
  rw [event_live _ h.1]
  simp only [hx, hclosed, if_true]

end

/-! ## A decoded REPLY and BURST (R138, R144) -/

section
variable {s : State} (h : s.held = false) (hdr : Header) (acks : List Nat) (items : List Item)
include h

theorem exec_reply : exec (.reply hdr acks items) s = .next (settleEvent
    (takeReply (countUplink (expireFirst s hdr) (replyOctets hdr acks items)) hdr acks items)) :=
  event_live (fun s => takeReply (countUplink (expireFirst s hdr) (replyOctets hdr acks items)) hdr acks items) h

theorem exec_burst (item : Item) : exec (.burst hdr item) s = .next (settleEvent
    (takeBurst (countUplink s (burstOctets hdr item)) hdr [item])) :=
  event_live (fun s => takeBurst (countUplink s (burstOctets hdr item)) hdr [item]) h

end

section
variable {s : State} {hdr : Header}

theorem expireFirst_early (h : ∀ x, s.air.turn = some x → x.truck = hdr.truck → s.nowMs < x.winClose) :
    expireFirst s hdr = s := by
  unfold expireFirst
  cases hx : s.air.turn with
  | none => rfl
  | some x => exact if_neg fun hlate => absurd (h x hx hlate.1) (by omega)

theorem expireFirst_late {x : Turn} (hx : s.air.turn = some x) (htruck : x.truck = hdr.truck) (hclosed : x.winClose ≤ s.nowMs) :
    expireFirst s hdr = settleEvent (closeWindow s x) := by
  simp only [expireFirst, hx, htruck, hclosed, and_self, if_true]

theorem endsTurn_some {x : Turn} (hx : s.air.turn = some x) (htruck : x.truck = hdr.truck) (hopen : x.winOpen ≤ s.nowMs)
    (hclose : s.nowMs < x.winClose) : endsTurn s hdr = some x := by
  simp only [endsTurn, hx, htruck, hopen, hclose, and_self, if_true]

theorem endsTurn_none (h : ∀ x, s.air.turn = some x → x.truck ≠ hdr.truck ∨ s.nowMs < x.winOpen) : endsTurn s hdr = none := by
  unfold endsTurn
  cases hx : s.air.turn with
  | none => rfl
  | some x => exact if_neg fun hends => (h x hx).elim (fun hne => hne hends.1) fun hearly => absurd hends.2.1 (by omega)

/-- A burst at the end of its event (R8, R144). -/
theorem settle_takeBurst (hquiet : s.askArb = false) (items : List Item) : settleEvent (takeBurst s hdr items) =
    if (truckOf s hdr.truck).isSome = true then
      settleEvent (items.foldl (dispatch hdr.truck) (joinUplink (takeHeader s hdr.truck hdr.zone) hdr.truck hdr.uplink))
    else if Item.register ∈ items then posted s [.unknownTruck hdr.truck hdr.zone] else s := by
  cases ht : truckOf s hdr.truck with
  | some t =>
    simp only [takeBurst, ht, Option.isSome_some, if_true]
    rfl
  | none =>
    have hsame : (unknownFrame s hdr items).askArb = false := by
      unfold unknownFrame
      split_ifs
      · exact (post_keeps s _ .askArb (by decide)).trans hquiet
      · exact hquiet
    simp only [takeBurst, ht, Option.isSome_none, Bool.false_eq_true, if_false]
    rw [settleEvent_of_quiet hsame]
    simp only [unknownFrame, List.contains_iff_mem]
    rfl

theorem takeReply_ends {x : Turn} (h : endsTurn s hdr = some x) {acks : List Nat} {items : List Item} :
    takeReply s hdr acks items = goOn (if x.abandoned = true then clearTurn s else replyStages s hdr acks items) := by
  simp only [takeReply, h]

theorem takeReply_burst (h : endsTurn s hdr = none) {acks : List Nat} {items : List Item} :
    takeReply s hdr acks items = takeBurst s hdr items := by
  simp only [takeReply, h]

theorem takeReply_busy (acks : List Nat) (items : List Item) : (takeReply s hdr acks items).load.busy = s.load.busy := by
  unfold takeReply
  split
  · refine (goOn_schedules _).busy.trans ?_
    split_ifs
    · rfl
    · exact congrArg Load.busy (replyStages_keeps s hdr acks items .load (by decide))
  · exact congrArg Load.busy (takeBurst_keeps s hdr items .load (by decide))

end

/-- The busy time with a frame's airtime, no frame of the part's own on the air (R163). -/
theorem countUplink_busy {s : State} (h : s.load.sent = []) (n : Nat) : (countUplink s n).load.busy =
    s.load.busy + (25 + (n * 8000 + s.air.rate - 1) / s.air.rate) := by
  simp only [countUplink, Load.uplink, Load.settle, h]
  rfl

theorem closeWindow_clock (s : State) (x : Turn) : (settleEvent (closeWindow s x)).clock = s.clock := by
  rw [closeWindow_eq]
  exact (settleEvent_keeps _ .clock (by decide)).trans ((goOn_keeps _ .clock (by decide)).trans
    (windowClosed_keeps s x .clock (by decide)))

theorem closeWindow_held (s : State) (x : Turn) : (settleEvent (closeWindow s x)).held = s.held := by
  rw [closeWindow_eq]
  exact (settleEvent_keeps _ .held (by decide)).trans ((goOn_keeps _ .held (by decide)).trans
    (windowClosed_keeps s x .held (by decide)))

/-! ## Items (R145) -/

theorem replyCodeOf_eq (n : Nat) : replyCodeOf n = [ReplyCode.accept, .decline, .enRoute, .onSite, .complete][n]? := by
  match n with
  | 0 | 1 | 2 | 3 | 4 => rfl
  | _ + 5 => rfl

theorem dispatch_orderReply (s : State) (n order code : Nat) {c : ReplyCode} (h : replyCodeOf code = some c) :
    dispatch n s (.orderReply order code) = orderReply s order n c := by simp only [dispatch, h]

theorem dispatch_orderReply_skipped (s : State) (n order code : Nat) (h : replyCodeOf code = none) :
    dispatch n s (.orderReply order code) = skipItem s := by simp only [dispatch, h]

theorem dispatch_motion_skipped (s : State) (n seat v : Nat) (h : 2 ≤ v) : dispatch n s (.motion seat v) = skipItem s := by
  simp only [dispatch, show v ≠ 0 by omega, show v ≠ 1 by omega, if_false]

/-- The acknowledgement list with an uplink number joined (R132). -/
def Truck.withUplink (uplink : Nat) (t : Truck) : Truck := { t with upAcks :=
  if uplink ∈ t.upAcks then t.upAcks else if t.upAcks.length < 4 then t.upAcks ++ [uplink] else t.upAcks.tail ++ [uplink] }

theorem joinUplink_eq (s : State) (n uplink : Nat) : joinUplink s n uplink = modTruck s n (Truck.withUplink uplink) := by
  unfold joinUplink
  refine congrArg (modTruck s n) (funext fun t => ?_)
  simp only [Truck.withUplink, List.contains_iff_mem, List.drop_one]
  split_ifs <;> rfl

/-- Settles O47: items, lengths, airtime, and frames by the turn in flight. -/
theorem framesAreTakenAtDecoding : Obligations.FramesAreTakenAtDecoding := by
  unfold Obligations.FramesAreTakenAtDecoding
  refine ⟨fun s n => ?items, fun item => ?_, fun s n => rfl, fun s n uplink t ht => ?_, fun s hdr acks items item h => ?_⟩
  case items =>
    refine ⟨rfl, fun _ => rfl, fun _ => rfl, fun _ => rfl, fun seat v hv => dispatch_motion_skipped s n seat v hv, fun _ => rfl,
      fun _ => rfl, fun order code c hc => dispatch_orderReply s n order code ((replyCodeOf_eq code).trans hc),
      fun order code hcode => dispatch_orderReply_skipped s n order code ?_, fun _ => rfl, fun _ => rfl, fun _ _ _ _ => rfl,
      fun _ _ _ => rfl, fun _ _ => rfl⟩
    rw [replyCodeOf_eq]
    exact List.getElem?_eq_none hcode
  · cases item <;> rfl
  · have hjoin (m : Nat) := truckOf_modTruck s n m (Truck.withUplink uplink) fun _ h => h
    refine ⟨_, joinUplink_eq s n uplink, ?_, fun m hm => ?_, rfl⟩
    · rw [hjoin, ht, Option.map_some, if_pos rfl]
      rfl
    · rw [hjoin]
      simp [hm]
  · intro route replyLength burstLength air burstOf unknown
    have hreply : replyOctets hdr acks items = replyLength := by rw [replyOctets, routeOctets_eq]
    have hburst : burstOctets hdr item = burstLength := by rw [burstOctets, routeOctets_eq]
    have hexecReply := exec_reply h.1 hdr acks items
    have hexecBurst := exec_burst h.1 hdr item
    rw [hreply] at hexecReply
    rw [hburst] at hexecBurst
    refine ⟨fun x hx htruck hopen hclose => ⟨_, rfl, ?ends⟩, fun x v hx htruck hclosed hv => ?late, fun hother => ?burst, ?_,
      fun t ht hturn => ?kept, fun t ht hsent hearly => ?_, fun t ht hsent => ?_⟩
    case ends =>
      have hsame : expireFirst s hdr = s := expireFirst_early fun y hy _ => by rwa [← Option.some.inj (hx.symm.trans hy)]
      have hends : endsTurn (countUplink s replyLength) hdr = some x := endsTurn_some hx htruck hopen hclose
      rw [hsame, takeReply_ends hends] at hexecReply
      by_cases habandoned : x.abandoned = true
      · rw [if_pos habandoned] at hexecReply ⊢
        exact hexecReply
      · rw [if_neg habandoned] at hexecReply ⊢
        exact ⟨_, _, rfl, rfl, hexecReply⟩
    case late =>
      obtain rfl := Host.Outcome.next.inj ((exec_windowClosing h hx hclosed).symm.trans hv)
      have hbegun {y : Turn} (hy : (settleEvent (closeWindow s x)).air.turn = some y) := closed_turn s x hy
      have hclock := nowMs_of_clock (closeWindow_clock s x)
      refine ⟨?_, fun y hy => (hbegun hy).1⟩
      have hlater := exec_reply ((closeWindow_held s x).trans h.1) hdr acks items
      rw [expireFirst_early fun y hy _ => by have := hbegun hy; omega, hreply] at hlater
      rw [hexecReply, hlater, expireFirst_late hx htruck hclosed]
    case burst =>
      have hsame : expireFirst s hdr = s := expireFirst_early fun y hy htruck =>
        (hother y hy).elim (fun hne => absurd htruck hne) fun hearly => hearly.2
      have hends : endsTurn (countUplink s replyLength) hdr = none :=
        endsTurn_none fun y hy => (hother y hy).imp id fun hearly => hearly.1
      rw [hsame, takeReply_burst hends] at hexecReply
      rw [hexecReply]
      exact congrArg _ (settle_takeBurst (s := countUplink s replyLength) h.2 items)
    · rw [hexecBurst]
      exact congrArg _ (settle_takeBurst (s := countUplink s burstLength) h.2 [item])
    case kept =>
      obtain rfl := Host.Outcome.next.inj (hexecBurst.symm.trans ht)
      have hsame : (takeBurst (countUplink s burstLength) hdr [item]).air.turn = s.air.turn :=
        (takeBurst_path (countUplink s burstLength) hdr [item] (frameRights_offAir hdr.truck)).samePhase.2.1
      rw [settleEvent_turn (hsame ▸ hturn), hsame]
    · obtain rfl := Host.Outcome.next.inj (hexecReply.symm.trans ht)
      rw [expireFirst_early hearly, (settleEvent_schedules _).busy, takeReply_busy, countUplink_busy hsent]
    · obtain rfl := Host.Outcome.next.inj (hexecBurst.symm.trans ht)
      rw [(settleEvent_schedules _).busy]
      exact (congrArg Load.busy (takeBurst_keeps _ hdr [item] .load (by decide))).trans (countUplink_busy hsent _)

end Sys2Proof.Machine

/-!
PROOFS. A record that leaves a queue by acknowledgement or at the eighth sending, and what its owner is told (R121 to R123,
R127).
-/
namespace Sys2Proof.Machine

-- The proofs are taken one after another: side by side they wait for each other in more threads than the check can hold.
set_option Elab.async false

/-! ## The record in flight (R121) -/

theorem inFlightRec_none {s : State} {t seq : Nat} {k : Truck} (hk : truckOf s t = some k)
    (h : ∀ r ∈ k.queue, r.seq = seq → r.inFlight = false) : inFlightRec s t seq = none := by
  rw [inFlightRec, hk, Option.bind_some, List.find?_eq_none]
  intro r hr
  by_cases hseq : r.seq = seq
  · simp [h r hr hseq]
  · simp [hseq]

/-- In a well-formed queue a sequence number names one record. -/
theorem eq_of_seq {q : List Rec} (hq : QueueWf q) {r x : Rec} (hr : r ∈ q) (hx : x ∈ q) (h : r.seq = x.seq) : r = x :=
  List.inj_on_of_nodup_map hq.seqs hr hx h

theorem inFlightRec_some {s : State} {t seq : Nat} {k : Truck} (hk : truckOf s t = some k) (hq : QueueWf k.queue) {r : Rec}
    (hr : r ∈ k.queue) (hseq : r.seq = seq) (hflight : r.inFlight = true) : inFlightRec s t seq = some r := by
  rw [inFlightRec, hk, Option.bind_some]
  have hsome : (k.queue.find? fun r => r.seq == seq && r.inFlight).isSome = true :=
    List.find?_isSome.mpr ⟨r, hr, by simp [hseq, hflight]⟩
  obtain ⟨x, hx⟩ := Option.isSome_iff_exists.mp hsome
  have hxseq : x.seq = seq := by simpa using (by simpa using List.find?_some hx : x.seq = seq ∧ x.inFlight = true).1
  rw [hx, eq_of_seq hq (List.mem_of_find?_eq_some hx) hr (hxseq.trans hseq.symm)]

/-! ## The end of a turn for a record (R122) -/

/-- A truck whose record in flight of a sequence number has lost its mark and counts an attempt more. -/
def Truck.sentAgain (seq : Nat) (k : Truck) : Truck := { k with queue := k.queue.map fun x =>
  if x.seq = seq ∧ x.inFlight = true then { x with inFlight := false, attempts := x.attempts + 1 } else x }

section
variable {s : State} {t seq : Nat}

theorem endTurnRec_none (h : inFlightRec s t seq = none) : endTurnRec t s seq = s := by
  simp only [endTurnRec, h]

variable {r : Rec} (h : inFlightRec s t seq = some r)
include h

theorem endTurnRec_again (hfew : r.attempts < 7) : endTurnRec t s seq =
    { modTruck s t (Truck.sentAgain seq) with askArb := true } := by
  simp only [endTurnRec, h, show ¬8 ≤ r.attempts + 1 by omega, if_false]
  rfl

theorem endTurnRec_lost (hmany : 7 ≤ r.attempts) : endTurnRec t s seq =
    ownerLost (recLost { s with askArb := true } t r .attempts (r.attempts + 1)) t r.content := by
  simp only [endTurnRec, h, show 8 ≤ r.attempts + 1 by omega, if_true]
  rfl

end

/-- The queue with one attempt more counted for the record of a sequence number. -/
theorem map_attempt {q : List Rec} (hq : QueueWf q) {r : Rec} (hr : r ∈ q) (hflight : r.inFlight = true) :
    (q.map fun x => if x.seq = r.seq ∧ x.inFlight = true then { x with inFlight := false, attempts := x.attempts + 1 } else x) =
      q.map fun x => if x.seq = r.seq then { x with inFlight := false, attempts := x.attempts + 1 } else x := by
  refine List.map_congr_left fun x hx => ?_
  by_cases hseq : x.seq = r.seq
  · obtain rfl := eq_of_seq hq hx hr hseq
    simp [hflight]
  · simp [hseq]

/-! ## Owners told of a lost record (R127) -/

section
variable {b : State} {t : Nat} {k : Truck} (hk : truckOf b t = some k)
include hk

/-- A slot freed for a truck, nothing else. -/
theorem freePermitSlot_spec (n : Nat) :
    truckOf (freePermitSlot b t n) t = some { k with permitSlots := k.permitSlots.filter (· != n) } ∧
      (∀ m, m ≠ t → truckOf (freePermitSlot b t n) m = truckOf b m) ∧
      freePermitSlot b t n = { b with trucks := (freePermitSlot b t n).trucks } := by
  refine ⟨?_, fun m hm => ?_, rfl⟩
  · rw [truckOf_freePermitSlot, hk, Option.map_some, if_pos rfl]
  · rw [truckOf_freePermitSlot]
    simp [hm]

theorem freeOrderSlot_spec (n : Nat) :
    truckOf (freeOrderSlot b t n) t = some { k with orderSlots := k.orderSlots.filter (· != n) } ∧
      (∀ m, m ≠ t → truckOf (freeOrderSlot b t n) m = truckOf b m) ∧
      freeOrderSlot b t n = { b with trucks := (freeOrderSlot b t n).trucks } := by
  refine ⟨?_, fun m hm => ?_, rfl⟩
  · rw [truckOf_freeOrderSlot, hk, Option.map_some, if_pos rfl]
  · rw [truckOf_freeOrderSlot]
    simp [hm]

end

theorem permitOutcome_eq (s : State) (t : Nat) (c : PermitContent) : permitOutcome s t c =
    if c.state = .closed ∨ c.state = .cancelled then freePermitSlot s t c.num else s := by
  unfold permitOutcome
  cases hopen : c.state.isOpen with
  | true => rw [if_pos rfl, if_neg fun h => by simp [(PermitState.isOpen_eq_false _).mpr h] at hopen]
  | false => rw [if_neg (by decide), if_pos ((PermitState.isOpen_eq_false _).mp hopen)]

/-! ## An offer that proves undeliverable (R34) -/

section
variable {b : State} {t : Nat} {c : OrderContent} {o : Order} (ho : orderOf b c.num = some o)

/-- The state of an undeliverable offer before rollover. -/
def offerLost (b : State) (t n : Nat) : State := freeOrderSlot (backToQueued b n) t n

include ho

theorem orderUndeliverable_eq : orderUndeliverable b t c =
    match c.disp with
    | .held => b
    | .withdrawn => freeOrderSlot b t c.num
    | .cancelled => freeOrderSlot b t c.num
    | .offer => if o.state = .offered ∧ o.assigned = some t then rollover (offerLost b t c.num) c.num else b := by
  unfold orderUndeliverable
  rw [ho]
  cases c.disp <;> rfl

theorem offerLost_spec (hstate : o.state = .offered) {k : Truck} (hk : truckOf b t = some k) :
    orderOf (offerLost b t c.num) c.num = some { o with
      state := .queued, assigned := none, offerTime := none, offerExpiry := none } ∧
      (∀ m, m ≠ c.num → orderOf (offerLost b t c.num) m = orderOf b m) ∧
      truckOf (offerLost b t c.num) t = some { k with orderSlots := k.orderSlots.filter (· != c.num) } ∧
      (∀ m, m ≠ t → truckOf (offerLost b t c.num) m = truckOf b m) ∧
      offerLost b t c.num = { posted b [.orderState c.num .queued none] with
        orders := (offerLost b t c.num).orders, trucks := (offerLost b t c.num).trucks } := by
  have hback (m : Nat) : truckOf (backToQueued b c.num) m = truckOf b m := truckOf_of_keeps (backToQueued_keeps b c.num) m
  obtain ⟨hself, hothers, -⟩ := freeOrderSlot_spec ((hback t).trans hk) c.num
  have horder (m : Nat) : orderOf (offerLost b t c.num) m = (orderOf b m).map fun o => if m = c.num then o.requeued else o := by
    rw [offerLost, orderOf_of_keeps (freeOrderSlot_keeps _ t _), orderOf_backToQueued]
  refine ⟨?_, fun m hm => ?_, hself, fun m hm => (hothers m hm).trans (hback m), ?_⟩
  · rw [horder, ho, Option.map_some, if_pos rfl]
    simp [Order.requeued, hstate]
  · rw [horder]
    simp [hm]
  · have hframe : Keeps [.orders] (posted b [.orderState c.num .queued none]) (backToQueued b c.num) := by
      rw [backToQueued_eq ho]
      exact modOrder_keeps _ _ _
    exact eq_of_keeps_trucksOrders (hframe.to.trans (freeOrderSlot_keeps _ t _).to)

end

/-! ## A GRANT acknowledged (R102) -/

section
variable (s : State) (c : AnswerContent)

theorem grantAcknowledged_frame : Keeps [.permits, .points] s (grantAcknowledged s c) := by
  unfold grantAcknowledged
  dsimp only
  split
  · exact ite_keeps ((modStep_keeps s _ _ _).to.trans (releaseHold_keeps _ _ _).to) (modStep_keeps s _ _ _).to
  · exact (modStep_keeps s _ _ _).to

theorem stepIn_modStep (s : State) (n m : Nat) (i j : StepId) (f : StepRec → StepRec) : stepIn (modStep s n i f) m j =
    (stepIn s m j).map fun x => if m = n ∧ j = i then f x else x := by
  unfold stepIn
  rw [permitOf_modStep]
  cases permitOf s m with
  | none => rfl
  | some p =>
    by_cases hm : m = n
    · simp [hm, Permit.step_withStep]
    · simp [hm]

theorem stepIn_grantAcknowledged : stepIn (grantAcknowledged s c) c.permit c.step =
    (stepIn s c.permit c.step).map fun x => { x with state := .executing } := by
  have hstep := stepIn_modStep s c.permit c.permit c.step c.step fun x => { x with state := .executing }
  simp only [and_self, if_true] at hstep
  rw [← hstep]
  unfold grantAcknowledged
  dsimp only
  cases stepIn s c.permit c.step with
  | none => rfl
  | some x => split_ifs <;> rfl

theorem grantAcknowledged_points (h : c.step.list ≠ 1) : (grantAcknowledged s c).points = s.points := by
  cases hx : stepIn s c.permit c.step with
  | none =>
    simp only [grantAcknowledged, hx]
    exact modStep_keeps s _ _ _ .points (by decide)
  | some x =>
    simp only [grantAcknowledged, hx, if_neg h]
    exact modStep_keeps s _ _ _ .points (by decide)

theorem pointOf_grantAcknowledged (h : c.step.list = 1) {x : StepRec} {q : Point} (hx : stepIn s c.permit c.step = some x)
    (hq : pointOf s x.point = some q) : pointOf (grantAcknowledged s c) x.point =
      some { q with holds := q.holds.filter fun y => y.permit != c.permit } := by
  have hreleased := pointOf_modPoint (modStep s c.permit c.step fun x => { x with state := .executing }) x.point x.point
    (fun q => { q with holds := q.holds.filter fun h => h.permit != c.permit }) fun _ hn => hn
  have hsame : pointOf (modStep s c.permit c.step fun x => { x with state := .executing }) x.point = some q :=
    (pointOf_of_keeps (modStep_keeps s _ _ _) _).trans hq
  rw [hsame, Option.map_some, if_pos rfl] at hreleased
  have heq : grantAcknowledged s c = releaseHold (modStep s c.permit c.step fun x => { x with state := .executing }) x.point
      c.permit := by
    simp only [grantAcknowledged, hx, h, if_true]
  rw [heq]
  exact hreleased

end

end Sys2Proof.Machine

/-!
PROOFS. An acknowledgement, and the end of a turn for the records still in flight (R121 to R123, R127).
-/
namespace Sys2Proof.Machine

-- The proofs are taken one after another: side by side they wait for each other in more threads than the check can hold.
set_option Elab.async false

/-! ## The record gone, before its owner is told -/

/-- The subject of a record that leaves is gone, and every other subject keeps its own. -/
theorem recFor_left {q : List Rec} (hq : QueueWf q) (x : Subject) : recFor (afterLeaving q x) x = none ∧
    ∀ y, y ≠ x → recFor (afterLeaving q x) y = recFor q y := by
  refine ⟨?_, fun y hy => ?_⟩
  · rw [recFor_afterLeaving hq.subjects, if_pos rfl]
  · rw [recFor_afterLeaving hq.subjects, if_neg hy]

/-- A record lost at the end of a turn, its owner not yet told. -/
def turnRecLost (s : State) (t : Nat) (r : Rec) : State := recLost { s with askArb := true } t r .attempts (r.attempts + 1)

theorem turnRecLost_keeps (s : State) (t : Nat) (r : Rec) : Keeps [.trucks, .askArb]
    (posted s [.undeliverable t r.subject r.content.summary r.origin .attempts (r.attempts + 1) (stamp s r.entry)])
    (turnRecLost s t r) :=
  ((askArb_keeps s true).posted _).to.trans (recLost_keeps { s with askArb := true } t r .attempts (r.attempts + 1)).to

theorem turnRecLost_eq (s : State) (t : Nat) (r : Rec) : turnRecLost s t r =
    { posted s [.undeliverable t r.subject r.content.summary r.origin .attempts (r.attempts + 1) (stamp s r.entry)] with
      trucks := (turnRecLost s t r).trucks, askArb := true } := by
  have hasked : (turnRecLost s t r).askArb = true :=
    (recLost_keeps { s with askArb := true } t r .attempts (r.attempts + 1) .askArb (by decide)).trans
      (posted_keeps { s with askArb := true } _ .askArb (by decide))
  have hframe := eq_of_keeps_trucksArb (turnRecLost_keeps s t r)
  rwa [hasked] at hframe

theorem truckOf_turnRecLost (s : State) (t : Nat) (r : Rec) (m : Nat) : truckOf (turnRecLost s t r) m =
    (truckOf s m).map fun k => if m = t then { k with queue := afterLeaving k.queue r.subject } else k :=
  truckOf_recLost _ t r _ _ m

theorem orderOf_turnRecLost (s : State) (t : Nat) (r : Rec) (m : Nat) : orderOf (turnRecLost s t r) m = orderOf s m :=
  (orderOf_of_keeps (turnRecLost_keeps s t r) m).trans (orderOf_of_keeps (posted_keeps s _) m)

theorem orderUndeliverable_none {b : State} {t : Nat} {c : OrderContent} (ho : orderOf b c.num = none) :
    orderUndeliverable b t c = b := by
  simp only [orderUndeliverable, ho]

theorem orderAcknowledged_eq (s : State) (t : Nat) (c : OrderContent) : orderAcknowledged s t c =
    if (c.disp = .withdrawn ∨ c.disp = .cancelled) ∧ (orderOf s c.num).isSome = true then freeOrderSlot s t c.num else s := by
  unfold orderAcknowledged
  cases orderOf s c.num <;> cases c.disp <;> rfl

/-- A GRANT lost, as section 5.5 states it: its step PENDING and the mark of its own step cleared (R103). -/
theorem grantLost_spec (b : State) (c : AnswerContent) :
    OnlyStep b (grantLost b c) c.permit c.step (fun x => { x with state := .pending, reason := none }) ∧
      (∀ m, pointOf (grantLost b c) m = (pointOf b m).map fun q =>
        if (stepIn b c.permit c.step).map StepRec.point = some m ∧
            q.busy = some { permit := c.permit, step := c.step } then { q with busy := none } else q) ∧
      grantLost b c = { b with permits := (grantLost b c).permits, points := (grantLost b c).points } := by
  refine ⟨(onlyStep_modStep b c.permit c.step _).to (clearStepBusy_keeps _ _ _), fun m => ?_, ?_⟩
  · rw [pointOf_grantLost]
    simp only [Point.unmarked, ite_and]
  · have hframe := eq_of_keeps_truckPermitPoints ((grantLost_keeps b c).to)
    rwa [grantLost_keeps b c .trucks (by decide)] at hframe

/-- Settles O48: the end of a turn and an acknowledgement by the content of the record that leaves. -/
theorem acknowledgementEndsRecord : Obligations.AcknowledgementEndsRecord := by
  unfold Obligations.AcknowledgementEndsRecord
  refine ⟨fun c => by cases c <;> rfl, fun s t => ?_, fun s t seq k hinv hk => ?_, fun s t seq k hinv hk => ?_⟩
  · cases hk : truckOf s t <;> simp [endTurnQueue, hk, eachOf]
  · have hq : QueueWf k.queue := (hinv k (findBy_some hk).2).1
    refine ⟨fun hnone => endTurnRec_none (inFlightRec_none hk hnone), ?_, ?_⟩
    · rintro r hr rfl hflight hfew
      refine ⟨_, endTurnRec_again (inFlightRec_some hk hq hr rfl hflight) hfew, ?_, fun m hm => ?_, rfl⟩
      · rw [← map_attempt hq hr hflight]
        refine (truckOf_modTruck s t t (Truck.sentAgain r.seq) fun _ h => h).trans ?_
        rw [hk, Option.map_some, if_pos rfl]
        rfl
      · refine (truckOf_modTruck s t m (Truck.sentAgain r.seq) fun _ h => h).trans ?_
        simp [hm]
    · rintro r hr rfl hflight hmany
      have hlost := endTurnRec_lost (inFlightRec_some hk hq hr rfl hflight) hmany
      have htruck : truckOf (turnRecLost s t r) t = some { k with queue := afterLeaving k.queue r.subject } := by
        rw [truckOf_turnRecLost, hk, Option.map_some, if_pos rfl]
      obtain ⟨hgone, hothers⟩ := recFor_left hq r.subject
      refine ⟨turnRecLost s t r, _, htruck, rfl, hgone, hothers, fun m hm => ?_, turnRecLost_eq s t r, ?_⟩
      · simp [truckOf_turnRecLost, hm]
      dsimp only
      cases hcontent : r.content with
      | text l | prompt c | assist l => rwa [hcontent] at hlost
      | permit c =>
        rw [hcontent] at hlost
        replace hlost := hlost.trans (permitOutcome_eq _ t c)
        dsimp only
        split_ifs at hlost ⊢
        · exact ⟨_, hlost, freePermitSlot_spec htruck c.num⟩
        · exact hlost
      | answer c =>
        rw [hcontent] at hlost
        dsimp only [ownerLost] at hlost ⊢
        split_ifs at hlost ⊢
        · exact ⟨_, hlost, grantLost_spec _ c⟩
        · exact hlost
      | order c =>
        rw [hcontent] at hlost
        dsimp only
        have hsame := orderOf_turnRecLost s t r
        cases ho : orderOf s c.num with
        | none => exact hlost.trans (orderUndeliverable_none ((hsame _).trans ho))
        | some o =>
          have horder := (hsame c.num).trans ho
          replace hlost := hlost.trans (orderUndeliverable_eq horder)
          dsimp only
          cases hdisp : c.disp with
          | held => rwa [hdisp] at hlost
          | withdrawn | cancelled =>
            rw [hdisp] at hlost
            exact ⟨_, hlost, freeOrderSlot_spec htruck c.num⟩
          | offer =>
            rw [hdisp] at hlost
            dsimp only at hlost ⊢
            split_ifs at hlost ⊢ with hstands
            · obtain ⟨hback, hrest, hfreed, hne, hframe⟩ := offerLost_spec horder hstands.1 htruck
              exact ⟨_, hlost, hback, fun m hm => (hrest m hm).trans (hsame m), hfreed, hne, hframe⟩
            · exact hlost
  · have hq : QueueWf k.queue := (hinv k (findBy_some hk).2).1
    refine ⟨fun hnone => by simp only [takeAck, inFlightRec_none hk hnone], ?_⟩
    rintro r hr rfl hflight
    have hack : takeAck t s r.seq = ownerAcknowledged (dropRec s t r.subject) t r.seq r.content := by
      simp only [takeAck, inFlightRec_some hk hq hr rfl hflight]
    obtain ⟨hgone, hothers⟩ := recFor_left hq r.subject
    obtain ⟨htruck, hne⟩ := dropRec_spec hk r.subject
    have hdrop := dropRec_keeps s t r.subject
    have hplain {u : State} (hu : Keeps [.trucks] (dropRec s t r.subject) u) : u = { s with trucks := u.trucks } :=
      eq_of_keeps_trucks (hdrop.trans hu)
    cases hcontent : r.content with
    | text l =>
      rw [hcontent] at hack
      have hpost := post_keeps (dropRec s t r.subject) (.textDelivered t r.seq l.length)
      exact ⟨_, _, hack, (truckOf_of_keeps hpost t).trans htruck, hgone, hothers, rfl,
        fun m hm => (truckOf_of_keeps hpost m).trans (hne m hm), rfl, rfl,
        eq_of_keeps_trucks (hdrop.posted [.textDelivered t r.seq l.length])⟩
    | prompt c | assist l =>
      rw [hcontent] at hack
      exact ⟨_, _, hack, htruck, hgone, hothers, rfl, hne, rfl, rfl, hplain (Keeps.refl _ _)⟩
    | permit c =>
      rw [hcontent] at hack
      replace hack := hack.trans (permitOutcome_eq _ t c)
      by_cases hfinal : c.state = .closed ∨ c.state = .cancelled
      · rw [if_pos hfinal] at hack
        obtain ⟨hfreed, hrest, hframe⟩ := freePermitSlot_spec htruck c.num
        exact ⟨_, _, hack, hfreed, hgone, hothers, rfl, fun m hm => (hrest m hm).trans (hne m hm), rfl,
          hplain (freePermitSlot_keeps _ t _), (if_pos hfinal).symm⟩
      · rw [if_neg hfinal] at hack
        exact ⟨_, _, hack, htruck, hgone, hothers, rfl, hne, rfl, hplain (Keeps.refl _ _), (if_neg hfinal).symm⟩
    | order c =>
      rw [hcontent] at hack
      replace hack := hack.trans (orderAcknowledged_eq _ t c)
      rw [orderOf_of_keeps hdrop] at hack
      by_cases hends : (c.disp = .withdrawn ∨ c.disp = .cancelled) ∧ (orderOf s c.num).isSome = true
      · rw [if_pos hends] at hack
        obtain ⟨hfreed, hrest, hframe⟩ := freeOrderSlot_spec htruck c.num
        exact ⟨_, _, hack, hfreed, hgone, hothers, rfl, fun m hm => (hrest m hm).trans (hne m hm), rfl,
          hplain (freeOrderSlot_keeps _ t _), (if_pos hends).symm⟩
      · rw [if_neg hends] at hack
        exact ⟨_, _, hack, htruck, hgone, hothers, rfl, hne, rfl, hplain (Keeps.refl _ _), (if_neg hends).symm⟩
    | answer c =>
      rw [hcontent] at hack
      by_cases hgrant : c.kind = .grant
      · have hack' : takeAck t s r.seq = grantAcknowledged (dropRec s t r.subject) c := hack.trans (if_pos hgrant)
        have hframe := grantAcknowledged_frame (dropRec s t r.subject) c
        have hstep : stepIn (dropRec s t r.subject) c.permit c.step = stepIn s c.permit c.step := by
          unfold stepIn
          rw [permitOf_of_keeps hdrop]
        refine ⟨_, _, hack', (truckOf_of_keeps hframe t).trans htruck, hgone, hothers, rfl,
          fun m hm => (truckOf_of_keeps hframe m).trans (hne m hm), rfl, rfl,
          eq_of_keeps_truckPermitPoints (hdrop.to.trans hframe.to), fun hother => absurd hgrant hother, fun _ => ⟨?_,
          fun hlist => (grantAcknowledged_points _ c hlist).trans (hdrop .points (by decide)), fun x q hlist hx hp => ?_⟩⟩
        · rw [stepIn_grantAcknowledged, hstep]
        · exact pointOf_grantAcknowledged _ c hlist (hstep.trans hx) ((pointOf_of_keeps hdrop _).trans hp)
      · have hack' : takeAck t s r.seq = dropRec s t r.subject := hack.trans (if_neg hgrant)
        exact ⟨_, _, hack', htruck, hgone, hothers, rfl, hne, rfl, rfl, eq_of_keeps_truckPermitPoints hdrop.to,
          fun _ => ⟨hdrop .permits (by decide), hdrop .points (by decide)⟩, fun h => absurd h hgrant⟩

end Sys2Proof.Machine

/-!
PROOFS. The channel arbiter's pick and the entries of a cycle's list (R136, R141, R142).
-/
namespace Sys2Proof.Machine

-- The proofs are taken one after another: side by side they wait for each other in more threads than the check can hold.
set_option Elab.async false

/-! ## The arbiter (R141) -/

/-- The record waits for an urgent turn (R141). -/
def Rec.waits (r : Rec) : Prop := r.content.urgent = true ∧ r.inFlight = false

theorem mem_waiting {q : List Rec} {r : Rec} : (r ∈ q.filter fun r => r.urgent && !r.inFlight) ↔ r ∈ q ∧ r.waits := by
  simp [Rec.waits, Rec.urgent]

theorem oldestUrgent_none {q : List Rec} (h : oldestUrgent q = none) {r : Rec} (hr : r ∈ q) : ¬r.waits := by
  have hempty : (q.filter fun r => r.urgent && !r.inFlight) = [] := by
    simpa only [oldestUrgent, List.min?_eq_none_iff, List.map_eq_nil_iff] using h
  exact fun hwaits => List.ne_nil_of_mem (mem_waiting.mpr ⟨hr, hwaits⟩) hempty

theorem oldestUrgent_some {q : List Rec} {e : Nat} (h : oldestUrgent q = some e) :
    (∃ r ∈ q, r.waits ∧ r.entry = e) ∧ ∀ r ∈ q, r.waits → e ≤ r.entry := by
  obtain ⟨hmem, hleast⟩ := List.min?_eq_some_iff.mp h
  obtain ⟨r, hr, hentry⟩ := List.mem_map.mp hmem
  obtain ⟨hin, hwaits⟩ := mem_waiting.mp hr
  exact ⟨⟨r, hin, hwaits, hentry⟩, fun x hx hxwaits => hleast _ (List.mem_map_of_mem (mem_waiting.mpr ⟨hx, hxwaits⟩))⟩

/-- The truck may be given an urgent turn, and the record of its queue waits for one (R141). -/
def Claims (s : State) (t : Truck) (r : Rec) : Prop :=
  (t.reach = .reachable ∨ t.reach = .missed) ∧ (routeOf s t).any (isDown s) = false ∧ r ∈ t.queue ∧
    r.content.urgent = true ∧ r.inFlight = false

theorem urgentClaim_none {s : State} {t : Truck} (h : urgentClaim s t = none) (r : Rec) : ¬Claims s t r := by
  rintro ⟨hreach, hroute, hr, hwaits⟩
  unfold urgentClaim at h
  rw [if_pos (by simpa [passesDown] using ⟨hreach, by simpa using hroute⟩)] at h
  exact oldestUrgent_none h hr hwaits

theorem urgentClaim_some {s : State} {t : Truck} {e : Nat} (h : urgentClaim s t = some e) :
    (∃ r, Claims s t r ∧ r.entry = e) ∧ ∀ r, Claims s t r → e ≤ r.entry := by
  unfold urgentClaim at h
  split_ifs at h with hmay
  obtain ⟨⟨r, hr, hwaits, hentry⟩, hleast⟩ := oldestUrgent_some h
  have hmay' : (t.reach = .reachable ∨ t.reach = .missed) ∧ (routeOf s t).any (isDown s) = false := by
    simpa [passesDown] using hmay
  exact ⟨⟨r, ⟨hmay'.1, hmay'.2, hr, hwaits⟩, hentry⟩, fun x ⟨_, _, hx, hxwaits⟩ => hleast x hx hxwaits⟩

theorem firstClaim_none {s : State} {l : List Truck} (h : firstClaim s l = none) : ∀ t ∈ l, ∀ r, ¬Claims s t r := by
  induction l with
  | nil => exact fun t ht => absurd ht List.not_mem_nil
  | cons k l ih =>
    unfold firstClaim at h
    cases hk : urgentClaim s k with
    | some e =>
      rw [hk] at h
      cases hl : firstClaim s l with
      | none => simp [hl] at h
      | some x =>
        simp only [hl] at h
        split_ifs at h
    | none =>
      rw [hk] at h
      refine List.forall_mem_cons.mpr ⟨urgentClaim_none hk, ih ?_⟩
      cases hl : firstClaim s l with
      | none => rfl
      | some x => simp [hl] at h

/-- The first claim of an ascending table is the claim of the record that came first, of the lowest number among equals. -/
theorem firstClaim_some {s : State} {l : List Truck} (hasc : ascending Truck.num l) {e n : Nat}
    (h : firstClaim s l = some (e, n)) : (∃ t ∈ l, ∃ r, Claims s t r ∧ t.num = n ∧ r.entry = e) ∧
      ∀ t ∈ l, ∀ r, Claims s t r → e < r.entry ∨ (e = r.entry ∧ n ≤ t.num) := by
  induction l generalizing e n with
  | nil => simp [firstClaim] at h
  | cons k l ih =>
    obtain ⟨hhead, htail⟩ := List.pairwise_cons.mp hasc
    have hlow (t : Truck) (ht : t ∈ l) : k.num < t.num := hhead _ (List.mem_map_of_mem ht)
    unfold firstClaim at h
    cases hk : urgentClaim s k with
    | none =>
      obtain ⟨⟨t, ht, hclaim⟩, hleast⟩ := ih htail (by simpa [hk] using h)
      exact ⟨⟨t, List.mem_cons_of_mem _ ht, hclaim⟩, List.forall_mem_cons.mpr
        ⟨fun r hr => absurd hr (urgentClaim_none hk r), hleast⟩⟩
    | some a =>
      obtain ⟨⟨r, hr, hentry⟩, hfirst⟩ := urgentClaim_some hk
      cases hl : firstClaim s l with
      | none =>
        obtain ⟨rfl, rfl⟩ : a = e ∧ k.num = n := by simpa [hk, hl] using h
        refine ⟨⟨k, List.mem_cons_self, r, hr, rfl, hentry⟩, List.forall_mem_cons.mpr ⟨fun x hx => ?_,
          fun t ht x hx => absurd hx (firstClaim_none hl t ht x)⟩⟩
        have := hfirst x hx
        omega
      | some y =>
        obtain ⟨e', n'⟩ := y
        obtain ⟨⟨t, ht, x, hx, hn, hxentry⟩, hleast⟩ := ih htail hl
        simp only [hk, hl] at h
        split_ifs at h with hle
        · obtain ⟨rfl, rfl⟩ : a = e ∧ k.num = n := by simpa using h
          refine ⟨⟨k, List.mem_cons_self, r, hr, rfl, hentry⟩, List.forall_mem_cons.mpr ⟨fun x hx => ?_,
            fun t ht x hx => ?_⟩⟩
          · have := hfirst x hx
            omega
          · have := hleast t ht x hx
            have := hlow t ht
            omega
        · obtain ⟨rfl, rfl⟩ : e' = e ∧ n' = n := by simpa using h
          refine ⟨⟨t, List.mem_cons_of_mem _ ht, x, hx, hn, hxentry⟩, List.forall_mem_cons.mpr ⟨fun z hz => ?_, hleast⟩⟩
          have := hfirst z hz
          omega

theorem arbiterPick_none {s : State} (h : arbiterPick s = none) : ∀ t ∈ s.trucks, ∀ r, ¬Claims s t r :=
  firstClaim_none (by simpa [arbiterPick] using h)

theorem arbiterPick_some {s : State} (hasc : ascending Truck.num s.trucks) {n : Nat} (h : arbiterPick s = some n) :
    ∃ t ∈ s.trucks, ∃ r, Claims s t r ∧ t.num = n ∧
      ∀ t' ∈ s.trucks, ∀ r', Claims s t' r' → r.entry < r'.entry ∨ (r.entry = r'.entry ∧ n ≤ t'.num) := by
  obtain ⟨⟨e, m⟩, hclaim, rfl⟩ := Option.map_eq_some_iff.mp h
  obtain ⟨⟨t, ht, r, hr, hn, rfl⟩, hleast⟩ := firstClaim_some hasc hclaim
  exact ⟨t, ht, r, hr, hn, hleast⟩

/-- The arbiter picks the truck whose waiting record came first, the lowest number among equals (R141). -/
theorem arbiterPick_iff {s : State} (hasc : ascending Truck.num s.trucks) (n : Nat) : arbiterPick s = some n ↔
    ∃ t r, (t ∈ s.trucks ∧ Claims s t r) ∧ t.num = n ∧
      ∀ t' r', t' ∈ s.trucks ∧ Claims s t' r' → r.entry < r'.entry ∨ (r.entry = r'.entry ∧ n ≤ t'.num) := by
  constructor
  · intro h
    obtain ⟨t, ht, r, hr, hn, hleast⟩ := arbiterPick_some hasc h
    exact ⟨t, r, ⟨ht, hr⟩, hn, fun t' r' h' => hleast t' h'.1 r' h'.2⟩
  · rintro ⟨t, r, ⟨ht, hr⟩, rfl, hleast⟩
    cases hpick : arbiterPick s with
    | none => exact absurd hr (arbiterPick_none hpick t ht r)
    | some m =>
      obtain ⟨t', ht', r', hr', rfl, hleast'⟩ := arbiterPick_some hasc hpick
      have h1 := hleast t' r' ⟨ht', hr'⟩
      have h2 := hleast' t ht r hr
      exact congrArg some (by omega)

theorem arbiterPick_none_iff {s : State} (hasc : ascending Truck.num s.trucks) :
    arbiterPick s = none ↔ ∀ t r, ¬(t ∈ s.trucks ∧ Claims s t r) := by
  refine ⟨fun h t r hclaim => arbiterPick_none h t hclaim.1 r hclaim.2, fun h => ?_⟩
  cases hpick : arbiterPick s with
  | none => rfl
  | some n =>
    obtain ⟨t, ht, r, hr, -⟩ := arbiterPick_some hasc hpick
    exact absurd ⟨ht, hr⟩ (h t r)

/-! ## The list (R136, R142) -/

section
variable {past : State → State} {s : State}

theorem passOver_iff (e : ListEntry) : passOver s e = true ↔
    e.live = false ∨ ∀ t, truckOf s e.truck = some t → (routeOf s t).any (isDown s) = true := by
  unfold passOver
  cases truckOf s e.truck <;> simp [passesDown]

theorem takeEntries_passed {l : List ListEntry} (h : ∀ x ∈ l, passOver s x = true) :
    takeEntries past l s = enterWindow past { s with air := { s.air with list := [] } } := by
  induction l with
  | nil => rfl
  | cons e l ih =>
    obtain ⟨he, hl⟩ := List.forall_mem_cons.mp h
    exact (if_pos he).trans (ih hl)

theorem takeEntries_first {e : ListEntry} (he : ¬passOver s e = true) (l2 : List ListEntry) :
    takeEntries past (e :: l2) s = beginTurn { s with air := { s.air with list := l2, urgentRun := 0 } } e.truck .rollCall :=
  if_neg he

theorem takeEntries_next {l1 : List ListEntry} (h : ∀ x ∈ l1, passOver s x = true) {e : ListEntry}
    (he : ¬passOver s e = true) (l2 : List ListEntry) : takeEntries past (l1 ++ e :: l2) s =
      beginTurn { s with air := { s.air with list := l2, urgentRun := 0 } } e.truck .rollCall := by
  induction l1 with
  | nil => exact takeEntries_first he l2
  | cons x l ih =>
    obtain ⟨hx, hl⟩ := List.forall_mem_cons.mp h
    exact (if_pos hx).trans (ih hl)

end

theorem hopSum_eq (s : State) (l : List Nat) : hopSum s l = (l.map fun n => ((siteOf s n).map Site.hop).getD 0).sum := by
  induction l with
  | nil => rfl
  | cons n l ih =>
    rw [hopSum, ih, List.map_cons, List.sum_cons]
    cases siteOf s n <;> rfl

end Sys2Proof.Machine

/-!
PROOFS. A turn begun: the records it carries, their marks and the GRANTs reported, and its window (R101, R119, R132, R137).
-/
namespace Sys2Proof.Machine

-- The proofs are taken one after another: side by side they wait for each other in more threads than the check can hold.
set_option Elab.async false

/-! ## The records a turn carries (R119) -/

theorem markLeading_eq (n : Nat) (q : List Rec) : markLeading n q =
    ((q.take n).map fun r => { r with inFlight := true }) ++ q.drop n := by
  induction q generalizing n with
  | nil => cases n <;> rfl
  | cons r q ih =>
    cases n with
    | zero => rfl
    | succ n => exact congrArg (_ :: ·) (ih n)

/-- The units of a list of records. -/
def recUnits (l : List Rec) : Nat := (l.map fun r => r.content.units).sum

theorem leading_le (budget : Nat) (q : List Rec) : leading budget q ≤ q.length := by
  induction q generalizing budget with
  | nil => exact Nat.le_refl 0
  | cons r q ih =>
    unfold leading
    split_ifs
    · exact Nat.succ_le_succ (ih _)
    · exact Nat.zero_le _

theorem leading_fits (budget : Nat) (q : List Rec) : recUnits (q.take (leading budget q)) ≤ budget := by
  induction q generalizing budget with
  | nil => exact Nat.zero_le _
  | cons r q ih =>
    unfold leading
    split_ifs with hfits
    · have := ih (budget - r.content.units)
      simp only [recUnits, List.take_succ_cons, List.map_cons, List.sum_cons] at this ⊢
      omega
    · exact Nat.zero_le _

/-- The record behind those of a turn does not fit its budget. -/
theorem leading_stops (budget : Nat) (q : List Rec) {r : Rec} (h : (q.drop (leading budget q)).head? = some r) :
    budget < recUnits (q.take (leading budget q)) + r.content.units := by
  induction q generalizing budget with
  | nil => simp at h
  | cons x q ih =>
    unfold leading at h ⊢
    split_ifs at h ⊢ with hfits
    · have := ih (budget - x.content.units) h
      simp only [recUnits, List.take_succ_cons, List.map_cons, List.sum_cons] at this ⊢
      omega
    · obtain rfl : x = r := by simpa using h
      simp only [recUnits, List.take_zero, List.map_nil, List.sum_nil]
      omega

/-! ## GRANTs reported (R101) -/

/-- The content is a GRANT for a step. -/
def Content.grants (p : Nat) (i : StepId) : Content → Bool
  | .answer c => c.kind == .grant && c.permit == p && c.step == i
  | _ => false

/-- One record of a POLL reported to the Permit Unit (R101). -/
def reportOne (s : State) (c : Content) : State :=
  match c with
  | .answer c => if c.kind = .grant then grantSent s c else s
  | _ => s

theorem reportOne_grant (s : State) {c : AnswerContent} (h : c.kind = .grant) :
    reportOne s (.answer c) = modStep s c.permit c.step fun x => { x with sent := true } := if_pos h

theorem reportOne_refusal (s : State) {c : AnswerContent} (h : c.kind ≠ .grant) : reportOne s (.answer c) = s := if_neg h

theorem reportSent_eq (s : State) (l : List (Nat × Content)) : reportSent s l = (l.map Prod.snd).foldl reportOne s := by
  rw [List.foldl_map]
  rfl

theorem stepIn_reportOne (s : State) (c : Content) (p : Nat) (i : StepId) : stepIn (reportOne s c) p i =
    (stepIn s p i).map fun y => if c.grants p i = true then { y with sent := true } else y := by
  have hnone {y : Option StepRec} : y = y.map fun y => if false = true then { y with sent := true } else y := by simp
  cases c with
  | answer c =>
    by_cases hgrant : c.kind = .grant
    · rw [reportOne_grant s hgrant, stepIn_modStep]
      refine congrArg (Option.map · (stepIn s p i)) (funext fun y => ?_)
      have hnames : (Content.answer c).grants p i = true ↔ p = c.permit ∧ i = c.step := by
        simp only [Content.grants, hgrant, beq_self_eq_true, Bool.true_and, Bool.and_eq_true, beq_iff_eq]
        exact and_congr eq_comm eq_comm
      exact if_congr hnames.symm rfl rfl
    · rw [reportOne_refusal s hgrant]
      simp [Content.grants, hgrant]
  | order _ | permit _ | prompt _ | assist _ | text _ => exact hnone

/-- What is left of a permit as it was where its steps alone have changed. -/
theorem permitOf_reportOne (s : State) (c : Content) {m : Nat} {p : Permit} (h : permitOf s m = some p) :
    ∃ q, permitOf (reportOne s c) m = some q ∧ q = { p with iso := q.iso, rest := q.rest } := by
  cases c with
  | answer c =>
    by_cases hgrant : c.kind = .grant
    · rw [reportOne_grant s hgrant, permitOf_modStep, h]
      by_cases hm : m = c.permit
      · refine ⟨p.withStep c.step fun x => { x with sent := true }, by simp [hm], ?_⟩
        unfold Permit.withStep
        split_ifs <;> rfl
      · exact ⟨p, by simp [hm], rfl⟩
    · rw [reportOne_refusal s hgrant]
      exact ⟨p, h, rfl⟩
  | order _ | permit _ | prompt _ | assist _ | text _ => exact ⟨p, h, rfl⟩

theorem stepIn_reportAll (l : List Content) (s : State) (p : Nat) (i : StepId) : stepIn (l.foldl reportOne s) p i =
    (stepIn s p i).map fun y => if (l.any (Content.grants p i)) = true then { y with sent := true } else y := by
  induction l generalizing s with
  | nil => simp
  | cons c l ih =>
    rw [List.foldl_cons, ih, stepIn_reportOne, Option.map_map]
    refine congrArg (Option.map · (stepIn s p i)) (funext fun y => ?_)
    simp only [Function.comp_apply, List.any_cons, Bool.or_eq_true]
    by_cases hc : c.grants p i = true <;> by_cases hl : l.any (Content.grants p i) = true <;> simp [hc, hl]

theorem permitOf_reportAll (l : List Content) {s : State} {m : Nat} {p : Permit} (h : permitOf s m = some p) :
    ∃ q, permitOf (l.foldl reportOne s) m = some q ∧ q = { p with iso := q.iso, rest := q.rest } := by
  induction l generalizing s p with
  | nil => exact ⟨p, h, rfl⟩
  | cons c l ih =>
    obtain ⟨q, hq, heq⟩ := permitOf_reportOne s c h
    obtain ⟨r, hr, hreq⟩ := ih hq
    refine ⟨r, hr, ?_⟩
    rw [hreq, heq]

/-! ## The turn (R137) -/

section
variable {s : State} {n : Nat} {t : Truck} (ht : truckOf s n = some t) (kind : TurnKind)

/-- The octets of the POLL of a truck's turn. -/
def turnOctets (s : State) (t : Truck) : Nat := pollOctets (routeOf s t) t.upAcks (turnRecs t s.air.budget)

/-- The end of the POLL of a truck's turn. -/
def turnPollEnd (s : State) (t : Truck) : Nat := s.nowMs + airtime (turnOctets s t) s.air.rate

/-- A truck's turn, its window fixed when it begins. -/
def turnOf (s : State) (n : Nat) (t : Truck) (kind : TurnKind) : Turn :=
  { truck := n, kind := kind, route := routeOf s t, pollEnd := turnPollEnd s t
    winOpen := turnPollEnd s t + 2 * hopSum s (routeOf s t)
    winClose := turnPollEnd s t + 2 * hopSum s (routeOf s t) + s.air.replyWindow, abandoned := false }

/-- A truck whose leading records have been taken into a POLL, with the uplink list it carries. -/
def Truck.polled (budget : Nat) (t : Truck) : Truck :=
  { t with queue := markLeading (leading budget t.queue) t.queue, upAcks := [] }

/-- The state of a turn's records taken up, before the POLL is handed over. -/
def turnTaken (s : State) (n : Nat) (t : Truck) : State :=
  reportSent (modTruck s n (Truck.polled s.air.budget)) (turnRecs t s.air.budget)

theorem turnTaken_keeps (s : State) (n : Nat) (t : Truck) : Keeps [.trucks, .permits] s (turnTaken s n t) :=
  (modTruck_keeps s n _).to.trans (reportSent_keeps _ _).to

include ht in
theorem beginTurn_taken : beginTurn s n kind =
    { handOver (turnTaken s n t) (.poll (routeOf s t) n t.upAcks (turnRecs t s.air.budget)) (turnOctets s t) with
      air := { (handOver (turnTaken s n t) (.poll (routeOf s t) n t.upAcks (turnRecs t s.air.budget)) (turnOctets s t)).air with
        turn := some (turnOf s n t kind) } } := by
  simp only [beginTurn, ht]
  rfl

include ht in
/-- What a turn begun leaves as it was (R137). -/
theorem beginTurn_eq : beginTurn s n kind = { s with
    trucks := (beginTurn s n kind).trucks, permits := (beginTurn s n kind).permits
    air := { s.air with
      turn := some (turnOf s n t kind), ttx := some (.poll (routeOf s t) n t.upAcks (turnRecs t s.air.budget)) }
    load := { s.load with sent := s.load.sent ++ [{ lo := s.nowMs, hi := turnPollEnd s t }] } } := by
  have htaken : turnTaken s n t = { s with trucks := (turnTaken s n t).trucks, permits := (turnTaken s n t).permits } := by
    have hkeeps := turnTaken_keeps s n t
    have hframe := eq_of_keeps_tables (hkeeps.to)
    rwa [hkeeps .orders (by decide), hkeeps .points (by decide)] at hframe
  rw [beginTurn_taken ht, htaken]
  rfl

include ht in
theorem truckOf_beginTurn (m : Nat) : truckOf (beginTurn s n kind) m =
    (truckOf s m).map fun k => if m = n then k.polled s.air.budget else k := by
  rw [beginTurn_taken ht]
  exact (truckOf_of_keeps (reportSent_keeps _ _) m).trans
    (truckOf_modTruck s n m (Truck.polled s.air.budget) fun _ h => h)

include ht in
theorem stepIn_beginTurn (p : Nat) (i : StepId) : stepIn (beginTurn s n kind) p i = (stepIn s p i).map fun y =>
    if ((t.queue.take (leading s.air.budget t.queue)).any fun r => r.content.grants p i) = true then { y with sent := true }
      else y := by
  have hsame : stepIn (modTruck s n (Truck.polled s.air.budget)) p i = stepIn s p i := by
    unfold stepIn
    rw [permitOf_of_keeps (modTruck_keeps s n _)]
  have hall := stepIn_reportAll ((turnRecs t s.air.budget).map Prod.snd) (modTruck s n (Truck.polled s.air.budget)) p i
  rw [← reportSent_eq, hsame, turnRecs, List.map_map, List.any_map] at hall
  rw [beginTurn_taken ht]
  exact hall

include ht in
theorem permitOf_beginTurn {m : Nat} {p : Permit} (hp : permitOf s m = some p) :
    ∃ q, permitOf (beginTurn s n kind) m = some q ∧ q = { p with iso := q.iso, rest := q.rest } := by
  have hall := permitOf_reportAll ((turnRecs t s.air.budget).map Prod.snd) (s := modTruck s n (Truck.polled s.air.budget)) hp
  rw [← reportSent_eq] at hall
  rw [beginTurn_taken ht]
  exact hall

/-- The octets of a POLL, as section 11.5 counts them. -/
theorem turnOctets_eq (s : State) (t : Truck) : turnOctets s t =
    9 + (if routeOf s t = [] then 0 else 1 + (routeOf s t).length) + t.upAcks.length +
      ((t.queue.take (leading s.air.budget t.queue)).map fun r => 4 + r.content.octets).sum := by
  rw [turnOctets, pollOctets, routeOctets_eq, turnRecs, List.map_map]
  rfl

end

end Sys2Proof.Machine

/-!
PROOFS. What the end of a turn leaves of its truck (R9, R122), and the start of a cycle (R135).
-/
namespace Sys2Proof.Machine

-- The proofs are taken one after another: side by side they wait for each other in more threads than the check can hold.
set_option Elab.async false

/-! ## The truck behind a record lost -/

/-- From `s` to `u` truck `t` changes in slots, records and sequence counter alone. -/
def CrewKept (t : Nat) (s u : State) : Prop := ∀ a, truckOf s t = some a → ∃ b, truckOf u t = some b ∧
  b = { a with orderSlots := b.orderSlots, permitSlots := b.permitSlots, queue := b.queue, seqCtr := b.seqCtr }

namespace CrewKept

theorem refl (t : Nat) (s : State) : CrewKept t s s := fun a ha => ⟨a, ha, rfl⟩

theorem trans {t : Nat} {s u v : State} (h : CrewKept t s u) (h' : CrewKept t u v) : CrewKept t s v := fun a ha => by
  obtain ⟨b, hb, hab⟩ := h a ha
  obtain ⟨c, hc, hbc⟩ := h' b hb
  refine ⟨c, hc, ?_⟩
  rw [hab] at hbc
  exact hbc

theorem of_keeps {l : List Field} {t : Nat} {s u : State} (h : Keeps l s u) (hl : .trucks ∉ l := by decide) :
    CrewKept t s u := fun a ha => ⟨a, (truckOf_of_keeps h t hl).trans ha, rfl⟩

end CrewKept

theorem freeOrderSlot_crewKept (s : State) (t n : Nat) : CrewKept t s (freeOrderSlot s t n) := fun _ ha =>
  ⟨_, (freeOrderSlot_spec ha n).1, rfl⟩

theorem freePermitSlot_crewKept (s : State) (t n : Nat) : CrewKept t s (freePermitSlot s t n) := fun _ ha =>
  ⟨_, (freePermitSlot_spec ha n).1, rfl⟩

theorem rollover_crewKept (s : State) (t n : Nat) : CrewKept t s (rollover s n) := fun a ha => by
  obtain ⟨b, hb, hab⟩ := (rollover_offerMove s n).truck t a ha
  refine ⟨b, hb, ?_⟩
  rw [hab]

theorem orderUndeliverable_crewKept (s : State) (t : Nat) (c : OrderContent) : CrewKept t s (orderUndeliverable s t c) := by
  cases ho : orderOf s c.num with
  | none =>
    rw [orderUndeliverable_none ho]
    exact .refl t s
  | some o =>
    rw [orderUndeliverable_eq ho]
    cases c.disp with
    | held => exact .refl t s
    | withdrawn | cancelled => exact freeOrderSlot_crewKept s t _
    | offer =>
      dsimp only
      split_ifs
      · exact ((CrewKept.of_keeps (backToQueued_keeps s _)).trans (freeOrderSlot_crewKept _ t _)).trans (rollover_crewKept _ t _)
      · exact .refl t s

theorem ownerLost_crewKept (s : State) (t : Nat) (c : Content) : CrewKept t s (ownerLost s t c) := by
  cases c with
  | order c => exact orderUndeliverable_crewKept s t c
  | permit c =>
    change CrewKept t s (permitOutcome s t c)
    rw [permitOutcome_eq]
    split_ifs
    · exact freePermitSlot_crewKept s t _
    · exact .refl t s
  | answer c =>
    dsimp only [ownerLost]
    split_ifs
    · exact .of_keeps (grantLost_keeps s c)
    · exact .refl t s
  | prompt _ | assist _ | text _ => exact .refl t s

theorem turnRecLost_crewKept (s : State) (t : Nat) (r : Rec) : CrewKept t s (turnRecLost s t r) := fun a ha =>
  ⟨{ a with queue := afterLeaving a.queue r.subject }, by rw [truckOf_turnRecLost, ha, Option.map_some, if_pos rfl], rfl⟩

theorem truckOf_sentAgain {s : State} {t seq : Nat} {k : Truck} (hk : truckOf s t = some k) :
    truckOf { modTruck s t (Truck.sentAgain seq) with askArb := true } t = some (k.sentAgain seq) := by
  refine (truckOf_modTruck s t t (Truck.sentAgain seq) fun _ h => h).trans ?_
  rw [hk, Option.map_some, if_pos rfl]

theorem endTurnRec_crewKept (s : State) (t seq : Nat) : CrewKept t s (endTurnRec t s seq) := by
  cases hr : inFlightRec s t seq with
  | none =>
    rw [endTurnRec_none hr]
    exact .refl t s
  | some r =>
    by_cases hfew : r.attempts < 7
    · rw [endTurnRec_again hr hfew]
      exact fun a ha => ⟨_, truckOf_sentAgain ha, rfl⟩
    · rw [endTurnRec_lost hr (by omega)]
      exact (turnRecLost_crewKept s t r).trans (ownerLost_crewKept _ t _)

theorem endTurnQueue_crewKept (s : State) (t : Nat) : CrewKept t s (endTurnQueue s t) := by
  have hall (l : List Nat) (u : State) : CrewKept t u (l.foldl (endTurnRec t) u) := by
    induction l generalizing u with
    | nil => exact .refl t u
    | cons n l ih => exact (endTurnRec_crewKept u t n).trans (ih _)
  unfold endTurnQueue
  split
  · exact hall _ s
  · exact .refl t s

/-! ## An attempt counted for each record in flight (R122) -/

/-- No record in flight has come to its eighth sending. -/
def Truck.fewSent (k : Truck) : Prop := ∀ r ∈ k.queue, r.inFlight = true → r.attempts < 7

theorem Truck.fewSent.sentAgain {k : Truck} (h : k.fewSent) (seq : Nat) : (k.sentAgain seq).fewSent := by
  intro r hr hflight
  obtain ⟨x, hx, rfl⟩ := List.mem_map.mp hr
  split_ifs at hflight ⊢ with hseq
  · exact h x hx hflight

theorem endTurnRec_few {s : State} {t seq : Nat} {k : Truck} (hk : truckOf s t = some k) (hfew : k.fewSent) :
    truckOf (endTurnRec t s seq) t = some (k.sentAgain seq) := by
  cases hr : inFlightRec s t seq with
  | none =>
    have hsame : k.sentAgain seq = k := by
      have hno : ∀ x ∈ k.queue, ¬(x.seq = seq ∧ x.inFlight = true) := by
        rw [inFlightRec, hk, Option.bind_some, List.find?_eq_none] at hr
        exact fun x hx => by simpa using hr x hx
      have hqueue : (k.sentAgain seq).queue = k.queue :=
        (List.map_congr_left fun x hx => if_neg (hno x hx)).trans (List.map_id _)
      exact congrArg (fun q => { k with queue := q }) hqueue
    rw [endTurnRec_none hr, hk, hsame]
  | some r =>
    have hin : r ∈ k.queue ∧ r.inFlight = true := by
      rw [inFlightRec, hk, Option.bind_some] at hr
      exact ⟨List.mem_of_find?_eq_some hr, by simpa using (by simpa using List.find?_some hr : r.seq = seq ∧ r.inFlight = true).2⟩
    rw [endTurnRec_again hr (hfew r hin.1 hin.2)]
    exact truckOf_sentAgain hk

theorem endTurnRecs_few (l : List Nat) {s : State} {t : Nat} {k : Truck} (hk : truckOf s t = some k) (hfew : k.fewSent) :
    truckOf (l.foldl (endTurnRec t) s) t = some (l.foldl (fun k n => k.sentAgain n) k) := by
  induction l generalizing s k with
  | nil => exact hk
  | cons n l ih => exact ih (endTurnRec_few hk hfew) (hfew.sentAgain n)

theorem queue_sentAgain (l : List Nat) (k : Truck) : (l.foldl (fun k n => k.sentAgain n) k).queue = k.queue.map fun r =>
    if r.seq ∈ l ∧ r.inFlight = true then { r with inFlight := false, attempts := r.attempts + 1 } else r := by
  induction l generalizing k with
  | nil => simp
  | cons n l ih =>
    rw [List.foldl_cons, ih, Truck.sentAgain, List.map_map]
    refine List.map_congr_left fun r _ => ?_
    by_cases hflight : r.inFlight = true
    · by_cases hn : r.seq = n <;> simp [hn, hflight]
    · simp [hflight]

/-- Each record in flight loses its mark and counts an attempt, where none comes to its eighth sending (R122). -/
theorem endTurnQueue_few {s : State} {t : Nat} {k : Truck} (hk : truckOf s t = some k) (hfew : k.fewSent) :
    ∃ b, truckOf (endTurnQueue s t) t = some b ∧ b.queue = k.queue.map fun r =>
      if r.inFlight = true then { r with inFlight := false, attempts := r.attempts + 1 } else r := by
  have hqueue := queue_sentAgain ((k.queue.filter Rec.inFlight).map Rec.seq) k
  refine ⟨_, ?_, hqueue.trans (List.map_congr_left fun r hr => ?_)⟩
  · simp only [endTurnQueue, hk]
    exact endTurnRecs_few _ hk hfew
  · refine if_congr ⟨And.right, fun hflight => ⟨List.mem_map_of_mem ?_, hflight⟩⟩ rfl rfl
    exact List.mem_filter.mpr ⟨hr, hflight⟩

/-- The truck of a turn missed: its count raised, its watches as they were (R9, R139). -/
theorem truckOf_turnMissed {s : State} {x : Turn} {k : Truck} (hk : truckOf s x.truck = some k) :
    ∃ k', truckOf (turnMissed s x) x.truck = some k' ∧
      k'.miss = (if k.reach = .absent then k.miss else min (k.miss + 1) 6) ∧ k'.w1 = k.w1 ∧ k'.w2 = k.w2 ∧
      (k.fewSent → k'.queue = k.queue.map fun r =>
        if r.inFlight = true then { r with inFlight := false, attempts := r.attempts + 1 } else r) := by
  obtain ⟨b, hb, hframe⟩ := endTurnQueue_crewKept s x.truck k hk
  have hreach : b.reach = k.reach := by rw [hframe]
  have hmiss : b.miss = k.miss := by rw [hframe]
  have hqueue (hfew : k.fewSent) : b.queue = k.queue.map fun r =>
      if r.inFlight = true then { r with inFlight := false, attempts := r.attempts + 1 } else r := by
    obtain ⟨a, ha, hmap⟩ := endTurnQueue_few hk hfew
    rwa [Option.some.inj (hb.symm.trans ha)]
  have hcleared : truckOf (clearTurn (endTurnQueue s x.truck)) x.truck = some b := hb
  have hw : b.w1 = k.w1 ∧ b.w2 = k.w2 := ⟨by rw [hframe], by rw [hframe]⟩
  by_cases habsent : k.reach = .absent
  · refine ⟨b, ?_, by rw [if_pos habsent, hmiss], hw.1, hw.2, hqueue⟩
    exact (congrArg (truckOf · x.truck) (missedTurn_absent hcleared (hreach.trans habsent))).trans hb
  · have hcounts := missedTurn_counts hcleared (hreach ▸ habsent)
    have hcapped : (if b.miss < 6 then b.miss + 1 else 6) = min (b.miss + 1) 6 := by split_ifs <;> omega
    rw [hcapped] at hcounts
    exact ⟨_, (congrArg (truckOf · x.truck) hcounts).trans (truckOf_setReach_self hcleared _ _),
      by rw [if_neg habsent, hmiss], hw.1, hw.2, hqueue⟩

end Sys2Proof.Machine

/-!
PROOFS. The start of a cycle, and the Scheduler's moments (R135, R136, R137, R139, R141 to R143).
-/
namespace Sys2Proof.Machine

-- The proofs are taken one after another: side by side they wait for each other in more threads than the check can hold.
set_option Elab.async false

/-! ## The start of a cycle (R135) -/

/-- What a cycle start settles of the cycle, before its first turn. -/
def cycleFigures (s : State) : Nat × Nat × Nat × Bool × Nat × Option Nat × List BandEntry × List (Option BandEntry) :=
  (s.air.cycle, s.air.startTime, s.air.nextStart, s.air.startReached, s.air.rate, s.air.rateWaiting, s.load.table, s.load.staged)

theorem cycleFigures_beginTurn (s : State) (n : Nat) (kind : TurnKind) :
    cycleFigures (beginTurn s n kind) = cycleFigures s := by
  cases ht : truckOf s n with
  | none => simp only [beginTurn, ht]
  | some t =>
    rw [beginTurn_eq ht]
    rfl

theorem cycleFigures_enterGap (s : State) : cycleFigures (enterGap s) = cycleFigures s := by
  unfold enterGap askInGap
  split
  · exact cycleFigures_beginTurn _ _ _
  · rfl

theorem cycleFigures_enterWindow (s : State) : cycleFigures (enterWindow enterGap s) = cycleFigures s := by
  unfold enterWindow
  split
  · exact cycleFigures_enterGap s
  · rfl

theorem cycleFigures_takeEntries (l : List ListEntry) (s : State) :
    cycleFigures (takeEntries enterGap l s) = cycleFigures s := by
  induction l with
  | nil => exact cycleFigures_enterWindow _
  | cons e l ih =>
    unfold takeEntries
    split
    · exact ih
    · exact cycleFigures_beginTurn _ _ _

theorem cycleFigures_startCycle (s : State) : cycleFigures (startCycle false s) =
    ((s.air.cycle + 1) % 256, s.nowMs, s.nowMs + (bandEntryInForce s).interval * 1000, false,
      s.air.rateWaiting.getD s.air.rate, none, List.zipWith (fun e x => x.getD e) s.load.table s.load.staged,
      s.load.staged.map fun _ => none) := by
  rw [startCycle_eq, cycleFigures_takeEntries]
  rfl

theorem listed_cycleBegun (s : State) (t : Truck) : listed (cycleBegun false s) t =
    ((routeOf s t).all (fun m => !isDown s m) &&
      (t.reach == .reachable || t.reach == .missed || (t.reach == .lost && (s.air.cycle + 1) % 256 % 4 == 0))) := by
  rw [← List.not_any_eq_all_not]
  rfl

/-- A cycle start polls the first truck it lists (R135 step 6). -/
theorem startCycle_first {s : State} {t : Truck} {l : List Truck}
    (h : s.trucks.filter (listed (cycleBegun false s)) = t :: l) (ht : truckOf s t.num = some t) :
    ∃ b, startCycle false s = beginTurn b t.num .rollCall ∧ b = { cycleBegun false s with air := { (cycleBegun false s).air with
      list := l.map fun t : Truck => ({ truck := t.num, live := true } : ListEntry) } } := by
  have hlisted : listed (cycleBegun false s) t = true := by
    have hmem : t ∈ s.trucks.filter (listed (cycleBegun false s)) := h ▸ List.mem_cons_self
    exact (List.mem_filter.mp hmem).2
  have hlist := congrArg (List.map fun t : Truck => ({ truck := t.num, live := true } : ListEntry)) h
  change formList (cycleBegun false s) = _ at hlist
  have hroute : passesDown s (routeOf s t) = false := by
    have hboth := Bool.and_eq_true_iff.mp hlisted
    exact (Bool.not_eq_true' _).mp hboth.1
  refine ⟨_, ?_, rfl⟩
  rw [startCycle_eq, hlist, List.map_cons]
  refine takeEntries_first (fun hpassed => ?_) _
  rcases (passOver_iff _).mp hpassed with hdead | hdown
  · exact Bool.noConfusion hdead
  · exact Bool.noConfusion ((hdown t ht).symm.trans hroute)

/-! ## The moments as commands (R139, R142, R143) -/

section
variable {s : State} (h : Live s)
include h

theorem exec_cycleStart : exec .cycleStart s = .next (settleEvent (if startDue s = true then reachStart s else s)) :=
  event_live (fun s => if startDue s then reachStart s else s) h.1

theorem exec_openWindowEnd : exec .openWindowEnd s = .next (settleEvent (if windowEndDue s = true then pastWindow s else s)) :=
  event_live (fun s => if windowEndDue s then pastWindow s else s) h.1

theorem settle_startCycle : settleEvent (startCycle false s) = startCycle false s :=
  settleEvent_of_quiet ((startCycle_keeps false s .askArb (by decide)).trans h.2)

theorem settle_pastWindow : settleEvent (pastWindow s) = pastWindow s :=
  settleEvent_of_quiet ((pastWindow_keeps s .askArb (by decide)).trans h.2)

end

theorem goOn_list {s : State} (h : s.air.phase = .list) : goOn s = goOnInList s := by simp only [goOn, h]

theorem goOn_gap {s : State} (h : s.air.phase = .gap) :
    goOn s = if s.air.startReached = true then startCycle false s else askInGap s := by simp only [goOn, h]

theorem hopSum_of_sites {s u : State} (h : u.sites = s.sites) (l : List Nat) : hopSum u l = hopSum s l := by
  rw [hopSum_eq, hopSum_eq]
  unfold siteOf
  rw [h]

/-- Settles O49: the parts of the Scheduler, then its moments. -/
theorem schedulerMoments : Obligations.SchedulerMoments := by
  unfold Obligations.SchedulerMoments
  refine ⟨fun s => ⟨?settled, rfl⟩, fun c => by cases c <;> rfl, hopSum_eq, fun s n kind t ht => ?turn,
    fun s hasc => ⟨arbiterPick_iff hasc, arbiterPick_none_iff hasc⟩, fun s => ⟨rfl, ?_, ?_, rfl⟩, fun past s => ?entries,
    fun s h => ⟨fun hearly => ?_, fun hdue hfresh => ?start, fun hearly => ?_, fun hphase hended => ?window,
      exec_windowClosing_idle h, fun x hx hclosed habandoned => ?_, fun x k hx hclosed hkept hk => ?missed, ?cycle⟩⟩
  case settled =>
    unfold settleEvent
    dsimp only
    by_cases hask : s.askArb = true
    · simp only [hask, if_true, true_and]
      rfl
    · simp [hask]
  case turn =>
    refine ⟨_, t.queue.take (leading s.air.budget t.queue), t.queue.drop (leading s.air.budget t.queue),
      turnOf s n t kind, rfl, (List.take_append_drop _ _).symm, leading_fits _ _,
      List.length_take_of_le (leading_le _ _), fun r hr => leading_stops _ _ hr, ?_, fun m hm => ?_, fun p i => ?_,
      fun m p hp => permitOf_beginTurn ht kind hp, ?_, beginTurn_eq ht kind⟩
    · rw [truckOf_beginTurn ht, ht, Option.map_some, if_pos rfl, Truck.polled, markLeading_eq]
    · rw [truckOf_beginTurn ht]
      simp [hm]
    · exact stepIn_beginTurn ht kind p i
    · have hoctets := turnOctets_eq s t
      dsimp only
      rw [← hoctets]
      rfl
  · exact fun hphase => (goOn_list hphase).trans rfl
  · exact goOn_gap
  case entries =>
    intro passed
    have hpassed {l : List ListEntry} (hl : ∀ x ∈ l, passed x) : ∀ x ∈ l, passOver s x = true := fun x hx =>
      (passOver_iff x).mpr (hl x hx)
    exact ⟨fun l1 e l2 hl he => takeEntries_next (hpassed hl) (mt (passOver_iff e).mp he) l2,
      fun l hl => takeEntries_passed (hpassed hl), enterWindow_none past, fun hslots => enterWindow_some past (by omega)⟩
  · have hno : ¬startDue s = true := fun hdue => by
      obtain ⟨hreached, hfresh⟩ := (startDue_iff s).mp hdue
      rcases hearly with hearly | htaken
      · omega
      · exact Bool.noConfusion (hfresh.symm.trans htaken)
    rw [exec_cycleStart h, if_neg hno, settleEvent_of_quiet h.2]
  case start =>
    rw [exec_cycleStart h, if_pos ((startDue_iff s).mpr ⟨hdue, hfresh⟩)]
    refine congrArg Host.Outcome.next ?_
    cases hphase : s.air.phase with
    | list | window =>
      simp only [reachStart, hphase, ne_eq, reduceCtorEq, not_false_eq_true, if_true]
      exact settleEvent_of_quiet (s := { s with air := _ }) h.2
    | gap =>
      simp only [reachStart, hphase, ne_eq, not_true_eq_false, if_false]
      cases hturn : s.air.turn with
      | none => exact settle_startCycle h
      | some x => exact settleEvent_of_quiet (s := { s with air := _ }) h.2
  · have hno : ¬windowEndDue s = true := fun hdue => by
      obtain ⟨hphase, hended⟩ := (windowEndDue_iff s).mp hdue
      rcases hearly with hother | hearly
      · exact hother hphase
      · omega
    rw [exec_openWindowEnd h, if_neg hno, settleEvent_of_quiet h.2]
  case window =>
    rw [exec_openWindowEnd h, if_pos ((windowEndDue_iff s).mpr ⟨hphase, hended⟩), settle_pastWindow h]
    rfl
  · rw [exec_windowClosing h hx hclosed, closeWindow_eq, if_pos habandoned]
    rfl
  case missed =>
    obtain ⟨k', hk', hmiss, hw1, hw2, hqueue⟩ := truckOf_turnMissed (x := x) hk
    refine ⟨turnMissed s x, k', ?_, turnMissed_air s x, hk', hmiss, hw1, hw2, hqueue⟩
    rw [exec_windowClosing h hx hclosed, closeWindow_eq, if_neg (by simp [hkept])]
  case cycle =>
    obtain ⟨hcycle, hstart, hnext, hreached, hrate, hwaiting, htable, hstaged⟩ :
        _ ∧ _ ∧ _ ∧ _ ∧ _ ∧ _ ∧ _ ∧ _ := by simpa only [cycleFigures, Prod.mk.injEq] using cycleFigures_startCycle s
    refine ⟨_, rfl, hcycle, hstart, hnext, hreached, hrate, hwaiting, htable, hstaged, fun t l hlist ht => ?_⟩
    rw [← funext (listed_cycleBegun s)] at hlist
    obtain ⟨b, hbegun, hb⟩ := startCycle_first hlist ht
    have hbt : truckOf b t.num = some t := by rw [hb]; exact ht
    have hhops : hopSum b (routeOf s t) = hopSum s (routeOf s t) := hopSum_of_sites (by rw [hb]; rfl) _
    subst hb
    rw [hbegun, beginTurn_eq hbt]
    exact ⟨rfl, rfl, _, rfl, rfl, rfl, rfl, rfl, congrArg (_ + 2 * ·) hhops, rfl⟩

end Sys2Proof.Machine
